-- ==== Sys2Proof/Word.lean ====
section
/-! DEFINITION. The KT-4's plainest types: a byte of the serial line and a slot of the tray ring. -/

namespace Sys2Proof

/-- A byte of the serial line (section 11.1). -/
abbrev Byte := BitVec 8

/-- A position of the tray ring, 0..90; its arithmetic is modulo 91 (R2). -/
abbrev Slot := Fin 91

end Sys2Proof
end

