-- ==== Sys2Proof/Syntax.lean ====
section
/-! DEFINITION. The commands of the KT-4: one constructor of `Instr` for each row of spec/opcode_table.json, with
the operands its row carries, and the types those operands are made of. -/

namespace Sys2Proof

/-- The two lamps of the turret (section 4.1). -/
inductive Lamp where
  | a | b
  deriving DecidableEq, Repr, Inhabited

/-- A direction of the tray motor (R11) or of the tape (R153). -/
inductive Direction where
  | forward | backward
  deriving DecidableEq, Repr, Inhabited

/-- The curve of a fade (R45). -/
inductive Curve where
  | linear | smooth | user
  deriving DecidableEq, Repr, Inhabited

/-- A function of the key map (R173). -/
inductive KeyFunction where
  | nothing | forward | backward | focusNear | focusFar | blank | pause | returnShow
  | lightUp | lightDown | lamp | digit (d : Fin 10) | enter
  deriving DecidableEq, Repr, Inhabited

/-- What a motion entry does (R30): ADVANCE n, REVERSE n, GOTO s, HOME. -/
inductive Move where
  | advance (count : Nat) | back (count : Nat) | goto (slot : Slot) | home
  deriving DecidableEq, Repr, Inhabited

/-- An action of a LOAD_CUE request as its bytes give it, unchecked (R123, R203). `kind` and `value` of a change
spec are MOVE's kind number and its count or slot. -/
inductive RawAction where
  | change (kind value : Nat)
  | fade (target duration curve : Nat)
  | cut (outMs inMs kind value : Nat)
  | audio (volume ramp : Nat)
  | pause (hold : Nat)
  /-- An action kind that R123 does not list, with the seven bytes behind it. -/
  | unknown (kind : Nat) (body : List Byte)
  deriving DecidableEq, Repr

/-- A complete received frame less its lead byte; its count byte is the payload's length (section 11.1). -/
structure Frame where
  kind : Byte
  payload : List Byte
  check : Byte
  deriving DecidableEq, Repr

/-- One tone heard in a 5 ms block: its frequency in tenths of a hertz and its amplitude, averaged over the block,
in thousandths of full scale (R110). -/
structure Tone where
  deciHertz : Nat
  amplitude : Nat
  deriving DecidableEq, Repr

/-- A timed element of the infrared input: a mark or a space, and its length in microseconds (R168). -/
structure IrElement where
  mark : Bool
  micros : Nat
  deriving DecidableEq, Repr

/-- What an IR_FRAME command brings: the sixteen bits of a complete frame, most significant bit first on the air
(R168), or the timed elements themselves, which the receiver measures one after another (R169). -/
inductive IrInput where
  | bits (word : BitVec 16)
  | elements (list : List IrElement)
  deriving DecidableEq, Repr

/-- The commands. Request operands are the payload values of R203, unchecked; a sensor's command carries the level
the sensor goes to. -/
inductive Instr where
  -- host requests (R203)
  | setParam (number value : Nat)
  | getParam (number : Nat)
  | move (kind arg : Nat)
  | haltMotion
  | blank
  | getTray
  | fade (target duration curve : Nat)
  | setCurve (points : List Nat)
  | setResponse (points : List Nat)
  | getLight (selector : Nat)
  | lampOn
  | lampOff
  | setLampRecord (lamp wear life : Nat)
  | getLamps
  | temperature (value : Int)
  | getThermal
  | loadCue (number slot count : Nat) (actions : List RawAction)
  | deleteCue (number : Nat)
  | clearCues
  | getCue (selector value : Nat)
  | showStart (slot loops : Nat)
  | showPause
  | showResume
  | showStop
  | getShow
  | tapePlay
  | tapePause
  | tapeStop
  | tapeFastFwd
  | tapeRewind
  | volume (volume ramp : Nat)
  | getCueStats
  | clearCueStats
  | keyPress (code : Nat)
  | keyHold (code : Nat)
  | keyRelease (code : Nat)
  | setKeymap (start : Nat) (functions : List Nat)
  | getFaults
  | clearFaults
  | setReportEnables (values : List Nat)
  | reportsOff
  | reportsOn
  | standby
  | wake
  | reset
  | getStatus
  -- supply, reset and the serial line
  | powerOn
  | resetPin
  | softReset
  | frameReceived (frame : Frame)
  | framingError
  | gapTimerExpiry
  | takeFrame
  | placeOverrunReply
  | transmitDone
  -- tray and gate
  | trayRemoval
  | trayInsertion
  | takeEntry
  | settleExpiry
  | gateUp (active : Bool)
  | liftTimeout
  | liftReleaseExpiry
  | indexPulse (home : Bool)
  | stepTimeout
  | slidePresent (active : Bool)
  | dropTimeout
  | gateSeated (active : Bool)
  | seatTimeout
  -- light and lamps
  | fadeStep
  | turretSensor (lamp : Lamp) (active : Bool)
  | turretTimerExpiry
  | preheatExpiry
  | currentSenseActive (lamp : Lamp)
  | checkExpiry
  | retryWaitExpiry
  | burnoutWatchStart
  | currentSenseLost (lamp : Lamp)
  | litTimeExpiry
  -- heat and fan
  | windowEnd
  | slewExpiry
  | tachoPulse
  | fanStallTimerExpiry
  | cooldownSecondExpiry
  -- cue track, show and tape
  | blockTimerExpiry (tones : List Tone)
  | holdTimerExpiry
  | tapeBeginSensor (active : Bool)
  | tapeEndSensor (active : Bool)
  | brakePeriodEnd
  | stallTimerExpiry
  | reelPulse
  | rampTimerExpiry
  -- handset and clocks
  | irFrame (input : IrInput)
  | irRepeat
  | irTimingFault
  | releaseTimerExpiry
  | autoRepeatExpiry
  | focusTimerExpiry
  | clearTimerExpiry
  | secondsTick
  | byteReceived (byte : Byte)
  | resetPinRelease
  | backupSupplyLoss
  | mainPowerLoss
  deriving DecidableEq, Repr

end Sys2Proof
end

