-- ==== Sys2Proof/WellFormed.lean ====
section
/-! DEFINITION. When a command's operands fit the fields that carry them: the payload layouts of R203, the frame of
section 11.1. A command that is not well-formed is one no frame could bring; the meanings are total all the same. -/

namespace Sys2Proof

/-- A value sent in one byte. -/
abbrev fits1 (n : Nat) : Bool := decide (n < 256)
/-- A value sent in two bytes. -/
abbrev fits2 (n : Nat) : Bool := decide (n < 65536)
/-- A value sent in four bytes. -/
abbrev fits4 (n : Nat) : Bool := decide (n < 4294967296)

/-- The fields of one LOAD_CUE action, 8 bytes in all (R203). The kinds 0..4 are R123's five. -/
def RawAction.wf : RawAction → Bool
  | .change k v => fits1 k && fits1 v
  | .fade t d c => fits2 t && fits2 d && fits1 c
  | .cut o i k v => fits2 o && fits2 i && fits1 k && fits1 v
  | .audio v r => fits1 v && fits2 r
  | .pause h => fits2 h
  | .unknown k body => decide (5 ≤ k) && fits1 k && decide (body.length = 7)

/-- A frame's count byte is 0..48 (section 11.1). -/
def Frame.wf (f : Frame) : Bool := decide (f.payload.length ≤ 48)

/-- Every operand fits its field. Lists that R203 gives one length have it. -/
def Instr.wf : Instr → Bool
  | .setParam n v => fits1 n && fits2 v
  | .getParam n => fits1 n
  | .move k a => fits1 k && fits1 a
  | .haltMotion => true
  | .blank => true
  | .getTray => true
  | .fade t d c => fits2 t && fits2 d && fits1 c
  | .setCurve ps => decide (ps.length = 17) && ps.all fits2
  | .setResponse ps => decide (ps.length = 11) && ps.all fits2
  | .getLight n => fits1 n
  | .lampOn => true
  | .lampOff => true
  | .setLampRecord l w r => fits1 l && fits4 w && fits2 r
  | .getLamps => true
  | .temperature t => decide (-32768 ≤ t) && decide (t < 32768)
  | .getThermal => true
  | .loadCue n sl c as =>
      fits2 n && fits1 sl && fits1 c && decide (c = as.length ∨ c = 0 ∨ 4 < c) && decide (1 ≤ as.length) &&
        decide (as.length ≤ 4) && as.all RawAction.wf
  | .deleteCue n => fits2 n
  | .clearCues => true
  | .getCue k v => fits1 k && fits2 v
  | .showStart s l => fits1 s && fits2 l
  | .showPause => true
  | .showResume => true
  | .showStop => true
  | .getShow => true
  | .tapePlay => true
  | .tapePause => true
  | .tapeStop => true
  | .tapeFastFwd => true
  | .tapeRewind => true
  | .volume v r => fits1 v && fits2 r
  | .getCueStats => true
  | .clearCueStats => true
  | .keyPress c => fits1 c
  | .keyHold c => fits1 c
  | .keyRelease c => fits1 c
  | .setKeymap s fs => fits1 s && decide (fs.length ≤ 16) && fs.all fits1
  | .getFaults => true
  | .clearFaults => true
  | .setReportEnables vs => decide (vs.length = 39) && vs.all fits1
  | .reportsOff => true
  | .reportsOn => true
  | .standby => true
  | .wake => true
  | .reset => true
  | .getStatus => true
  | .powerOn => true
  | .resetPin => true
  | .softReset => true
  | .frameReceived f => f.wf
  | .framingError => true
  | .gapTimerExpiry => true
  | .takeFrame => true
  | .placeOverrunReply => true
  | .transmitDone => true
  | .trayRemoval => true
  | .trayInsertion => true
  | .takeEntry => true
  | .settleExpiry => true
  | .gateUp _ => true
  | .liftTimeout => true
  | .liftReleaseExpiry => true
  | .indexPulse _ => true
  | .stepTimeout => true
  | .slidePresent _ => true
  | .dropTimeout => true
  | .gateSeated _ => true
  | .seatTimeout => true
  | .fadeStep => true
  | .turretSensor _ _ => true
  | .turretTimerExpiry => true
  | .preheatExpiry => true
  | .currentSenseActive _ => true
  | .checkExpiry => true
  | .retryWaitExpiry => true
  | .burnoutWatchStart => true
  | .currentSenseLost _ => true
  | .litTimeExpiry => true
  | .windowEnd => true
  | .slewExpiry => true
  | .tachoPulse => true
  | .fanStallTimerExpiry => true
  | .cooldownSecondExpiry => true
  | .blockTimerExpiry tones => tones.all fun t => decide (t.amplitude ≤ 1000)
  | .holdTimerExpiry => true
  | .tapeBeginSensor _ => true
  | .tapeEndSensor _ => true
  | .brakePeriodEnd => true
  | .stallTimerExpiry => true
  | .reelPulse => true
  | .rampTimerExpiry => true
  | .irFrame _ => true
  | .irRepeat => true
  | .irTimingFault => true
  | .releaseTimerExpiry => true
  | .autoRepeatExpiry => true
  | .focusTimerExpiry => true
  | .clearTimerExpiry => true
  | .secondsTick => true
  | .byteReceived _ => true
  | .resetPinRelease => true
  | .backupSupplyLoss => true
  | .mainPowerLoss => true

end Sys2Proof
end

