-- ==== Sys2Proof/Decode.lean ====
section
/-! DEFINITION. What the table's bits spell (they spell nothing: no row of spec/opcode_table.json has bits), and the
request layouts of R203: from a frame's kind and payload to a request, and back. -/

namespace Sys2Proof

/-- The command that a word spells by the table's bits. The table gives no row any bits, so no word spells one. -/
def decodeTableWord (_nbits _w : Nat) : Option Instr := none

/-- A two-byte value, most significant byte first (section 11.1). -/
def be2 (hi lo : Byte) : Nat := hi.toNat * 256 + lo.toNat

/-- A four-byte value, most significant byte first. -/
def be4 (b3 b2 b1 b0 : Byte) : Nat := be2 b3 b2 * 65536 + be2 b1 b0

/-- A two-byte value in two's complement (TEMPERATURE, R203). -/
def signed2 (hi lo : Byte) : Int := if be2 hi lo < 32768 then be2 hi lo else (be2 hi lo : Int) - 65536

/-- A value in one byte. -/
def put1 (n : Nat) : Byte := BitVec.ofNat 8 n

/-- A value in two bytes, most significant first. -/
def put2 (n : Nat) : List Byte := [put1 (n / 256), put1 n]

/-- A value in four bytes, most significant first. -/
def put4 (n : Nat) : List Byte := put2 (n / 65536) ++ put2 (n % 65536)

/-- A list of two-byte values; a byte left over is dropped (the counts of R203 leave none). -/
def words : List Byte → List Nat
  | h :: l :: rest => be2 h l :: words rest
  | _ => []

/-- The kind number of an action: R123's list from 0 (R203). -/
def decodeAction (kind : Byte) (body : List Byte) : RawAction :=
  match kind.toNat, body with
  | 0, k :: v :: _ => .change k.toNat v.toNat
  | 1, t1 :: t0 :: d1 :: d0 :: c :: _ => .fade (be2 t1 t0) (be2 d1 d0) c.toNat
  | 2, o1 :: o0 :: i1 :: i0 :: k :: v :: _ => .cut (be2 o1 o0) (be2 i1 i0) k.toNat v.toNat
  | 3, v :: r1 :: r0 :: _ => .audio v.toNat (be2 r1 r0)
  | 4, h1 :: h0 :: _ => .pause (be2 h1 h0)
  | n, body => .unknown n body

/-- The actions of a LOAD_CUE, eight bytes each (R203). -/
def decodeActions : List Byte → List RawAction
  | k :: b1 :: b2 :: b3 :: b4 :: b5 :: b6 :: b7 :: rest =>
      decodeAction k [b1, b2, b3, b4, b5, b6, b7] :: decodeActions rest
  | _ => []

/-- The eight bytes of an action, the rest of them 0 (R203). -/
def encodeAction : RawAction → List Byte
  | .change k v => [0, put1 k, put1 v, 0, 0, 0, 0, 0]
  | .fade t d c => 1 :: (put2 t ++ put2 d ++ [put1 c, 0, 0])
  | .cut o i k v => 2 :: (put2 o ++ put2 i ++ [put1 k, put1 v, 0])
  | .audio v r => 3 :: put1 v :: (put2 r ++ [0, 0, 0, 0])
  | .pause h => 4 :: (put2 h ++ [0, 0, 0, 0, 0])
  | .unknown k body => put1 k :: body

/-- The byte counts a LOAD_CUE may have (R203). -/
def loadCueCount (n : Nat) : Bool := n = 12 || n = 20 || n = 28 || n = 36

/-- What the checks of R200 before the power-state check find in a frame: a request; a request of a known kind and
count whose one selecting value names no row of the table (a TAPE order, a KEY action, a REPORTS value), which its
rule refuses with BAD_VALUE; a count its kind does not allow; a kind that is no request kind. -/
inductive Decoded where
  | request (i : Instr)
  | unspelled
  | badLength
  | unknownKind
  deriving DecidableEq, Repr

/-- A request kind whose count is 0. -/
def bare (i : Instr) (payload : List Byte) : Decoded := if payload.isEmpty then .request i else .badLength

/-- LOAD_CUE's layout and its count check (R203). -/
def decodeLoadCue (payload : List Byte) : Decoded :=
  match payload with
  | n1 :: n0 :: slot :: count :: rest =>
      if loadCueCount payload.length = false then .badLength
      else if 1 ≤ count.toNat ∧ count.toNat ≤ 4 ∧ payload.length ≠ 4 + 8 * count.toNat then .badLength
      else .request (.loadCue (be2 n1 n0) slot.toNat count.toNat (decodeActions rest))
  | _ => .badLength

/-- The TAPE orders, numbered from 0 as R161 lists them. -/
def tapeRequest (order : Byte) : Decoded :=
  match order.toNat with
  | 0 => .request .tapePlay
  | 1 => .request .tapePause
  | 2 => .request .tapeStop
  | 3 => .request .tapeFastFwd
  | 4 => .request .tapeRewind
  | _ => .unspelled

/-- The KEY actions PRESS 0, HOLD 1, RELEASE 2 (R203). -/
def keyRequest (code action : Byte) : Decoded :=
  match action.toNat with
  | 0 => .request (.keyPress code.toNat)
  | 1 => .request (.keyHold code.toNat)
  | 2 => .request (.keyRelease code.toNat)
  | _ => .unspelled

/-- The REPORTS values OFF 0, ON 1 (R203). -/
def reportsRequest (value : Byte) : Decoded :=
  match value.toNat with
  | 0 => .request .reportsOff
  | 1 => .request .reportsOn
  | _ => .unspelled

/-- The request layouts of R203. -/
def decodeRequest (kind : Byte) (payload : List Byte) : Decoded :=
  match kind.toNat with
  | 0x01 => match payload with
    | [n, v1, v0] => .request (.setParam n.toNat (be2 v1 v0))
    | _ => .badLength
  | 0x02 => match payload with
    | [n] => .request (.getParam n.toNat)
    | _ => .badLength
  | 0x08 => match payload with
    | [k, a] => .request (.move k.toNat a.toNat)
    | _ => .badLength
  | 0x09 => bare .haltMotion payload
  | 0x0A => bare .blank payload
  | 0x0B => bare .getTray payload
  | 0x10 => match payload with
    | [t1, t0, d1, d0, c] => .request (.fade (be2 t1 t0) (be2 d1 d0) c.toNat)
    | _ => .badLength
  | 0x11 => if payload.length = 34 then .request (.setCurve (words payload)) else .badLength
  | 0x12 => if payload.length = 22 then .request (.setResponse (words payload)) else .badLength
  | 0x13 => match payload with
    | [n] => .request (.getLight n.toNat)
    | _ => .badLength
  | 0x18 => bare .lampOn payload
  | 0x19 => bare .lampOff payload
  | 0x1A => match payload with
    | [l, w3, w2, w1, w0, r1, r0] => .request (.setLampRecord l.toNat (be4 w3 w2 w1 w0) (be2 r1 r0))
    | _ => .badLength
  | 0x1B => bare .getLamps payload
  | 0x20 => match payload with
    | [t1, t0] => .request (.temperature (signed2 t1 t0))
    | _ => .badLength
  | 0x21 => bare .getThermal payload
  | 0x28 => decodeLoadCue payload
  | 0x29 => match payload with
    | [n1, n0] => .request (.deleteCue (be2 n1 n0))
    | _ => .badLength
  | 0x2A => bare .clearCues payload
  | 0x2B => match payload with
    | [k, v1, v0] => .request (.getCue k.toNat (be2 v1 v0))
    | _ => .badLength
  | 0x2C => match payload with
    | [s, l1, l0] => .request (.showStart s.toNat (be2 l1 l0))
    | _ => .badLength
  | 0x2D => bare .showPause payload
  | 0x2E => bare .showResume payload
  | 0x2F => bare .showStop payload
  | 0x30 => bare .getShow payload
  | 0x38 => match payload with
    | [o] => tapeRequest o
    | _ => .badLength
  | 0x39 => match payload with
    | [v, r1, r0] => .request (.volume v.toNat (be2 r1 r0))
    | _ => .badLength
  | 0x3C => bare .getCueStats payload
  | 0x3D => bare .clearCueStats payload
  | 0x40 => match payload with
    | [c, a] => keyRequest c a
    | _ => .badLength
  | 0x41 => match payload with
    | s :: fs => if fs.length ≤ 16 then .request (.setKeymap s.toNat (fs.map (·.toNat))) else .badLength
    | [] => .badLength
  | 0x48 => bare .getFaults payload
  | 0x49 => bare .clearFaults payload
  | 0x4A => if payload.length = 39 then .request (.setReportEnables (payload.map (·.toNat))) else .badLength
  | 0x4B => match payload with
    | [v] => reportsRequest v
    | _ => .badLength
  | 0x50 => bare .standby payload
  | 0x51 => bare .wake payload
  | 0x52 => bare .reset payload
  | 0x53 => bare .getStatus payload
  | _ => .unknownKind

/-- A request's kind byte and payload (R203); none for the rows that are no requests. -/
def encodeRequest : Instr → Option (Byte × List Byte)
  | .setParam n v => some (0x01, put1 n :: put2 v)
  | .getParam n => some (0x02, [put1 n])
  | .move k a => some (0x08, [put1 k, put1 a])
  | .haltMotion => some (0x09, [])
  | .blank => some (0x0A, [])
  | .getTray => some (0x0B, [])
  | .fade t d c => some (0x10, put2 t ++ put2 d ++ [put1 c])
  | .setCurve ps => some (0x11, ps.flatMap put2)
  | .setResponse ps => some (0x12, ps.flatMap put2)
  | .getLight n => some (0x13, [put1 n])
  | .lampOn => some (0x18, [])
  | .lampOff => some (0x19, [])
  | .setLampRecord l w r => some (0x1A, put1 l :: (put4 w ++ put2 r))
  | .getLamps => some (0x1B, [])
  | .temperature t => some (0x20, put2 (t % 65536).toNat)
  | .getThermal => some (0x21, [])
  | .loadCue n sl c as => some (0x28, put2 n ++ [put1 sl, put1 c] ++ as.flatMap encodeAction)
  | .deleteCue n => some (0x29, put2 n)
  | .clearCues => some (0x2A, [])
  | .getCue k v => some (0x2B, put1 k :: put2 v)
  | .showStart sl l => some (0x2C, put1 sl :: put2 l)
  | .showPause => some (0x2D, [])
  | .showResume => some (0x2E, [])
  | .showStop => some (0x2F, [])
  | .getShow => some (0x30, [])
  | .tapePlay => some (0x38, [0])
  | .tapePause => some (0x38, [1])
  | .tapeStop => some (0x38, [2])
  | .tapeFastFwd => some (0x38, [3])
  | .tapeRewind => some (0x38, [4])
  | .volume v r => some (0x39, put1 v :: put2 r)
  | .getCueStats => some (0x3C, [])
  | .clearCueStats => some (0x3D, [])
  | .keyPress c => some (0x40, [put1 c, 0])
  | .keyHold c => some (0x40, [put1 c, 1])
  | .keyRelease c => some (0x40, [put1 c, 2])
  | .setKeymap st fs => some (0x41, put1 st :: fs.map put1)
  | .getFaults => some (0x48, [])
  | .clearFaults => some (0x49, [])
  | .setReportEnables vs => some (0x4A, vs.map put1)
  | .reportsOff => some (0x4B, [0])
  | .reportsOn => some (0x4B, [1])
  | .standby => some (0x50, [])
  | .wake => some (0x51, [])
  | .reset => some (0x52, [])
  | .getStatus => some (0x53, [])
  | _ => none

/-- A request's kind byte; 0, which is no request kind, for the rows that are no requests. -/
def requestKind (i : Instr) : Byte := ((encodeRequest i).map (·.1)).getD 0

/-- Whether the operands of a request given as a row have a length its kind allows (R203). -/
def lengthOk : Instr → Bool
  | .setCurve ps => decide (ps.length = 17)
  | .setResponse ps => decide (ps.length = 11)
  | .loadCue _ _ c as => decide (c = 0 ∨ 4 < c ∨ c = as.length)
  | .setKeymap _ fs => decide (fs.length ≤ 16)
  | .setReportEnables vs => decide (vs.length = 39)
  | _ => true

end Sys2Proof
end

