-- ==== Sys2Proof/Machine/Tables.lean ====
section
/-! DEFINITION. The tables the spec prints: the SMOOTH curve, the default tables and the default key map. -/

namespace Sys2Proof.Machine

/-- The SMOOTH table, fixed in the part (R53). -/
def smoothTable : Vector Nat 17 :=
  #v[0, 46, 176, 378, 640, 950, 1296, 1666, 2048, 2430, 2800, 3146, 3456, 3718, 3920, 4050, 4096]

/-- The USER table at a cold power-on: 0, 256, 512, ... 4096 (R61). -/
def straightTable : Vector Nat 17 :=
  #v[0, 256, 512, 768, 1024, 1280, 1536, 1792, 2048, 2304, 2560, 2816, 3072, 3328, 3584, 3840, 4096]

/-- The default response table (R58). -/
def defaultResponse : Vector Nat 11 := #v[0, 310, 430, 520, 600, 670, 740, 810, 880, 950, 1023]

/-- The default function of one key code (R173). -/
def defaultKey (code : Nat) : KeyFunction :=
  match code with
  | 1 => .forward
  | 2 => .backward
  | 3 => .focusNear
  | 4 => .focusFar
  | 5 => .blank
  | 6 => .pause
  | 7 => .returnShow
  | 8 => .lightUp
  | 9 => .lightDown
  | 10 => .lamp
  | 26 => .enter
  | n => if h : 16 ≤ n ∧ n ≤ 25 then .digit ⟨n - 16, by omega⟩ else .nothing

/-- The default key map (R173). -/
def defaultKeymap : Vector KeyFunction 128 := ⟨((List.range 128).map defaultKey).toArray, by simp⟩

/-- Report enables of the nine event classes after a reset, in catalogue order: all but CHANGE_DONE and KEY_SEEN
(R191). -/
def defaultEventEnables : Vector Bool 9 := #v[false, true, true, true, true, true, true, true, false]

end Sys2Proof.Machine
end

