-- ==== Sys2Proof/Machine/State.lean ====
section
/-! DEFINITION. The state of the KT-4: every record, register, counter, queue and pin the spec gives it, as plain
data; the state right after a reset; and the block updates the meanings are written with. -/

namespace Sys2Proof.Machine

/-- Reasons a step could stop with a fault. There is none: every command of the table has an effect on the state (a
fault of the spec, T1 to N1, is a record in the Fault Unit, R184). Raised by nobody; safe. -/
inductive Fault where
  deriving DecidableEq, Repr

/-- Reasons a step could refuse a command. -/
inductive Refusal where
  /-- The command has no meaning yet. Raised only by an arm of `exec` that names its row; safe. -/
  | notModelled (mnemonic : String)
  deriving DecidableEq, Repr

/-! ## Pins -/

/-- Levels of the level-sensitive inputs (00_scope.md, "Signals and physical matters"). They are the world's, so
they change whether or not the part listens. -/
structure Pins where
  trayPresent : Bool
  gateUp : Bool
  gateSeated : Bool
  slidePresent : Bool
  home : Bool
  turretA : Bool
  turretB : Bool
  senseA : Bool
  senseB : Bool
  tapeBegin : Bool
  tapeEnd : Bool
  resetPin : Bool
  deriving DecidableEq, Repr, Inhabited

/-! ## Retained section (section 11.7) -/

/-- Tray position (R2). -/
inductive Position where
  | known (slot : Slot) | unknown
  deriving DecidableEq, Repr, Inhabited

/-- An entry of the occupancy map (R3). -/
inductive Occupancy where
  | unseen | occupied | empty
  deriving DecidableEq, Repr, Inhabited

/-- State of a lamp (R71). -/
inductive LampState where
  | ready | striking | lit | failed
  deriving DecidableEq, Repr, Inhabited

/-- A lamp record (R71). -/
structure LampRecord where
  state : LampState
  wear : Nat
  life : Nat
  strikes : Nat
  failures : Nat
  due : Bool
  deriving DecidableEq, Repr, Inhabited

/-- An action of a stored cue entry (R123); a change spec is an ADVANCE, REVERSE or GOTO. -/
inductive CueAction where
  | change (move : Move)
  | fade (target duration : Nat) (curve : Curve)
  | cut (outMs inMs : Nat) (move : Move)
  | audio (volume ramp : Nat)
  | pause (hold : Nat)
  deriving DecidableEq, Repr, Inhabited

/-- A cue entry (R123). -/
structure CueEntry where
  number : Nat
  actions : List CueAction
  expected : Option Nat
  deriving DecidableEq, Repr, Inhabited

/-- The parameter ROUNDING (R54). -/
inductive Rounding where
  | nearest | zero | up | down
  deriving DecidableEq, Repr, Inhabited

/-- The parameter STEP_ACTION (R135). -/
inductive StepAction where
  | advance | cut
  deriving DecidableEq, Repr, Inhabited

/-- The parameter LOCK_LEVEL (R174). -/
inductive LockLevel where
  | allOpen | showLock | locked
  deriving DecidableEq, Repr, Inhabited

/-- The sixteen parameters (R204). -/
structure Params where
  skipEmpty : Bool
  rounding : Rounding
  maxLevel : Nat
  floorLevel : Nat
  keepwarm : Bool
  keepwarmDrive : Nat
  cueSensitivity : Nat
  showLevel : Nat
  rewindOnStart : Bool
  resync : Bool
  stepAction : StepAction
  stepCutOut : Nat
  stepCutIn : Nat
  resumeRamp : Nat
  remoteChannel : Nat
  lockLevel : LockLevel
  deriving DecidableEq, Repr, Inhabited

/-- The retained section (section 11.7): what the backup supply keeps. -/
structure Retained where
  position : Position
  map : Vector Occupancy 91
  lampA : LampRecord
  lampB : LampRecord
  cues : List CueEntry
  user : Vector Nat 17
  response : Vector Nat 11
  keymap : Vector KeyFunction 128
  params : Params
  deriving DecidableEq, Repr, Inhabited

/-! ## Power-state logic (section 11.7) -/

/-- Power state. -/
inductive PowerMode where
  | active | windingDown | standby
  deriving DecidableEq, Repr, Inhabited

/-- Wind-down step (R206). -/
inductive WindStep where
  | fading | cooling
  deriving DecidableEq, Repr, Inhabited

/-- Kind of the last start. -/
inductive StartKind where
  | cold | warm | soft | wake | wakeCold
  deriving DecidableEq, Repr, Inhabited

/-- Whether the signature of the last start vouched for the retained section. -/
inductive SignatureOutcome where
  | valid | invalid
  deriving DecidableEq, Repr, Inhabited

/-- The signature over the retained section: erased, written and agreeing with the contents, or written over contents
that have been lost since (R207, R208). -/
inductive Signature where
  | absent | agrees | disagrees
  deriving DecidableEq, Repr, Inhabited

/-- The power record. -/
structure Power where
  powered : Bool
  mode : PowerMode
  step : Option WindStep
  startKind : StartKind
  outcome : SignatureOutcome
  signature : Signature
  deriving DecidableEq, Repr, Inhabited

/-! ## Motion Queue (R29, R30) -/

/-- Issuer of a motion entry (R31). -/
inductive Source where
  | theShow | remote | link
  deriving DecidableEq, Repr, Inhabited

/-- A motion entry; `active` is the state ACTIVE, its absence WAITING. -/
structure Motion where
  move : Move
  source : Source
  tag : Option Nat
  active : Bool
  deriving DecidableEq, Repr, Inhabited

/-- Why an entry left without completing (R43). -/
inductive CancelReason where
  | halt | showStop | jammed | refused | returned | standby
  deriving DecidableEq, Repr, Inhabited

/-! ## Tray and Gate Controller (01_slide_transport_and_the_change_cycle.md) -/

/-- Phase of the change cycle (R28). -/
inductive Phase where
  | ready | closing | lifting | indexing | dropping | seating | homing | jammed | unseated
  deriving DecidableEq, Repr, Inhabited

/-- Gate load (R4). -/
inductive GateLoad where
  | slide | empty | unknown
  deriving DecidableEq, Repr, Inhabited

/-- The timer of the cycle that is running: 40 ms settle, 600 ms lift, 200 ms release, 400 ms step, 300 ms drop,
250 ms seat (R8 to R15). -/
inductive CycleTimer where
  | settle | lift | release | step | drop | seat
  deriving DecidableEq, Repr, Inhabited

/-- The cycle record (section 1.3). `skipping`: a skip-empty repetition has begun; `pulses`: those counted in HOMING
(R21); `cancelReason`: what the cancel was for (R37). -/
structure CycleRecord where
  move : Move
  source : Source
  tag : Option Nat
  direction : Option Direction
  steps : Nat
  attempt : Nat
  seatRetried : Bool
  emptyDrops : Nat
  cancel : Bool
  cancelReason : CancelReason
  homeFirst : Bool
  skipping : Bool
  pulses : Nat
  deriving DecidableEq, Repr, Inhabited

/-- The TGC's dynamic state; position and map stand in the retained section. -/
structure Tgc where
  present : Bool
  phase : Phase
  gateLoad : GateLoad
  blank : Bool
  shutter : Bool
  lift : Bool
  motor : Option Direction
  timer : Option CycleTimer
  cycle : Option CycleRecord
  deriving DecidableEq, Repr, Inhabited

/-! ## Fade Engine (03_light_level_computation.md) -/

/-- Who issued a fade (R45). -/
inductive FadeOrigin where
  | theShow | remote | link | power
  deriving DecidableEq, Repr, Inhabited

/-- The fade record (R45). -/
structure FadeRecord where
  start : Nat
  target : Nat
  total : Nat
  index : Nat
  curve : Curve
  origin : FadeOrigin
  tag : Option Nat
  deriving DecidableEq, Repr, Inhabited

/-- The FE's dynamic state. `ceiling`, `applied`, `drive` and `dark` are E, A, D and dark of the last run of stages 4
to 6; `dimmer` is the value on the lamp dimmer output (R59). -/
structure Fe where
  level : Nat
  fade : Option FadeRecord
  pendingUser : Option (Vector Nat 17)
  pendingResponse : Option (Vector Nat 11)
  ceiling : Nat
  applied : Nat
  drive : Nat
  dark : Bool
  dimmer : Nat
  timer : Bool
  deriving DecidableEq, Repr, Inhabited

/-! ## Lamp Turret Controller (04_lamp_turret_and_lamp_records.md) -/

/-- Turret position (R69). -/
inductive TurretPosition where
  | facing (lamp : Lamp) | moving
  deriving DecidableEq, Repr, Inhabited

/-- Phase of the strike sequence (section 4.3). -/
inductive StrikePhase where
  | idle | turning | preheat | check | retryWait
  deriving DecidableEq, Repr, Inhabited

/-- Who waits for a strike (R73). -/
inductive StrikeOrigin where
  | link | theShow | remote | changeover
  deriving DecidableEq, Repr, Inhabited

/-- The strike sequence (section 4.3). -/
structure Strike where
  phase : StrikePhase
  lamp : Lamp
  origins : List StrikeOrigin
  follow : Bool
  retried : Bool
  deriving DecidableEq, Repr, Inhabited

/-- The burn-out watch (R80, R88). -/
inductive Watch where
  | running | suspended | settling
  deriving DecidableEq, Repr, Inhabited

/-- The LTC's dynamic state; the lamp records stand in the retained section. The turret motor runs while `target` is
present. -/
structure Ltc where
  position : TurretPosition
  target : Option Lamp
  strike : Strike
  sub : Nat
  timer : Bool
  watch : Option Watch
  deriving DecidableEq, Repr, Inhabited

/-- Cause carried by LAMP_STATE (R72). -/
inductive LampCause where
  | strike | burnout | lampOff | forcedOff | record
  deriving DecidableEq, Repr, Inhabited

/-! ## Thermal Unit (R91) -/

/-- Thermal state (R95). -/
inductive ThermalState where
  | unread | normal | warm | hot | trip
  deriving DecidableEq, Repr, Inhabited

/-- Fan-stall monitor (R101). -/
inductive FanMonitor where
  | idle | watching | stalled
  deriving DecidableEq, Repr, Inhabited

/-- The THU's state. `timers`: the report-window and slew timers run. -/
structure Thu where
  reading : Option Int
  seeing : Bool
  window : Bool
  miss : Nat
  good : Nat
  state : ThermalState
  latch : Bool
  target : Nat
  effective : Nat
  fan : Nat
  monitor : FanMonitor
  cooldown : Option Nat
  timers : Bool
  deriving DecidableEq, Repr, Inhabited

/-! ## Cue Decoder (R108) -/

/-- Step tracker (R112). -/
inductive Tracker where
  | settling | idle | inBurst (span gap : Nat) | ignoring (gap : Nat)
  deriving DecidableEq, Repr, Inhabited

/-- Value of a cell of a cue word (R116). -/
inductive Cell where
  | zero | one | ambiguous
  deriving DecidableEq, Repr, Inhabited

/-- Word assembler (R115, R116); `values` are the cells decided so far, in order. -/
inductive Assembly where
  | waiting | starting (run : Nat) | assembling (cell block on : Nat) (values : List Cell)
  deriving DecidableEq, Repr, Inhabited

/-- An arrival (R118). -/
inductive Arrival where
  | step | tapeEnd | coded (number : Nat)
  deriving DecidableEq, Repr, Inhabited

/-- The first failing check of a cue word (R117). -/
inductive WordError where
  | ambiguous (cell : Nat) | parity | stop
  deriving DecidableEq, Repr, Inhabited

/-- The result of a completed cue word (R117). -/
inductive WordResult where
  | good (number : Nat) | failed (error : WordError)
  deriving DecidableEq, Repr, Inhabited

/-- The CDEC's state; CUE_SENSITIVITY is a retained parameter. -/
structure Cdec where
  gateOpen : Bool
  f1 : Bool
  f2 : Bool
  tracker : Tracker
  quiet : Nat
  word : Assembly
  noise : Nat
  collisions : Nat
  malformed : Nat
  frameErrors : Nat
  good : Nat
  lastArrival : Option Arrival
  lastError : Option WordError
  timer : Bool
  deriving DecidableEq, Repr, Inhabited

/-! ## Faults and events (10_faults_and_reports.md) -/

/-- The thirty fault codes in catalogue order, T1 to N1 (section 10.1). -/
inductive FaultCode where
  | liftRetried | gateJam | seatRetried | seatFailed | trayStall | homeNotFound | trayRemoved | slideMissing
  | trayEmpty | motionOverflow | strikeRetried | lampFailed | lampBurnout | noLamp | lampDue | turretStall
  | thermalBlind | overheat | fanStall | hot | cueMalformed | cueFrameError | unknownCue | cueSkip | cueBackward
  | cueOverrun | syncLost | tapeStall | tapeEnd | linkOverrun
  deriving DecidableEq, Repr, Inhabited

/-- Severity (R144). -/
inductive Severity where
  | note | degrade | hold | halt | shutdown
  deriving DecidableEq, Repr, Inhabited

/-- The nine event classes in catalogue order (section 10.1). -/
inductive EventClass where
  | changeDone | motionCancelled | fadeDone | cueTaken | showState | tapeState | lampState | cooldownDone | keySeen
  deriving DecidableEq, Repr, Inhabited

/-- The detail record (R185). -/
structure Detail where
  slot : Option Slot
  slideInGate : Bool
  cue : Option Nat
  skipped : Option Nat
  arrival : Option Arrival
  expected : Option Nat
  position : Option Position
  lamp : Option Lamp
  temperature : Option Int
  deriving DecidableEq, Repr, Inhabited

/-- A detail record with no field present. -/
def Detail.empty : Detail := ⟨none, false, none, none, none, none, none, none, none⟩

/-! ## Show Controller (R127) -/

/-- Show state (R127). -/
inductive ShowState where
  | stopped | starting | running | paused | held | excursion | looping
  deriving DecidableEq, Repr, Inhabited

/-- Why the show last stopped (R127). -/
inductive StopReason where
  | host | ended | shutdown | power | reset
  deriving DecidableEq, Repr, Inhabited

/-- Reason carried by SHOW_STATE (R128). -/
inductive ShowReason where
  | stop (reason : StopReason) | fault (code : FaultCode) | request | key | action | timer | notice
  deriving DecidableEq, Repr, Inhabited

/-- State of a part of the part list (R127). -/
inductive PartState where
  | outstanding | done | failed
  deriving DecidableEq, Repr, Inhabited

/-- The part list (R130, R138); a part that is not in the list is absent. -/
structure Parts where
  rewind : Option PartState
  goto : Option PartState
  strike : Option PartState
  fade : Option PartState
  deriving DecidableEq, Repr, Inhabited

/-- The empty part list. -/
def Parts.empty : Parts := ⟨none, none, none, none⟩

/-- An expected-slot check carried by an issued move (R136). -/
structure SlotCheck where
  cue : Nat
  expected : Nat
  deriving DecidableEq, Repr, Inhabited

/-- Phase of a CUT (R139, R140). -/
inductive CutPhase where
  | fadingOut | changing | fadingIn
  deriving DecidableEq, Repr, Inhabited

/-- The CUT record (R139). `check` waits here until the CUT_CHANGE item takes it (R136). -/
structure Cut where
  phase : CutPhase
  tag : Option Nat
  restore : Nat
  inMs : Nat
  move : Move
  check : Option SlotCheck
  deriving DecidableEq, Repr, Inhabited

/-- Purpose of an issued move (R134). -/
inductive Purpose where
  | start | loopReturn | excursionReturn | change | cutChange | step | resync
  deriving DecidableEq, Repr, Inhabited

/-- An item of the issued-move list (R134). -/
structure Issued where
  purpose : Purpose
  check : Option SlotCheck
  deriving DecidableEq, Repr, Inhabited

/-- The held record (R144); `hold` is the kind HOLD, its absence HALT. -/
structure HeldRecord where
  hold : Bool
  cause : FaultCode
  resume : ShowState
  deriving DecidableEq, Repr, Inhabited

/-- The excursion return register (R147). -/
inductive Register where
  | empty | known (slot : Slot) | unknown
  deriving DecidableEq, Repr, Inhabited

/-- A condition that a return from HELD waits on (R145). -/
inductive Obstacle where
  | trayJammed | positionUnknown | lampsFailed | turretBetween | tapeStall
  deriving DecidableEq, Repr, Inhabited

/-- The show record (R127); cue table and parameters stand in the retained section. `hold`: the hold timer runs, with
the hold time it was started at. -/
structure Shc where
  state : ShowState
  stopReason : Option StopReason
  startSlot : Option Slot
  loops : Nat
  loopsDone : Nat
  pointer : Nat
  parts : Parts
  cut : Option Cut
  cues : List Arrival
  issued : List Issued
  hold : Option Nat
  held : Option HeldRecord
  register : Register
  returning : Bool
  deriving DecidableEq, Repr, Inhabited

/-! ## Tape and Audio Controller (R153) -/

/-- Transport state (R153). -/
inductive Transport where
  | stopped | play | paused | fastFwd | rewind
  deriving DecidableEq, Repr, Inhabited

/-- The orders that move the tape (R155). -/
inductive MoveOrder where
  | play | fastFwd | rewind
  deriving DecidableEq, Repr, Inhabited

/-- Issuer of a transport order that can wait (R153). -/
inductive TapeIssuer where
  | theShow | link
  deriving DecidableEq, Repr, Inhabited

/-- A pending order (R153). -/
structure PendingOrder where
  order : MoveOrder
  issuer : TapeIssuer
  deriving DecidableEq, Repr, Inhabited

/-- Cause carried by TAPE_STATE (R162). -/
inductive TapeCause where
  | theShow | link | power | tapeBegin | tapeEnd | stall
  deriving DecidableEq, Repr, Inhabited

/-- A volume ramp in progress (R164). -/
structure Ramp where
  target : Nat
  interval : Nat
  deriving DecidableEq, Repr, Inhabited

/-- The transport record and the program audio (R153, R163); its outputs are `Tac.outputs`. `stallBrake`: the brake
period running follows a stall (R159). -/
structure Tac where
  state : Transport
  brake : Option Direction
  order : Option PendingOrder
  beginFlag : Bool
  endFlag : Bool
  counter : Nat
  stall : Bool
  stallBrake : Bool
  volume : Nat
  applied : Nat
  ramp : Option Ramp
  deriving DecidableEq, Repr, Inhabited

/-! ## Remote Receiver (R167) -/

/-- Receiver state (R167). -/
inductive Receiver where
  | idle | frame | held
  deriving DecidableEq, Repr, Inhabited

/-- What the receiver is timing (R169): nothing begun, the space after a leader mark, the trailing mark of a repeat,
or an element of a frame whose first `count` bits are `word`. -/
inductive Measure where
  | none | leaderSpace | repeatMark | bitMark (count word : Nat) | bitSpace (count word : Nat)
  deriving DecidableEq, Repr, Inhabited

/-- Where a press comes from (R167). -/
inductive KeySource where
  | handset | panel
  deriving DecidableEq, Repr, Inhabited

/-- The held key (R167); `permitted` is false after a press the lock level refused (R174). -/
structure HeldKey where
  source : KeySource
  code : Nat
  function : KeyFunction
  permitted : Bool
  deriving DecidableEq, Repr, Inhabited

/-- The auto-repeat timer's period when it runs (R175). -/
inductive RepeatTimer where
  | first | next
  deriving DecidableEq, Repr, Inhabited

/-- Focus motor (R176). -/
inductive Focus where
  | off | near | far
  deriving DecidableEq, Repr, Inhabited

/-- The RRX's dynamic state; key map, channel and lock level stand in the retained section. The release timer runs
while `held` is present, the focus timer while the motor runs, the clear timer while `digits` is not empty. -/
structure Rrx where
  state : Receiver
  measure : Measure
  held : Option HeldKey
  repeatTimer : Option RepeatTimer
  focus : Focus
  spent : Bool
  digits : List Nat
  bad : Nat
  foreign : Nat
  dropped : Nat
  refused : Nat
  deriving DecidableEq, Repr, Inhabited

/-- Outcome of a press (R174). -/
inductive KeyOutcome where
  | taken | nothing | locked | refused | dropped | cleared
  deriving DecidableEq, Repr, Inhabited

/-! ## Events and reports (R55, R128, R133, R162, R174, R192) -/

/-- Relation of a coded cue to the pointer (R133). -/
inductive Relation where
  | inOrder | skip | backward
  deriving DecidableEq, Repr, Inhabited

/-- An event with the fields its owning rule gives it: CHANGE_DONE (R15), MOTION_CANCELLED (R43), FADE_DONE (R55),
CUE_TAKEN (R133, R135), SHOW_STATE (R128), TAPE_STATE (R162), LAMP_STATE (R72), COOLDOWN_DONE (R104), KEY_SEEN
(R174). -/
inductive Event where
  | changeDone (move : Move) (source : Source) (tag : Option Nat) (position : Position) (load : GateLoad)
  | motionCancelled (entry : Motion) (reason : CancelReason) (position : Option Position)
  | fadeDone (completed : Bool) (origin : FadeOrigin) (tag : Option Nat) (target level steps : Nat)
  | cueTaken (arrival : Arrival) (index : Option Nat) (pointer : Nat) (relation : Option Relation)
      (fromPending : Bool)
  | showState (new old : ShowState) (reason : ShowReason)
  | tapeState (new old : Transport) (cause : TapeCause) (counter : Nat)
  | lampState (lamp : Lamp) (new old : LampState) (cause : LampCause)
  | cooldownDone (elapsed : Nat) (reading : Option Int)
  | keySeen (source : KeySource) (channel : Option Nat) (code : Nat) (function : KeyFunction)
      (outcome : KeyOutcome)
  deriving DecidableEq, Repr, Inhabited

/-- What a report is about. -/
inductive ReportBody where
  | fault (code : FaultCode) (severity : Severity) (detail : Detail)
  | event (event : Event)
  deriving DecidableEq, Repr, Inhabited

/-- A report (R192), and the content of a pending member (R193). -/
structure Report where
  body : ReportBody
  seconds : Nat
  raisings : Nat
  first : Bool
  deriving DecidableEq, Repr, Inhabited

/-- The first-fault record (R186). -/
structure FirstFault where
  code : FaultCode
  severity : Severity
  seconds : Nat
  detail : Detail
  deriving DecidableEq, Repr, Inhabited

/-- The opener of the last-cause set with the identity it keeps (R189). -/
inductive Opener where
  | changeCycle (move : Move) (source : Source) (tag : Option Nat)
  | strike (lamp : Lamp) (burnout : Bool)
  | cueWord (result : WordResult)
  deriving DecidableEq, Repr, Inhabited

/-! ## Fault Unit (10_faults_and_reports.md) -/

/-- The Fault Unit's state. `later` and `sticky` are in catalogue order; `waiting` is the pending set, one report per
member, in catalogue order (R193). -/
structure Flt where
  first : Option FirstFault
  later : List FaultCode
  laterCount : Nat
  sticky : List FaultCode
  opener : Option Opener
  causes : List FaultCode
  faultOn : Vector Bool 30
  eventOn : Vector Bool 9
  switchOn : Bool
  waiting : List Report
  seconds : Nat
  timer : Bool
  deriving DecidableEq, Repr, Inhabited

/-! ## Replies (R201) -/

/-- Result code of a reply (R201). -/
inductive Result where
  | ok | badCheck | badLength | unknownKind | badValue | wrongState | queueFull | tableFull | badCurve | overrun
  deriving DecidableEq, Repr, Inhabited

/-- Cancel outcome of HALT_MOTION (R39). -/
inductive CancelOutcome where
  | nothing | taken | notTaken
  deriving DecidableEq, Repr, Inhabited

/-- Outcome of a strike request (R73). -/
inductive StrikeOutcome where
  | started | inProgress | alreadyLit | refused | noLamp
  deriving DecidableEq, Repr, Inhabited

/-- Outcome of LAMP_OFF (R81). -/
inductive OffOutcome where
  | turnedOff | aborted | nothing
  deriving DecidableEq, Repr, Inhabited

/-- Outcome of a TAPE request (R161). -/
inductive TapeOutcome where
  | taken | pending | noChange | atEnd | atStart
  deriving DecidableEq, Repr, Inhabited

/-- Outcome of a KEY request (R181). -/
inductive PanelOutcome where
  | press (outcome : KeyOutcome) | held | notHeld
  deriving DecidableEq, Repr, Inhabited

/-- The snapshot of GET_STATUS (R211). -/
structure StatusSnapshot where
  mode : PowerMode
  step : Option WindStep
  startKind : StartKind
  outcome : SignatureOutcome
  showState : ShowState
  phase : Phase
  lampA : LampState
  lampB : LampState
  seeing : Bool
  switchOn : Bool
  framesHeld : Nat
  reportsQueued : Nat
  lost : Bool
  framing : Nat
  gaps : Nat
  badChecks : Nat
  overruns : Nat
  lostReports : Nat
  deriving DecidableEq, Repr, Inhabited

/-- The fields of a reply, as the rule of its request gives them. A snapshot holds the owning block's record as it
stood when the request was taken; which of its fields are sent is `Answer.bytes`. -/
inductive Answer where
  | nothing
  | param (value : Nat)
  | moved (merged : Bool) (length : Nat)
  | halted (removed : Nat) (outcome : CancelOutcome)
  | blanked (set : Bool)
  | tray (tgc : Tgc) (position : Position) (map : Vector Occupancy 91)
  | fadeStarted (start total : Nat)
  | light (fe : Fe) (lit : Bool)
  | curve (points : Vector Nat 17)
  | pendingCurve (points : Option (Vector Nat 17))
  | response (inUse : Vector Nat 11) (waiting : Option (Vector Nat 11))
  | strike (outcome : StrikeOutcome)
  | lampOff (outcome : OffOutcome)
  | lamps (ltc : Ltc) (lampA lampB : LampRecord) (senseA senseB : Bool)
  | temperature (reading : Int) (state : ThermalState) (seeing : Bool) (effective : Nat)
  | thermal (thu : Thu)
  | cueLoaded (index count : Nat) (replaced : Bool)
  | cueDeleted (count : Nat) (absent : Bool)
  | cuesCleared (count : Nat)
  | cue (entry : CueEntry) (index count : Nat)
  | obstacles (list : List Obstacle)
  | showRecord (shc : Shc) (count : Nat) (obstacles : List Obstacle)
  | tape (outcome : TapeOutcome) (tac : Tac)
  | volume (tac : Tac)
  | cueStats (cdec : Cdec) (sensitivity : Nat)
  | key (outcome : PanelOutcome)
  | keymap (entries : List KeyFunction) (rrx : Rrx) (channel : Nat) (lock : LockLevel)
  | faults (flt : Flt)
  | cleared (first : Option FirstFault) (later : List FaultCode) (count : Nat) (sticky : List FaultCode)
  | enables (faultOn : Vector Bool 30) (eventOn : Vector Bool 9)
  | released (count : Nat)
  | woken (outcome : SignatureOutcome)
  | status (snapshot : StatusSnapshot)
  deriving DecidableEq, Repr, Inhabited

/-- What the owning block answers (R200). -/
structure Response where
  result : Result
  clamped : Bool
  deferred : Bool
  answer : Answer
  deriving DecidableEq, Repr, Inhabited

/-- A reply: its kind byte and the owner's answer (R200, R201). -/
structure Reply where
  kind : Byte
  response : Response
  deriving DecidableEq, Repr, Inhabited

/-! ## Link Interface (11_link_messages_and_power_states.md) -/

/-- The receive assembler (R198); its gap timer runs in every state but HUNT. PAYLOAD holds the bytes so far in the
order they came. -/
inductive Assembler where
  | hunt | count | kind (count : Nat) | payload (count : Nat) (kind : Byte) (bytes : List Byte)
  | check (kind : Byte) (bytes : List Byte)
  deriving DecidableEq, Repr, Inhabited

/-- A held frame and its trailing-overrun count (R199). -/
structure HeldFrame where
  frame : Frame
  trailing : Nat
  deriving DecidableEq, Repr

/-- The transmitter (R201, R202): idle, sending a part of the oldest reply in the reply path, or sending a report
with or without its LOST mark. -/
inductive Transmitter where
  | idle | reply (part : Nat) | report (report : Report) (lost : Bool)
  deriving DecidableEq, Repr, Inhabited

/-- The link's state. -/
structure Link where
  rx : Assembler
  holding : List HeldFrame
  owed : Nat
  resetTaken : Bool
  path : List Reply
  answer : Option Reply
  tx : Transmitter
  reports : List Report
  lost : Bool
  framing : Nat
  gaps : Nat
  badChecks : Nat
  overruns : Nat
  lostReports : Nat
  deriving DecidableEq, Repr

/-! ## The whole state -/

/-- The state of the KT-4, the levels on its inputs, and the queue of commands that wait. -/
structure State where
  pending : List Instr
  pins : Pins
  retained : Retained
  power : Power
  link : Link
  flt : Flt
  tgc : Tgc
  mq : List Motion
  fe : Fe
  ltc : Ltc
  thu : Thu
  cdec : Cdec
  shc : Shc
  tac : Tac
  rrx : Rrx
  free : Nat
  deriving DecidableEq, Repr

/-! ## Reset: the part right after a cold power-on (log 2) -/

/-- The occupancy map with nothing seen: entry 0 EMPTY, the others UNSEEN (R3). -/
def Retained.unseenMap : Vector Occupancy 91 := ⟨(Occupancy.empty :: List.replicate 90 .unseen).toArray, by simp⟩

/-- A lamp record at a cold power-on (R89). -/
def LampRecord.cold : LampRecord := ⟨.ready, 0, 200, 0, 0, false⟩

/-- The parameters' defaults (R204). -/
def Params.cold : Params :=
  { skipEmpty := true, rounding := .nearest, maxLevel := 1000, floorLevel := 40, keepwarm := true,
    keepwarmDrive := 90, cueSensitivity := 4, showLevel := 1000, rewindOnStart := true, resync := true,
    stepAction := .advance, stepCutOut := 300, stepCutIn := 300, resumeRamp := 500, remoteChannel := 0,
    lockLevel := .showLock }

/-- The retained section at a cold power-on (R209). -/
def Retained.cold : Retained :=
  { position := .unknown, map := Retained.unseenMap, lampA := .cold, lampB := .cold, cues := [],
    user := straightTable, response := defaultResponse, keymap := defaultKeymap, params := .cold }

/-- The levels on the inputs in `State.reset`: a tray in place, the gate seated, lamp A in the light path, every
other input inactive. DESIGN CHOICE, log 2. -/
def Pins.rest : Pins :=
  { trayPresent := true, gateUp := false, gateSeated := true, slidePresent := false, home := false,
    turretA := true, turretB := false, senseA := false, senseB := false, tapeBegin := false, tapeEnd := false,
    resetPin := false }

/-- The link as every power-on and soft reset leaves it (R210). `answer` is the model's own (log 4); the transmitter
is idle, so a frame it was sending is cut off (log 44). -/
def Link.start : Link :=
  { rx := .hunt, holding := [], owed := 0, resetTaken := false, path := [], answer := none, tx := .idle,
    reports := [], lost := false, framing := 0, gaps := 0, badChecks := 0, overruns := 0, lostReports := 0 }

/-- The Fault Unit as every power-on and soft reset leaves it (R197). -/
def Flt.start : Flt :=
  { first := none, later := [], laterCount := 0, sticky := [], opener := none, causes := [],
    faultOn := Vector.replicate 30 true, eventOn := defaultEventEnables, switchOn := true, waiting := [],
    seconds := 0, timer := true }

/-- The Fade Engine as every power-on and soft reset leaves it (R68), with the ceiling 400 that the Thermal Unit
hands it (R106). -/
def Fe.start : Fe :=
  { level := 0, fade := none, pendingUser := none, pendingResponse := none, ceiling := 400, applied := 0,
    drive := 0, dark := false, dimmer := 0, timer := true }

/-- The strike sequence at rest (R89). -/
def Strike.rest : Strike := { phase := .idle, lamp := .a, origins := [], follow := false, retried := false }

/-- The Thermal Unit as a cold power-on leaves it (R106). -/
def Thu.start : Thu :=
  { reading := none, seeing := false, window := false, miss := 0, good := 0, state := .unread, latch := false,
    target := 400, effective := 400, fan := 0, monitor := .idle, cooldown := none, timers := true }

/-- The Cue Decoder as every power-on and soft reset leaves it (R122); R122 names no value for the decisions of the
last block, which are OFF here (log 2). -/
def Cdec.start : Cdec :=
  { gateOpen := false, f1 := false, f2 := false, tracker := .idle, quiet := 0, word := .waiting, noise := 0,
    collisions := 0, malformed := 0, frameErrors := 0, good := 0, lastArrival := none, lastError := none,
    timer := true }

/-- The show record as every power-on and soft reset leaves it (R152). -/
def Shc.start : Shc :=
  { state := .stopped, stopReason := some .reset, startSlot := none, loops := 0, loopsDone := 0, pointer := 0,
    parts := .empty, cut := none, cues := [], issued := [], hold := none, held := none, register := .empty,
    returning := false }

/-- The Remote Receiver as every power-on and soft reset leaves it (R183). -/
def Rrx.start : Rrx :=
  { state := .idle, measure := .none, held := none, repeatTimer := none, focus := .off, spent := false,
    digits := [], bad := 0, foreign := 0, dropped := 0, refused := 0 }

/-- The part right after a cold power-on with its inputs at `Pins.rest` (R209 and each chapter's reset table). -/
def State.reset : State :=
  { pending := []
    pins := .rest
    retained := .cold
    power := { powered := true, mode := .active, step := none, startKind := .cold, outcome := .invalid,
               signature := .absent }
    link := .start
    flt := .start
    tgc := { present := true, phase := .ready, gateLoad := .unknown, blank := false, shutter := true,
             lift := false, motor := none, timer := none, cycle := none }
    mq := []
    fe := .start
    ltc := { position := .facing .a, target := none, strike := .rest, sub := 0, timer := true, watch := none }
    thu := .start
    cdec := .start
    shc := .start
    tac := { state := .stopped, brake := some .forward, order := none, beginFlag := false, endFlag := false,
             counter := 0, stall := false, stallBrake := false, volume := 48, applied := 0, ramp := none }
    rrx := .start
    free := 0 }

/-! ## Block updates: the meanings change the state through these -/

/-- Change `pending` by `f`, nothing else. -/
def State.updPending (s : State) (f : List Instr → List Instr) : State := { s with pending := f s.pending }
/-- Change `pins` by `f`, nothing else. -/
def State.updPins (s : State) (f : Pins → Pins) : State := { s with pins := f s.pins }
/-- Change `retained` by `f`, nothing else. -/
def State.updRetained (s : State) (f : Retained → Retained) : State := { s with retained := f s.retained }
/-- Change `power` by `f`, nothing else. -/
def State.updPower (s : State) (f : Power → Power) : State := { s with power := f s.power }
/-- Change `link` by `f`, nothing else. -/
def State.updLink (s : State) (f : Link → Link) : State := { s with link := f s.link }
/-- Change `flt` by `f`, nothing else. -/
def State.updFlt (s : State) (f : Flt → Flt) : State := { s with flt := f s.flt }
/-- Change `tgc` by `f`, nothing else. -/
def State.updTgc (s : State) (f : Tgc → Tgc) : State := { s with tgc := f s.tgc }
/-- Change `mq` by `f`, nothing else. -/
def State.updMq (s : State) (f : List Motion → List Motion) : State := { s with mq := f s.mq }
/-- Change `fe` by `f`, nothing else. -/
def State.updFe (s : State) (f : Fe → Fe) : State := { s with fe := f s.fe }
/-- Change `ltc` by `f`, nothing else. -/
def State.updLtc (s : State) (f : Ltc → Ltc) : State := { s with ltc := f s.ltc }
/-- Change `thu` by `f`, nothing else. -/
def State.updThu (s : State) (f : Thu → Thu) : State := { s with thu := f s.thu }
/-- Change `cdec` by `f`, nothing else. -/
def State.updCdec (s : State) (f : Cdec → Cdec) : State := { s with cdec := f s.cdec }
/-- Change `shc` by `f`, nothing else. -/
def State.updShc (s : State) (f : Shc → Shc) : State := { s with shc := f s.shc }
/-- Change `tac` by `f`, nothing else. -/
def State.updTac (s : State) (f : Tac → Tac) : State := { s with tac := f s.tac }
/-- Change `rrx` by `f`, nothing else. -/
def State.updRrx (s : State) (f : Rrx → Rrx) : State := { s with rrx := f s.rrx }
/-- Change `free` by `f`, nothing else. -/
def State.updFree (s : State) (f : Nat → Nat) : State := { s with free := f s.free }

end Sys2Proof.Machine
end

