-- ==== Sys2Proof/Config.lean ====
section
/-! DEFINITION. The free values: what the spec leaves open while the part goes on. Each is a constant with no body,
applied to the counter `State.free` (or, for a fresh draw, to its next value); nothing can be proved of it. -/

namespace Sys2Proof.Config

open Sys2Proof.Machine

/-- How many seconds the hold timer still shows when GET_SHOW reads it (R127, R151). No row of the table counts its
seconds, so the value is free; a reading is kept within the hold time it was started at (log 13). -/
opaque freeSeconds : Nat → Nat

/-- The signature outcome that stands after a soft reset, which erases the signature and checks none (R210, R211;
log 14). -/
opaque freeOutcome : Nat → SignatureOutcome

/-- What the retained section holds once the backup supply has lost it (R208; log 15). -/
opaque freeRetained : Nat → Retained

end Sys2Proof.Config
end

