-- ==== Sys2Proof/Machine/Faults.lean ====
section
/-! DEFINITION. The fault catalogue, the Fault Unit's records and the making of reports (10_faults_and_reports.md). -/

namespace Sys2Proof.Machine

/-! ## Counters -/

/-- A counter 0..65535 that stays at its maximum. -/
def bump16 (n : Nat) : Nat := min (n + 1) 65535

/-- A counter 0..255 that stays at its maximum. -/
def bump8 (n : Nat) : Nat := min (n + 1) 255

/-! ## The catalogue (section 10.1) -/

/-- Place of a code in the catalogue, from 0. -/
def FaultCode.index : FaultCode → Fin 30
  | .liftRetried => 0 | .gateJam => 1 | .seatRetried => 2 | .seatFailed => 3 | .trayStall => 4
  | .homeNotFound => 5 | .trayRemoved => 6 | .slideMissing => 7 | .trayEmpty => 8 | .motionOverflow => 9
  | .strikeRetried => 10 | .lampFailed => 11 | .lampBurnout => 12 | .noLamp => 13 | .lampDue => 14
  | .turretStall => 15 | .thermalBlind => 16 | .overheat => 17 | .fanStall => 18 | .hot => 19
  | .cueMalformed => 20 | .cueFrameError => 21 | .unknownCue => 22 | .cueSkip => 23 | .cueBackward => 24
  | .cueOverrun => 25 | .syncLost => 26 | .tapeStall => 27 | .tapeEnd => 28 | .linkOverrun => 29

/-- The severity the catalogue gives a code. T7 is raised with its own (R24); the entry here is its HALT. -/
def FaultCode.severity : FaultCode → Severity
  | .liftRetried | .seatRetried | .slideMissing | .strikeRetried | .lampDue | .cueMalformed | .cueFrameError
  | .unknownCue | .cueSkip | .cueBackward | .cueOverrun | .syncLost | .tapeEnd | .linkOverrun => .note
  | .thermalBlind | .hot => .degrade
  | .lampFailed | .lampBurnout => .hold
  | .gateJam | .seatFailed | .trayStall | .homeNotFound | .trayRemoved | .trayEmpty | .motionOverflow | .noLamp
  | .turretStall | .tapeStall => .halt
  | .overheat | .fanStall => .shutdown

/-- Place of an event class in the catalogue, from 0. -/
def EventClass.index : EventClass → Fin 9
  | .changeDone => 0 | .motionCancelled => 1 | .fadeDone => 2 | .cueTaken => 3 | .showState => 4
  | .tapeState => 5 | .lampState => 6 | .cooldownDone => 7 | .keySeen => 8

/-- The class of an event. -/
def Event.cls : Event → EventClass
  | .changeDone .. => .changeDone
  | .motionCancelled .. => .motionCancelled
  | .fadeDone .. => .fadeDone
  | .cueTaken .. => .cueTaken
  | .showState .. => .showState
  | .tapeState .. => .tapeState
  | .lampState .. => .lampState
  | .cooldownDone .. => .cooldownDone
  | .keySeen .. => .keySeen

/-- Place of a code or class in the order of the release: the codes, then the classes (R194). -/
def ReportBody.key : ReportBody → Nat
  | .fault c _ _ => c.index
  | .event e => 30 + e.cls.index

/-- Whether the report enables pass a raising (R191). -/
def ReportBody.enabled (flt : Flt) : ReportBody → Bool
  | .fault c _ _ => flt.faultOn[c.index]
  | .event e => flt.eventOn[e.cls.index]

/-! ## Detail records (R185) -/

/-- A detail with the slot, when the position was KNOWN. -/
def Detail.atSlot (slot : Option Slot) : Detail := { Detail.empty with slot := slot }

/-- A detail with the cue number, when there is one. -/
def Detail.ofCue (cue : Option Nat) : Detail := { Detail.empty with cue := cue }

/-- A detail with the lamp. -/
def Detail.ofLamp (lamp : Lamp) : Detail := { Detail.empty with lamp := some lamp }

/-- A detail with the temperature, when a reading is held. -/
def Detail.ofTemperature (t : Option Int) : Detail := { Detail.empty with temperature := t }

/-! ## Sets of codes -/

/-- Adds a code to a set in catalogue order, once (R187, R188). -/
def insertCode (c : FaultCode) : List FaultCode → List FaultCode
  | [] => [c]
  | d :: rest =>
      if c = d then d :: rest
      else if c.index < d.index then c :: d :: rest
      else d :: insertCode c rest

/-- Adds a code to a list in order of first raising, once (R189). -/
def appendCode (c : FaultCode) (l : List FaultCode) : List FaultCode := if c ∈ l then l else l ++ [c]

/-! ## Reports and pending members -/

/-- A report offered to the report queue: it joins, or it is lost (R202). -/
def queueReport (r : Report) (s : State) : State :=
  s.updLink fun l =>
    if l.reports.length < 16 then { l with reports := l.reports ++ [r] }
    else { l with lostReports := bump16 l.lostReports, lost := true }

/-- Makes or updates the pending member of a raising's code or class, in the order of the release (R193, R194). -/
def addWaiting (r : Report) : List Report → List Report
  | [] => [r]
  | w :: rest =>
      if r.body.key = w.body.key then
        { r with raisings := bump8 w.raisings, first := w.first || r.first } :: rest
      else if r.body.key < w.body.key then r :: w :: rest
      else w :: addWaiting r rest

/-- A raising's report, pending member, or neither (R192, R193). -/
def report (b : ReportBody) (first : Bool) (s : State) : State :=
  if b.enabled s.flt then
    if s.flt.switchOn then queueReport ⟨b, s.flt.seconds, 1, first⟩ s
    else s.updFlt fun f => { f with waiting := addWaiting ⟨b, f.seconds, 1, first⟩ f.waiting }
  else s

/-- Raises an event (R192). -/
def raiseEvent (e : Event) (s : State) : State := report (.event e) false s

/-- The first-fault record, later-fault set, sticky set and last-cause set at a raising (R186 to R189). A raising
before any opening since a reset finds no current last-cause set (log 37). -/
def Flt.record (c : FaultCode) (sv : Severity) (d : Detail) (f : Flt) : Flt :=
  let f := { f with
    sticky := insertCode c f.sticky
    causes := if f.opener.isSome then appendCode c f.causes else f.causes }
  match f.first with
  | none => { f with first := some ⟨c, sv, f.seconds, d⟩ }
  | some _ => { f with later := insertCode c f.later, laterCount := bump8 f.laterCount }

/-- The Fault Unit's own part of a raising: its records, then the report (R184). -/
def recordFault (c : FaultCode) (sv : Severity) (d : Detail) (s : State) : State :=
  report (.fault c sv d) s.flt.first.isNone (s.updFlt (Flt.record c sv d))

/-- Opens a new last-cause set (R189). -/
def openCauses (o : Opener) (s : State) : State := s.updFlt fun f => { f with opener := some o, causes := [] }

/-- Releases the pending set: its reports go to the link in order, and it is emptied (R194). -/
def releaseWaiting (s : State) : State :=
  (s.flt.waiting.foldl (fun s r => queueReport r s) s).updFlt fun f => { f with waiting := [] }

end Sys2Proof.Machine
end

