-- ==== Sys2Proof/Machine/Ops.lean ====
section
/-! DEFINITION. Shared operations: accessors, answers, and the effects that every block's meanings use and that call
no other block back: the transport and its audio, the decoder's gate, fades, discards of moves, the show stop, and the
raising of a fault. -/

namespace Sys2Proof.Machine

/-! ## Guards and accessors -/

/-- Powered and not held by the reset pin (R209, R210; logs 17, 32). -/
def State.live (s : State) : Bool := s.power.powered && !s.pins.resetPin

/-- Live and not in STANDBY: the blocks other than LINK and RRX act (R207). -/
def State.running (s : State) : Bool := s.live && s.power.mode != .standby

/-- The slot at the gate, when the position is KNOWN (R2). -/
def Position.slot : Position → Option Slot
  | .known p => some p
  | .unknown => none

/-- The tray position's slot, when KNOWN. -/
def State.slot (s : State) : Option Slot := s.retained.position.slot

/-- The other lamp. -/
def otherLamp : Lamp → Lamp
  | .a => .b
  | .b => .a

/-- A lamp's record. -/
def State.lampRecord (s : State) : Lamp → LampRecord
  | .a => s.retained.lampA
  | .b => s.retained.lampB

/-- Change a lamp's record by `f`. -/
def State.updLamp (s : State) (l : Lamp) (f : LampRecord → LampRecord) : State :=
  s.updRetained fun r =>
    match l with
    | .a => { r with lampA := f r.lampA }
    | .b => { r with lampB := f r.lampB }

/-- The LIT lamp, if there is one. -/
def State.litLamp (s : State) : Option Lamp :=
  if s.retained.lampA.state = .lit then some .a
  else if s.retained.lampB.state = .lit then some .b
  else none

/-- The STRIKING lamp, if there is one. -/
def State.strikingLamp (s : State) : Option Lamp :=
  if s.retained.lampA.state = .striking then some .a
  else if s.retained.lampB.state = .striking then some .b
  else none

/-- Change the parameters by `f`. -/
def State.updParams (s : State) (f : Params → Params) : State :=
  s.updRetained fun r => { r with params := f r.params }

/-! ## Answers (R200, R201) -/

/-- OK with the answer's fields. -/
def okWith (a : Answer) : Response := ⟨.ok, false, false, a⟩

/-- OK with CLAMPED when a field was clamped. -/
def okClamped (clamped : Bool) (a : Answer) : Response := ⟨.ok, clamped, false, a⟩

/-- A refusal. -/
def refuse (r : Result) : Response := ⟨r, false, false, .nothing⟩

/-! ## Program audio and the transport's state (R153, R164, R165) -/

/-- Distance of two steps. -/
def stepsBetween (a b : Nat) : Nat := (a - b) + (b - a)

/-- Starts a ramp of the applied step toward a target over `ms`, ending any other (R164). -/
def Tac.startRamp (target ms : Nat) (t : Tac) : Tac :=
  let n := stepsBetween t.applied target
  if n = 0 then { t with ramp := none }
  else if ms / n = 0 then { t with applied := target, ramp := none }
  else { t with ramp := some ⟨target, ms / n⟩ }

/-- The direction in which a moving state moves the tape (R153). -/
def Transport.direction : Transport → Option Direction
  | .play | .fastFwd => some .forward
  | .rewind => some .backward
  | .stopped | .paused => none

/-- The transport's outputs (R153). -/
structure TapeOutputs where
  play : Bool
  fastFwd : Bool
  rewind : Bool
  brake : Bool
  deriving DecidableEq, Repr

/-- The outputs by transport state and brake period (the table of R153). A part in STANDBY or without power is STOPPED
with no brake period: every output is off (R166, log 16). -/
def Tac.outputs (t : Tac) : TapeOutputs :=
  match t.state with
  | .play => ⟨true, false, false, false⟩
  | .fastFwd => ⟨false, true, false, false⟩
  | .rewind => ⟨false, false, true, false⟩
  | .paused => ⟨false, false, false, true⟩
  | .stopped => ⟨false, false, false, t.brake.isSome⟩

/-- Entry to a transport state with its brake period: the applied step is 0 outside PLAY, and an entry to PLAY starts
the resume ramp (R154, R165). -/
def Tac.enter (resumeRamp : Nat) (new : Transport) (brake : Option Direction) (t : Tac) : Tac :=
  let u := { t with state := new, brake := brake, stallBrake := false }
  match new with
  | .play => if t.state = .play then u else Tac.startRamp t.volume resumeRamp { u with applied := 0, ramp := none }
  | _ => { u with applied := 0, ramp := none }

/-- The decoder's gate at a transport change: opening starts decoding afresh, closing drops what was in progress
(R109). -/
def Cdec.gate (old new : Transport) (c : Cdec) : Cdec :=
  if old = new then c
  else if new = .play then { c with gateOpen := true, tracker := .settling, quiet := 0, word := .waiting }
  else if old = .play then { c with gateOpen := false, tracker := .idle, word := .waiting }
  else c

/-- A change of transport state: the record, the decoder's gate, TAPE_STATE (R162). With the state unchanged, only the
brake period changes and nothing is raised. -/
def enterTransport (new : Transport) (brake : Option Direction) (cause : TapeCause) (s : State) : State :=
  let old := s.tac.state
  let s := s.updTac (Tac.enter s.retained.params.resumeRamp new brake)
  let s := s.updCdec (Cdec.gate old new)
  if old = new then s else raiseEvent (.tapeState new old cause s.tac.counter) s

/-- Removes the pending order (R156). -/
def dropOrder (s : State) : State := s.updTac fun t => { t with order := none }

/-- A PAUSE order (R156). -/
def tapePauseOrder (cause : TapeCause) (s : State) : State :=
  match s.tac.state with
  | .play => enterTransport .paused none cause s
  | .stopped => if s.tac.brake.isSome then dropOrder s else s
  | .paused | .fastFwd | .rewind => s

/-- A STOP order (R156). -/
def tapeStopOrder (cause : TapeCause) (s : State) : State :=
  match s.tac.state.direction with
  | some d => enterTransport .stopped (some d) cause (dropOrder s)
  | none =>
    match s.tac.state with
    | .paused => enterTransport .stopped none cause s
    | _ => if s.tac.brake.isSome then dropOrder s else s

/-! ## Fades (R47, R55) -/

/-- Creates the fade record of an order (R47). -/
def createFade (target duration : Nat) (curve : Curve) (origin : FadeOrigin) (tag : Option Nat) (s : State) : State :=
  s.updFe fun f => { f with fade := some ⟨f.level, target, duration / 20, 0, curve, origin, tag⟩ }

/-- Ends the fade in flight, if there is one: the record is removed, a pending USER table installed, FADE_DONE raised
(R55, R63). Who is told of the ending is the caller's. -/
def endFade (completed : Bool) (s : State) : State :=
  match s.fe.fade with
  | none => s
  | some r =>
    let s := match s.fe.pendingUser with
      | none => s
      | some u => s.updRetained fun t => { t with user := u }
    let s := s.updFe fun f => { f with fade := none, pendingUser := none }
    raiseEvent (.fadeDone completed r.origin r.tag r.target s.fe.level r.index) s

/-- A fade order of the Show Controller itself: the fade it replaces ends REPLACED, and that ending has no effect on
the show (logs 8 and 9). -/
def showFade (target duration : Nat) (curve : Curve) (tag : Option Nat) (s : State) : State :=
  createFade target duration curve .theShow tag (endFade false s)

/-! ## Discards of moves (section 2.5) and the cancel (R23) -/

/-- A WAITING entry's MOTION_CANCELLED (R43). -/
def waitingCancelled (reason : CancelReason) (s : State) (m : Motion) : State :=
  raiseEvent (.motionCancelled m reason none) s

/-- The WAITING entries a discard names. -/
def waitingOf (p : Motion → Bool) (q : List Motion) : List Motion := q.filter fun m => !m.active && p m

/-- Removes the WAITING entries a discard names, head to tail, each with its MOTION_CANCELLED (R39, R40, R42). -/
def discardWaiting (p : Motion → Bool) (reason : CancelReason) (s : State) : State :=
  let gone := waitingOf p s.mq
  let s := s.updMq fun q => q.filter fun m => !(!m.active && p m)
  gone.foldl (waitingCancelled reason) s

/-- Whether a cancel has an effect on a cycle in a phase (the table of R23). A seat retry of the HOME run ahead of a GOTO
lies in two rows of the table: the model takes the HOME run's row, so the cancel is taken (log 24). -/
def CycleRecord.cancellable (phase : Phase) (c : CycleRecord) : Bool :=
  if c.move = .home then false
  else if c.homeFirst then true
  else if c.seatRetried then false
  else match phase with
    | .closing | .lifting | .indexing => true
    | .dropping => c.skipping
    | .ready | .seating | .homing | .jammed | .unseated => false

/-- A cancel for the ACTIVE entry: it sets the cancel flag where R23 gives it an effect. A flag already set keeps its
reason (R39). -/
def cancelActive (reason : CancelReason) (s : State) : State :=
  s.updTgc fun t =>
    { t with cycle := t.cycle.map fun c =>
        if !c.cancel && c.cancellable t.phase then { c with cancel := true, cancelReason := reason } else c }

/-! ## Show state, show stop, HELD (R128, R144, R149) -/

/-- A change of show state: the record and SHOW_STATE. The return register and the returning flag are empty and clear
at every entry to a state (R146, R147; log 11). The transport order of the new state is the caller's (R128). -/
def setShow (new : ShowState) (reason : ShowReason) (s : State) : State :=
  let old := s.shc.state
  let s := s.updShc fun c => { c with state := new, register := .empty, returning := false }
  raiseEvent (.showState new old reason) s

/-- Entry to STOPPED: the reason, SHOW_STATE, the STOP order (R127, R128). -/
def enterStopped (reason : StopReason) (s : State) : State :=
  let s := s.updShc fun c => { c with stopReason := some reason }
  tapeStopOrder .theShow (setShow .stopped (.stop reason) s)

/-- The discard and cancel of the show's moves (R40). An item stays until its entry leaves (R149): the list keeps its
oldest items, one for each of the show's entries that stay, which is the ACTIVE one when it is the show's. -/
def discardShowMoves (s : State) : State :=
  let s := discardWaiting (fun m => m.source == Source.theShow) .showStop s
  let s := match s.tgc.cycle with
    | some c => if c.source = Source.theShow then cancelActive .showStop s else s
    | none => s
  s.updShc fun c => { c with issued := c.issued.take (s.mq.filter fun m => m.source == Source.theShow).length }

/-- A show stop (R149). -/
def showStop (reason : StopReason) (s : State) : State :=
  let s := discardShowMoves s
  let s := s.updShc fun c =>
    { c with parts := .empty, cut := none, cues := [], hold := none, held := none }
  let s := showFade 0 1000 .smooth none s
  enterStopped reason s

/-- The state a return from HELD enters (R144). -/
def ShowState.resumeAs : ShowState → ShowState
  | .excursion => .running
  | st => st

/-- Entry to HELD by a fault (R144): SHOW_STATE, the held record, and PAUSE when the transport is in PLAY (R128). -/
def enterHeld (code : FaultCode) (hold : Bool) (s : State) : State :=
  let back := s.shc.state.resumeAs
  let s := setShow .held (.fault code) s
  let s := s.updShc fun c => { c with held := some ⟨hold, code, back⟩ }
  if s.tac.state = .play then tapePauseOrder .theShow s else s

/-- Whether the show reacts to the severity of a fault (R144). -/
def ShowState.heedsFaults : ShowState → Bool
  | .starting | .running | .paused | .excursion | .looping => true
  | .stopped | .held => false

/-- The Show Controller's reaction to a raising (R144). -/
def showReact (code : FaultCode) (severity : Severity) (s : State) : State :=
  if s.shc.state.heedsFaults then
    match severity with
    | .note | .degrade => s
    | .hold => enterHeld code true s
    | .halt => enterHeld code false s
    | .shutdown => showStop .shutdown s
  else s

/-- A raising with the severity the raising block gives it (R184): records, report, then the Show Controller. -/
def raiseAs (code : FaultCode) (severity : Severity) (detail : Detail) (s : State) : State :=
  showReact code severity (recordFault code severity detail s)

/-- A raising with the catalogue's severity. -/
def raiseFault (code : FaultCode) (detail : Detail) (s : State) : State := raiseAs code code.severity detail s

/-! ## The end of a step -/

/-- Whether the shutter is open (R5, R27; log 18). -/
def State.shutterOpen (s : State) : Bool :=
  s.power.powered && s.power.mode != .standby && s.tgc.phase == .ready && !s.tgc.blank

/-- An idle transmitter starts the oldest reply, or else the oldest report (R201, R202). -/
def Link.kick (l : Link) : Link :=
  match l.tx with
  | .idle =>
    match l.path with
    | _ :: _ => { l with tx := .reply 0 }
    | [] =>
      match l.reports with
      | r :: rest => { l with tx := .report r l.lost, reports := rest, lost := false }
      | [] => l
  | .reply _ | .report _ _ => l

/-- What stands at the end of every step: the shutter as R5 commands it, and no idle transmitter with a frame to send
(log 5). -/
def settle (s : State) : State :=
  (s.updTgc fun t => { t with shutter := s.shutterOpen }).updLink Link.kick

/-- A step of the part while it is powered and out of reset; otherwise nothing happens (log 32). -/
def whenLive (f : State → State) (s : State) : State := if s.live then settle (f s) else s

/-- A step of the blocks that STANDBY stops; in STANDBY nothing happens (R207). -/
def whenRunning (f : State → State) (s : State) : State := if s.running then settle (f s) else s

end Sys2Proof.Machine
end

