-- ==== Sys2Proof/Machine/Moves.lean ====
section
/-! DEFINITION. Orders to the transport that move the tape (R155) and entries offered to the Motion Queue (R33 to
R35): what the Show Controller, the link and the handset all use. -/

namespace Sys2Proof.Machine

/-! ## PLAY, FAST_FWD and REWIND orders (R155) -/

/-- The state a move order asks for. -/
def MoveOrder.state : MoveOrder → Transport
  | .play => .play
  | .fastFwd => .fastFwd
  | .rewind => .rewind

/-- The cause an issuer's order carries in TAPE_STATE (R162). -/
def TapeIssuer.cause : TapeIssuer → TapeCause
  | .theShow => .theShow
  | .link => .link

/-- Whether the flag that bars a move is SET (R155). -/
def MoveOrder.barred (o : MoveOrder) (t : Tac) : Bool :=
  match o with
  | .play | .fastFwd => t.endFlag
  | .rewind => t.beginFlag

/-- Carries out a move order from rest: the move begins, or its flag bars it and the transport rests in STOPPED. A
barred PLAY raises A2 and answers AT_END, a barred REWIND sets the counter to 0 and answers AT_START; the Show
Controller's notice of either is the caller's (R155, R158). -/
def beginMove (o : MoveOrder) (issuer : TapeIssuer) (s : State) : State × TapeOutcome :=
  if o.barred s.tac then
    let s := enterTransport .stopped none issuer.cause s
    match o with
    | .play => (raiseFault .tapeEnd .empty s, .atEnd)
    | .fastFwd => (s, .atEnd)
    | .rewind => (s.updTac fun t => { t with counter := 0 }, .atStart)
  else (enterTransport o.state none issuer.cause s, .taken)

/-- Makes an order the pending order, replacing any (R155). -/
def holdOrder (o : MoveOrder) (issuer : TapeIssuer) (s : State) : State :=
  s.updTac fun t => { t with order := some ⟨o, issuer⟩ }

/-- A PLAY, FAST_FWD or REWIND order (the table of R155). -/
def moveOrder (o : MoveOrder) (issuer : TapeIssuer) (s : State) : State × TapeOutcome :=
  match s.tac.state.direction with
  | none =>
    if s.tac.state = .stopped ∧ s.tac.brake.isSome then (holdOrder o issuer s, .pending)
    else beginMove o issuer s
  | some d =>
    if s.tac.state = o.state then (s, .noChange)
    else if o.state.direction = some d then (enterTransport o.state none issuer.cause s, .taken)
    else (holdOrder o issuer (enterTransport .stopped (some d) issuer.cause s), .pending)

/-! ## Entries offered to the Motion Queue (section 2.3) -/

/-- What an issuer learns of its entry (R33). -/
inductive Offered where
  | joined | merged | full
  deriving DecidableEq, Repr, Inhabited

/-- The tail after an offered entry has merged into it, when it is eligible (R34). -/
def mergeTail (tail : Motion) (move : Move) (source : Source) : Option Motion :=
  if source ≠ .theShow ∧ tail.active = false ∧ tail.source = source ∧ tail.tag = none then
    match move, tail.move with
    | .advance n, .advance m => some { tail with move := .advance (min (m + n) 90) }
    | .back n, .back m => some { tail with move := .back (min (m + n) 90) }
    | _, _ => none
  else none

/-- The queue after an entry has merged into its tail, when it is eligible (R34). -/
def mergeInto (move : Move) (source : Source) : List Motion → Option (List Motion)
  | [] => none
  | [m] => (mergeTail m move source).map fun t => [t]
  | m :: rest => (mergeInto move source rest).map fun r => m :: r

/-- What a full queue does with an entry it cannot take (R35). The MOVE's QUEUE_FULL is the link's. -/
def refusedFull (source : Source) (tag : Option Nat) (s : State) : State :=
  match source with
  | .link => s
  | .remote => s.updRrx fun r => { r with dropped := bump16 r.dropped }
  | .theShow => raiseFault .motionOverflow (.ofCue tag) s

/-- An entry offered to the queue (R33). A joined entry becomes ACTIVE at a TAKE_ENTRY (log 7). -/
def offer (move : Move) (source : Source) (tag : Option Nat) (s : State) : State × Offered :=
  match mergeInto move source s.mq with
  | some q => (s.updMq fun _ => q, .merged)
  | none =>
    if 8 ≤ s.mq.length then (refusedFull source tag s, .full)
    else (s.updMq fun q => q ++ [⟨move, source, tag, false⟩], .joined)

end Sys2Proof.Machine
end

