-- ==== Sys2Proof/Machine/ShowOps.lean ====
section
/-! DEFINITION. The Show Controller's operations: moves and checks, arrivals, the end of the tape, parts, returns
from HELD and the excursion, and its answers to the notices of the other blocks (sections 7.3 to 7.10). -/

namespace Sys2Proof.Machine

/-! ## Moves of the show and their checks -/

/-- What a refusal as full does for the purpose the entry would have had (R130, R134, R140, R148). T10 has been raised
before it, so the show does not stand in a state in which the refusal could go further (log 8). -/
def showRefused (purpose : Purpose) (s : State) : State :=
  match purpose with
  | .start | .loopReturn =>
    s.updShc fun c => { c with parts := { c.parts with goto := c.parts.goto.map fun _ => .failed } }
  | .cutChange => s.updShc fun c => { c with cut := none }
  | .excursionReturn | .change | .step | .resync => s

/-- Offers a motion entry of the show; one that joins takes an item of the issued-move list (R134). -/
def offerShow (move : Move) (tag : Option Nat) (purpose : Purpose) (check : Option SlotCheck) (s : State) : State :=
  let r := offer move .theShow tag s
  match r.2 with
  | .joined | .merged => r.1.updShc fun c => { c with issued := c.issued ++ [⟨purpose, check⟩] }
  | .full => showRefused purpose r.1

/-- The expected-slot check against a position (R136): a mismatch raises C7 and, with RESYNC on, issues the GOTO. -/
def slotCheck (check : SlotCheck) (position : Position) (s : State) : State :=
  if position.slot.map (·.val) = some check.expected then s
  else
    let s := raiseFault .syncLost
      { Detail.empty with cue := some check.cue, expected := some check.expected, position := some position } s
    if s.retained.params.resync then
      offerShow (.goto (Fin.ofNat 91 check.expected)) (some check.cue) .resync none s
    else s

/-- The check of a completed move, in the states that make it (R136). -/
def itemCheck (check : Option SlotCheck) (position : Position) (s : State) : State :=
  match check with
  | none => s
  | some k =>
    match s.shc.state with
    | .running | .paused | .held | .excursion => slotCheck k position s
    | .stopped | .starting | .looping => s

/-- Starts a CUT (R139): the record with the intended level of this moment, and the fade to 0. -/
def startCut (outMs inMs : Nat) (move : Move) (tag : Option Nat) (check : Option SlotCheck) (s : State) : State :=
  let restore := s.fe.level
  let s := showFade 0 outMs .linear tag s
  s.updShc fun c => { c with cut := some ⟨.fadingOut, tag, restore, inMs, move, check⟩ }

/-- A volume order (R163). -/
def volumeOrder (volume ramp : Nat) (s : State) : State :=
  s.updTac fun t =>
    let t := { t with volume := volume }
    if t.state = .play then Tac.startRamp volume ramp t else t

/-! ## Executing a cue entry (R133, R134) -/

/-- Whether an action carries a change of slide that is queued at once. -/
def CueAction.isChange : CueAction → Bool
  | .change _ => true
  | _ => false

/-- Whether an action is a CUT. -/
def CueAction.isCut : CueAction → Bool
  | .cut .. => true
  | _ => false

/-- PAUSED by a PAUSE action: with the show RUNNING it enters PAUSED and starts the hold timer (R142; log 20). -/
def pauseAction (hold : Nat) (s : State) : State :=
  if s.shc.state = .running then
    let s := setShow .paused .action s
    let s := s.updShc fun c => { c with hold := some hold }
    if s.tac.state = .play then tapePauseOrder .theShow s else s
  else s

/-- Issues one action. `check` is the entry's check when this action is the one that carries it (R136). -/
def issueAction (cue : Nat) (check : Option SlotCheck) (a : CueAction) (s : State) : State :=
  match a with
  | .change m => offerShow m (some cue) .change check s
  | .fade target duration curve => showFade target duration curve (some cue) s
  | .cut outMs inMs m => startCut outMs inMs m (some cue) check s
  | .audio volume ramp => volumeOrder volume ramp s
  | .pause hold => pauseAction hold s

/-- Issues an action list in order. `cutCheck` goes with the CUT, `changeCheck` with the last CHANGE (R136). -/
def issueActions (cue : Nat) (cutCheck changeCheck : Option SlotCheck) : List CueAction → State → State
  | [], s => s
  | a :: rest, s =>
    let check := if a.isCut then cutCheck else if rest.any (·.isChange) then none else changeCheck
    issueActions cue cutCheck changeCheck rest (issueAction cue check a s)

/-- The check of an entry, when it has an expected slot. -/
def CueEntry.check (e : CueEntry) : Option SlotCheck := e.expected.map fun x => ⟨e.number, x⟩

/-- Executes an entry (R133, R136): its actions, its check at once when it has no move, and CUE_TAKEN. -/
def executeEntry (e : CueEntry) (index : Nat) (relation : Relation) (fromPending : Bool) (s : State) : State :=
  let s :=
    if e.actions.any (·.isCut) then issueActions e.number e.check none e.actions s
    else if e.actions.any (·.isChange) then issueActions e.number none e.check e.actions s
    else itemCheck e.check s.retained.position (issueActions e.number none none e.actions s)
  raiseEvent (.cueTaken (.coded e.number) (some index) s.shc.pointer (some relation) fromPending) s

/-- A CODED arrival handled in RUNNING (R133). -/
def handleCoded (number : Nat) (fromPending : Bool) (s : State) : State :=
  match s.retained.cues.findIdx? (·.number == number) with
  | none => raiseFault .unknownCue (.ofCue (some number)) s
  | some i =>
    match s.retained.cues[i]? with
    | none => s
    | some e =>
      let p := s.shc.pointer
      let s := s.updShc fun c => { c with pointer := i + 1 }
      if i = p then executeEntry e i .inOrder fromPending s
      else if p < i then
        executeEntry e i .skip fromPending
          (raiseFault .cueSkip { Detail.empty with cue := some number, skipped := some (i - p) } s)
      else executeEntry e i .backward fromPending (raiseFault .cueBackward (.ofCue (some number)) s)

/-- A STEP arrival handled in RUNNING (R135). -/
def handleStep (fromPending : Bool) (s : State) : State :=
  let s := match s.retained.params.stepAction with
    | .advance => offerShow (.advance 1) none .step none s
    | .cut => startCut s.retained.params.stepCutOut s.retained.params.stepCutIn (.advance 1) none none s
  raiseEvent (.cueTaken .step none s.shc.pointer none fromPending) s

/-! ## The end of the tape (R137, R138) -/

/-- The part list's parts that a notice ends. -/
inductive Part where
  | rewind | goto | strike | fade
  deriving DecidableEq, Repr, Inhabited

/-- A part's state in the list. -/
def Parts.get (p : Parts) : Part → Option PartState
  | .rewind => p.rewind
  | .goto => p.goto
  | .strike => p.strike
  | .fade => p.fade

/-- Ends an OUTSTANDING part; any other stays as it is. -/
def Parts.finish (part : Part) (ending : PartState) (p : Parts) : Parts :=
  let f := fun (x : Option PartState) => if x = some .outstanding then some ending else x
  match part with
  | .rewind => { p with rewind := f p.rewind }
  | .goto => { p with goto := f p.goto }
  | .strike => { p with strike := f p.strike }
  | .fade => { p with fade := f p.fade }

/-- Ends an OUTSTANDING part of the show's list. -/
def finishPart (part : Part) (ending : PartState) (s : State) : State :=
  s.updShc fun c => { c with parts := c.parts.finish part ending }

/-- A REWIND order of the show; one that finds the begin flag SET ends the REWIND part at once (R155). -/
def showRewind (s : State) : State :=
  let r := moveOrder .rewind .theShow s
  if r.2 = .atStart then finishPart .rewind .done r.1 else r.1

/-- Entry to LOOPING (R138): the fade to 0, the parts FADE and REWIND, and REWIND. An END counts as a notice in
SHOW_STATE, be it taken from the pending list (log 47). -/
def enterLooping (s : State) : State :=
  let s := showFade 0 1000 .smooth none s
  let s := s.updShc fun c =>
    { c with parts := { Parts.empty with rewind := some .outstanding, fade := some .outstanding } }
  showRewind (setShow .looping .notice s)

/-- An item whose CUT has gone continues as an ordinary move (R137; log 21). -/
def Issued.ordinary (i : Issued) : Issued :=
  match i.purpose with
  | .cutChange => { i with purpose := .change }
  | _ => i

/-- END handling (R137). -/
def endHandling (s : State) : State :=
  let s := s.updShc fun c =>
    { c with cut := none, issued := if c.cut.isSome then c.issued.map Issued.ordinary else c.issued, cues := [],
             loopsDone := bump8 c.loopsDone }
  if s.shc.loops ≠ 0 ∧ s.shc.loopsDone = s.shc.loops then
    enterStopped .ended (showFade 0 2000 .smooth none s)
  else enterLooping s

/-- A tape end told by the transport (R132). -/
def tapeEnded (s : State) : State := if s.shc.state = .running then endHandling s else s

/-! ## Arrivals and the pending cue list (R132, R141) -/

/-- An arrival handled in RUNNING. -/
def handleArrival (a : Arrival) (fromPending : Bool) (s : State) : State :=
  match a with
  | .step => handleStep fromPending s
  | .tapeEnd => endHandling s
  | .coded n => handleCoded n fromPending s

/-- Takes the pending cue list, oldest first, while the show is RUNNING with no CUT record (R141). The list never
grows while it is taken, so its length bounds the taking. -/
def takePending : Nat → State → State
  | 0, s => s
  | n + 1, s =>
    if s.shc.state = .running ∧ s.shc.cut = none then
      match s.shc.cues with
      | [] => s
      | a :: rest => takePending n (handleArrival a true (s.updShc fun c => { c with cues := rest }))
    else s

/-- The taking of the list at an entry to RUNNING or at the end of a CUT. -/
def drainCues (s : State) : State := takePending s.shc.cues.length s

/-- An arrival that joins the pending cue list, or finds it full: C6 (R141). -/
def keepArrival (a : Arrival) (s : State) : State :=
  if s.shc.cues.length < 4 then s.updShc fun c => { c with cues := c.cues ++ [a] }
  else
    let cue := match a with
      | .coded n => some n
      | .step | .tapeEnd => none
    raiseFault .cueOverrun { Detail.empty with cue := cue, arrival := some a } s

/-- An arrival from the Cue Decoder, routed by the show state (R132). -/
def routeArrival (a : Arrival) (s : State) : State :=
  match s.shc.state with
  | .stopped | .starting | .looping => s
  | .running => if s.shc.cut.isSome then keepArrival a s else handleArrival a false s
  | .paused | .held | .excursion => keepArrival a s

/-! ## Entry to RUNNING and the part list (R128, R131) -/

/-- Entry to RUNNING: SHOW_STATE, PLAY, a tape end when PLAY finds the tape at its end, then the pending cue list
(R128, R141, R158; log 10). -/
def goRunning (reason : ShowReason) (s : State) : State :=
  let r := moveOrder .play .theShow (setShow .running reason s)
  drainCues (if r.2 = .atEnd then tapeEnded r.1 else r.1)

/-- Whether a part is OUTSTANDING. -/
def Parts.outstanding (p : Parts) : Bool :=
  p.rewind == some .outstanding || p.goto == some .outstanding || p.strike == some .outstanding ||
    p.fade == some .outstanding

/-- Whether a part is FAILED. -/
def Parts.anyFailed (p : Parts) : Bool := p.rewind == some .failed || p.goto == some .failed

/-- The purpose of the GOTO of a part list. -/
def ShowState.gotoPurpose : ShowState → Purpose
  | .looping => .loopReturn
  | _ => .start

/-- Offers the GOTO to the start slot, for a part set OUTSTANDING. -/
def offerStartGoto (purpose : Purpose) (s : State) : State :=
  let s := s.updShc fun c => { c with parts := { c.parts with goto := some .outstanding } }
  match s.shc.startSlot with
  | none => s
  | some p => offerShow (.goto p) none purpose none s

/-- Issues the FAILED parts again (R131). -/
def reissueParts (s : State) : State :=
  let rewindFailed := s.shc.parts.rewind = some .failed
  let s := if s.shc.parts.goto = some .failed then offerStartGoto s.shc.state.gotoPurpose s else s
  if rewindFailed then
    showRewind (s.updShc fun c => { c with parts := { c.parts with rewind := some .outstanding } })
  else s

/-- Whether the part list is examined: in STARTING or LOOPING, with no part OUTSTANDING (R131). -/
def Shc.examinable (c : Shc) : Bool :=
  (c.state == .starting || c.state == .looping) && !c.parts.outstanding

/-- The end of the part list: RUNNING with the pointer 0, the fade to SHOW_LEVEL, PLAY (R131; log 10). -/
def partsDone (reason : ShowReason) (s : State) : State :=
  let s := s.updShc fun c => { c with parts := .empty, pointer := 0 }
  goRunning reason (showFade s.retained.params.showLevel 1000 .smooth none s)

/-- The examination of the part list (R131): FAILED parts are issued again; when every part is DONE, RUNNING. -/
def examine (reason : ShowReason) (s : State) : State :=
  if s.shc.examinable then
    let s := if s.shc.parts.anyFailed then reissueParts s else s
    if s.shc.examinable && !s.shc.parts.anyFailed then partsDone reason s else s
  else s

/-! ## Notices of the other blocks -/

/-- A rewind's end at the tape-begin sensor, or by a stall (R130). -/
def rewindEnded (ending : PartState) (s : State) : State := examine .notice (finishPart .rewind ending s)

/-- The end of a CUT: the record goes, and with the show RUNNING the pending cue list is taken (R140). -/
def endCut (s : State) : State :=
  let s := s.updShc fun c => { c with cut := none }
  if s.shc.state = .running then drainCues s else s

/-- The ending of a fade of origin SHOW (R138, R139, R140). -/
def showFadeEnded (s : State) : State :=
  if s.shc.parts.fade = some .outstanding then
    examine .notice (offerStartGoto .loopReturn (finishPart .fade .done s))
  else
    match s.shc.cut with
    | none => s
    | some k =>
      match k.phase with
      | .fadingOut =>
        offerShow k.move k.tag .cutChange k.check
          (s.updShc fun c => { c with cut := some { k with phase := .changing, check := none } })
      | .changing => s
      | .fadingIn => endCut s

/-- The oldest item of the issued-move list leaves it (R134). -/
def popIssued (s : State) : State := s.updShc fun c => { c with issued := c.issued.drop 1 }

/-- The CUT in CHANGING, when there is one. -/
def Shc.changingCut (c : Shc) : Option Cut := c.cut.filter fun k => k.phase == .changing

/-- A SHOW entry completed: its item is acted on by its purpose (R130, R134, R136, R140, R148), in the show that stands
then, be the item of one that was stopped (log 45). -/
def showMoveDone (position : Position) (s : State) : State :=
  match s.shc.issued.head? with
  | none => s
  | some item =>
    let s := popIssued s
    match item.purpose with
    | .start | .loopReturn => examine .notice (finishPart .goto .done s)
    | .excursionReturn => if s.shc.state = .excursion then goRunning .notice s else s
    | .change | .step | .resync => itemCheck item.check position s
    | .cutChange =>
      let s := match s.shc.changingCut with
        | none => s
        | some k =>
          (showFade k.restore k.inMs .linear k.tag s).updShc fun c =>
            { c with cut := some { k with phase := .fadingIn } }
      itemCheck item.check position s

/-- A SHOW entry left without completing (R130, R134, R140, R148; log 45). -/
def showMoveCancelled (s : State) : State :=
  match s.shc.issued.head? with
  | none => s
  | some item =>
    let s := popIssued s
    match item.purpose with
    | .start | .loopReturn => examine .notice (finishPart .goto .failed s)
    | .excursionReturn => if s.shc.state = .excursion then goRunning .notice s else s
    | .change | .step | .resync => s
    | .cutChange => if s.shc.changingCut.isSome then endCut s else s

/-- The notice of a cancelled entry: the show acts on its own (R43, R134). -/
def tellCancelled (s : State) (m : Motion) : State :=
  if m.source = Source.theShow then showMoveCancelled s else s

/-- An entry has become ACTIVE: the capture of the return register (R36, R147). -/
def entryActive (source : Source) (s : State) : State :=
  if source = .remote ∧ s.shc.state = .excursion ∧ s.shc.register = .empty ∧ s.shc.returning = false then
    s.updShc fun c =>
      { c with register := match s.retained.position with
          | .known p => .known p
          | .unknown => .unknown }
  else s

/-- The conditions that keep a show from returning from HELD (R145); the turret stands between positions when it is
MOVING with the motor OFF (R69). -/
def State.obstacles (s : State) : List Obstacle :=
  (if s.tgc.phase = .jammed ∨ s.tgc.phase = .unseated then [.trayJammed] else []) ++
  (if s.retained.position = .unknown then [.positionUnknown] else []) ++
  (if s.retained.lampA.state = .failed ∧ s.retained.lampB.state = .failed then [.lampsFailed] else []) ++
  (if s.ltc.position = .moving ∧ s.ltc.target = none then [.turretBetween] else []) ++
  (if s.tac.stall then [.tapeStall] else [])

/-- The return from HELD to its return state (R145). -/
def returnFromHeld (reason : ShowReason) (s : State) : State :=
  match s.shc.held with
  | none => s
  | some h =>
    let s := s.updShc fun c => { c with held := none }
    match h.resume with
    | .running => goRunning reason s
    | .paused => setShow .paused reason s
    | .starting => examine reason (setShow .starting reason s)
    | .looping => examine reason (setShow .looping reason s)
    | .stopped | .held | .excursion => setShow h.resume reason s

/-- A lamp has become LIT (R130, R145): a show held then by a HOLD returns, a show that waits for its parts examines
them. -/
def lampLit (s : State) : State :=
  let s := finishPart .strike .done s
  if s.shc.state = .held then
    match s.shc.held with
    | some h => if h.hold ∧ s.obstacles = [] then returnFromHeld .notice s else s
    | none => s
  else examine .notice s

/-- The answer to an excursion key, MOVE or not (R146). -/
def excursionKey (s : State) : State × Bool :=
  match s.shc.state with
  | .stopped => (s, true)
  | .running =>
    let s := setShow .excursion .key s
    (if s.tac.state = .play then tapePauseOrder .theShow s else s, true)
  | .excursion => (s, !s.shc.returning)
  | .starting | .paused | .held | .looping => (s, false)

/-- RETURN, by the key or by SHOW_RESUME (R148). -/
def returnOrder (reason : ShowReason) (s : State) : State :=
  if s.shc.state = .excursion then
    match s.shc.register with
    | .known p =>
      let s := s.updShc fun c => { c with register := .empty, returning := true }
      offerShow (.goto p) none .excursionReturn none s
    | .unknown => goRunning reason s
    | .empty =>
      if s.shc.returning then s
      else goRunning reason (discardWaiting (fun m => m.source == Source.remote) .returned s)
  else s

/-- RUNNING from PAUSED; the hold timer stops (R142), so that no expiry follows (log 49). -/
def resumePaused (reason : ShowReason) (s : State) : State :=
  goRunning reason (s.updShc fun c => { c with hold := none })

/-- PAUSED from RUNNING by a request or a key (R142). -/
def pauseShow (reason : ShowReason) (s : State) : State :=
  let s := setShow .paused reason s
  if s.tac.state = .play then tapePauseOrder .theShow s else s

/-- The PAUSE key, by the table of R142. DESIGN CHOICE (log 49): by the table too where the key comes together with
the hold timer's expiry, on which R142's last sentence says the reverse. -/
def pauseKey (s : State) : State :=
  match s.shc.state with
  | .running => pauseShow .key s
  | .paused => resumePaused .key s
  | .stopped | .starting | .held | .excursion | .looping => s

end Sys2Proof.Machine
end

