-- ==== Sys2Proof/Machine/LightOps.lean ====
section
/-! DEFINITION. The Fade Engine's six stages, the lamp dimmer output and the burn-out watch that follows it
(03_light_level_computation.md; R80). -/

namespace Sys2Proof.Machine

/-- Stage 1: the progress of step `k` of `total` (R52). -/
def progress (k total : Nat) : Nat := 4096 * k / total

/-- Stage 2 for a 17-point table (R53). -/
def tableShape (table : Vector Nat 17) (p : Nat) : Nat :=
  if p = 4096 then table[16]
  else
    let lo := table[p / 256]?.getD 0
    let hi := table[p / 256 + 1]?.getD 0
    lo + (hi - lo) * (p % 256) / 256

/-- Stage 2 (R53). -/
def shape (curve : Curve) (user : Vector Nat 17) (p : Nat) : Nat :=
  match curve with
  | .linear => p
  | .smooth => tableShape smoothTable p
  | .user => tableShape user p

/-- Stage 3's rounding of the exact quotient `n / 4096` (R54). -/
def roundQuotient (mode : Rounding) (n : Int) : Int :=
  let q := n / 4096
  let r := n % 4096
  match mode with
  | .nearest => if r < 2048 then q else if 2048 < r then q + 1 else if q % 2 = 0 then q else q + 1
  | .zero => if n < 0 ∧ r ≠ 0 then q + 1 else q
  | .up => if r ≠ 0 then q + 1 else q
  | .down => q

/-- Stages 1 to 3 at step `k` (R51 to R54). -/
def levelAt (mode : Rounding) (user : Vector Nat 17) (r : FadeRecord) (k : Nat) : Nat :=
  if k = r.total then r.target
  else
    let s := shape r.curve user (progress k r.total)
    ((r.start : Int) + roundQuotient mode (((r.target : Int) - r.start) * s)).toNat

/-- Stage 6 (R58). -/
def response (table : Vector Nat 11) (a : Nat) : Nat :=
  if a = 1000 then table[10]
  else
    let lo := table[a / 100]?.getD 0
    let hi := table[a / 100 + 1]?.getD 0
    lo + (hi - lo) * (a % 100) / 100

/-- Stages 4 to 6 on the intended level held (R56, R57, R58). A LIT lamp is dark where A1 is below the floor, as R57 has
it; with FLOOR_LEVEL 0 one at A = 0 is not, though R60 calls A = 0 dark (log 46). -/
def Fe.stages (p : Params) (table : Vector Nat 11) (effective : Nat) (lit : Bool) (f : Fe) : Fe :=
  let e := min effective p.maxLevel
  let a := min f.level e
  if lit then
    if a < p.floorLevel then
      { f with ceiling := e, applied := 0, drive := if p.keepwarm then p.keepwarmDrive else 0, dark := true }
    else { f with ceiling := e, applied := a, drive := response table a, dark := false }
  else { f with ceiling := e, applied := 0, drive := 0, dark := false }

/-- The value the dimmer output carries: the strike sequence's drive while a lamp is STRIKING, D otherwise (R59,
section 4.3). -/
def State.dimmerDrive (s : State) : Nat :=
  match s.ltc.strike.phase with
  | .preheat | .check => s.retained.params.keepwarmDrive
  | .retryWait => 0
  | .idle | .turning => s.fe.drive

/-- The burn-out watch of a LIT lamp after the output went from `old` to `new` (R80; log 22). -/
def nextWatch (old new : Nat) (w : Option Watch) : Watch :=
  if new = 0 then .suspended
  else if old = 0 then .settling
  else w.getD .running

/-- Drives the dimmer output, and lets the burn-out watch follow it. -/
def syncDimmer (s : State) : State :=
  let old := s.fe.dimmer
  let new := s.dimmerDrive
  let s := s.updFe fun f => { f with dimmer := new }
  s.updLtc fun t => { t with watch := if s.litLamp.isSome then some (nextWatch old new t.watch) else none }

/-- Runs stages 4 to 6 (R59) and drives the output. -/
def runStages (s : State) : State :=
  syncDimmer (s.updFe
    (Fe.stages s.retained.params s.retained.response s.thu.effective s.litLamp.isSome))

/-- Installs a SET_RESPONSE that waits (R64). -/
def installResponse (s : State) : State :=
  match s.fe.pendingResponse with
  | none => s
  | some t => (s.updRetained fun r => { r with response := t }).updFe fun f => { f with pendingResponse := none }

/-- Advances the fade in flight by one step; the answer says whether it has reached its end (R51). -/
def advanceFade (s : State) : State × Bool :=
  match s.fe.fade with
  | none => (s, false)
  | some r =>
    if r.total = 0 then (s.updFe fun f => { f with level := r.target }, true)
    else
      let k := r.index + 1
      let level := levelAt s.retained.params.rounding s.retained.user r k
      (s.updFe fun f => { f with level := level, fade := some { r with index := k } }, k = r.total)

/-- Ends the fade in flight as REPLACED and tells the Show Controller of an ending of origin SHOW (R48, R55). -/
def replaceFade (s : State) : State :=
  match s.fe.fade with
  | none => s
  | some r =>
    let s := endFade false s
    if r.origin = .theShow then showFadeEnded s else s

/-- A fade order from outside the show. A show's answer to the ending of its fade may itself order a fade, which this
order then replaces as well; a second such answer orders none (log 9). -/
def orderFade (target duration : Nat) (curve : Curve) (origin : FadeOrigin) (s : State) : State :=
  createFade target duration curve origin none (replaceFade (replaceFade s))

/-- The target of a relative order (R49). -/
def relativeTarget (up : Bool) (level : Nat) : Nat := if up then min (level + 50) 1000 else level - 50

end Sys2Proof.Machine
end

