-- ==== Sys2Proof/Machine/HeatOps.lean ====
section
/-! DEFINITION. The Thermal Unit's operations: ceilings, fan, cool-down, the strike bar
(05_thermal_control_and_cooling.md). -/

namespace Sys2Proof.Machine

/-- The band of a reading (R95). -/
def thermalBand (t : Int) : ThermalState :=
  if t ≤ 70 then .normal else if t ≤ 89 then .warm else if t ≤ 99 then .hot else .trip

/-- The target ceiling (R98). UNREAD while SEEING does not occur; it takes the UNREAD row's 400. -/
def Thu.targetFor (u : Thu) : Nat :=
  match u.state with
  | .trip => 0
  | .unread | .hot => 400
  | .normal => if u.seeing then 1000 else 400
  | .warm => if u.seeing then (1000 - 30 * (u.reading.getD 0 - 70)).toNat else 400

/-- Recomputes the target; the effective ceiling falls with it at once (R98, R99), and the Fade Engine runs its stages
when the effective ceiling changed (R59). -/
def retarget (s : State) : State :=
  let target := s.thu.targetFor
  let effective := min s.thu.effective target
  let changed := effective ≠ s.thu.effective
  let s := s.updThu fun u => { u with target := target, effective := effective }
  if changed then runStages s else s

/-- The temperature demand of a reading (R100). -/
def demand (t : Int) : Nat := if t ≤ 50 then 30 else min (30 + 3 * (t - 50).toNat) 100

/-- The lamp duty (R100). -/
def State.lampDuty (s : State) : Bool :=
  s.litLamp.isSome || s.strikingLamp.isSome || s.thu.cooldown.isSome

/-- The fan command while the part runs (R100). SEEING without a reading does not occur; its demand is 30 (log 35). -/
def State.fanCommand (s : State) : Nat :=
  if s.lampDuty then
    if s.thu.seeing = false ∨ s.thu.state = .trip then 100
    else max 30 ((s.thu.reading.map demand).getD 30)
  else if s.thu.state = .trip then 100
  else match s.thu.reading with
    | some t => if s.thu.seeing ∧ 50 ≤ t then demand t else 0
    | none => 0

/-- The fan-stall monitor after a command (R101). -/
def FanMonitor.follow (command : Nat) (m : FanMonitor) : FanMonitor :=
  if command = 0 then .idle
  else match m with
    | .idle => .watching
    | .watching => .watching
    | .stalled => .stalled

/-- Commands the fan, and lets the monitor follow (R100, R101). -/
def setFan (command : Nat) (s : State) : State :=
  s.updThu fun u => { u with fan := command, monitor := u.monitor.follow command }

/-- Recomputes the fan command (R100). -/
def syncFan (s : State) : State := setFan s.fanCommand s

/-- A change of the cool-down, with the fan recomputed (R103). -/
def setCooldown (c : Option Nat) (s : State) : State := syncFan (s.updThu fun u => { u with cooldown := c })

/-- The notice of a lamp's change of state (R72, R100, R103). -/
def tellThermal (old new : LampState) (s : State) : State :=
  if new = .striking then setCooldown none s
  else if old = .lit ∨ (old = .striking ∧ new ≠ .lit) then setCooldown (some 0) s
  else syncFan s

/-- Whether strikes are barred (R97). -/
def Thu.bars (u : Thu) : Bool := u.state == .trip || u.latch || u.monitor == .stalled

/-- Whether a cool-down of `elapsed` seconds meets its end condition (R104). -/
def Thu.cooled (elapsed : Nat) (u : Thu) : Bool :=
  if u.seeing then
    decide (90 ≤ elapsed) && (match u.reading with
      | some t => decide (t ≤ 45)
      | none => false)
  else decide (300 ≤ elapsed)

/-- Ends an active cool-down whose end condition holds: COOLDOWN_DONE and the fan. The answer says whether it ended;
the power-state logic's notice is the caller's (R104). -/
def endCooldown (s : State) : State × Bool :=
  match s.thu.cooldown with
  | none => (s, false)
  | some n =>
    if s.thu.cooled n then
      let s := s.updThu fun u => { u with cooldown := none }
      (syncFan (raiseEvent (.cooldownDone n s.thu.reading) s), true)
    else (s, false)

end Sys2Proof.Machine
end

