-- ==== Sys2Proof/Machine/RetainedOps.lean ====
section
/-! DEFINITION. The ranges the spec gives the retained section (R2, R3, R62, R64, R71, R123, R204). -/

namespace Sys2Proof.Machine

/-- A change spec: ADVANCE n or REVERSE n with n 1..90, or a GOTO (R123). -/
def changeOk (m : Move) : Bool :=
  match m with
  | .advance n | .back n => decide (1 ≤ n) && decide (n ≤ 90)
  | .goto _ => true
  | .home => false

/-- The ranges of an action (R123). -/
def CueAction.ok : CueAction → Bool
  | .change m => changeOk m
  | .fade target duration _ => decide (target ≤ 1000) && decide (duration ≤ 30000)
  | .cut outMs inMs m => decide (outMs ≤ 5000) && decide (inMs ≤ 5000) && changeOk m
  | .audio volume ramp => decide (volume ≤ 63) && decide (ramp ≤ 10000)
  | .pause hold => decide (1 ≤ hold) && decide (hold ≤ 600)

/-- How many CUTs, PAUSEs and FADEs a list holds (R123). -/
def countCuts (l : List CueAction) : Nat := l.countP fun | .cut .. => true | _ => false
/-- PAUSEs of an action list. -/
def countPauses (l : List CueAction) : Nat := l.countP fun | .pause _ => true | _ => false
/-- FADEs of an action list. -/
def countFades (l : List CueAction) : Nat := l.countP fun | .fade .. => true | _ => false

/-- The limits of an action list: 1 to 4 actions, at most one CUT, at most one PAUSE, no FADE with a CUT (R123). -/
def actionsOk (l : List CueAction) : Bool :=
  decide (1 ≤ l.length) && decide (l.length ≤ 4) && l.all (·.ok) && decide (countCuts l ≤ 1) &&
    decide (countPauses l ≤ 1) && (decide (countCuts l = 0) || decide (countFades l = 0))

/-- A cue entry's ranges (R123). -/
def CueEntry.ok (e : CueEntry) : Bool :=
  decide (e.number ≤ 4095) && actionsOk e.actions && e.expected.all fun x => decide (1 ≤ x) && decide (x ≤ 90)

/-- Cue numbers strictly ascending (R123). -/
def ascending : List CueEntry → Bool
  | a :: b :: rest => decide (a.number < b.number) && ascending (b :: rest)
  | _ => true

/-- No value less than the one before it (R62, R64). -/
def nonDecreasing : List Nat → Bool
  | a :: b :: rest => decide (a ≤ b) && nonDecreasing (b :: rest)
  | _ => true

/-- A USER table: from 0 to 4096, never decreasing (R62). -/
def userOk (points : List Nat) : Bool :=
  decide (points.head? = some 0) && decide (points.getLast? = some 4096) && nonDecreasing points

/-- A response table: within 0..1023, never decreasing (R64). -/
def responseOk (points : List Nat) : Bool := points.all (fun x => decide (x ≤ 1023)) && nonDecreasing points

/-- A lamp record's ranges, the lamp not burning (R71). -/
def LampRecord.ok (r : LampRecord) : Bool :=
  decide (r.state = .ready ∨ r.state = .failed) && decide (r.wear ≤ 4294967295) && decide (10 ≤ r.life) &&
    decide (r.life ≤ 2000) && decide (r.strikes ≤ 65535) && decide (r.failures ≤ 3)

/-- The parameters' ranges (R204). -/
def Params.ok (p : Params) : Bool :=
  decide (100 ≤ p.maxLevel) && decide (p.maxLevel ≤ 1000) && decide (p.floorLevel ≤ 200) &&
    decide (p.keepwarmDrive ≤ 200) && decide (1 ≤ p.cueSensitivity) && decide (p.cueSensitivity ≤ 8) &&
    decide (p.showLevel ≤ 1000) && decide (p.stepCutOut ≤ 5000) && decide (p.stepCutIn ≤ 5000) &&
    decide (p.resumeRamp ≤ 2000) && decide (p.remoteChannel ≤ 31)

/-- The retained section's ranges, with no lamp burning. -/
def Retained.ok (r : Retained) : Bool :=
  decide (r.map[0] = .empty) && r.lampA.ok && r.lampB.ok && decide (r.cues.length ≤ 128) && r.cues.all (·.ok) &&
    ascending r.cues && userOk r.user.toList && responseOk r.response.toList && r.params.ok

end Sys2Proof.Machine
end

