-- ==== Sys2Proof/Machine/Operands.lean ====
section
/-! DEFINITION. The operands of the requests: the numbers of the enumerated fields, ranges and clamps
(R32, R50, R92, R123, R173, R203, R204). Enumerations the chapters do not number are numbered from 0 in the order the
owning rule lists them (R203). -/

namespace Sys2Proof.Machine

/-! ## MOVE (R32) -/

/-- A MOVE's kind and count or slot: the move and whether the count was clamped; none is BAD_VALUE. -/
def moveOperand (kind arg : Nat) : Option (Move × Bool) :=
  match kind with
  | 1 => if arg = 0 then none else some (.advance (min arg 90), decide (90 < arg))
  | 2 => if arg = 0 then none else some (.back (min arg 90), decide (90 < arg))
  | 3 => if h : arg < 91 then some (.goto ⟨arg, h⟩, false) else none
  | 4 => some (.home, false)
  | _ => none

/-- A change spec's kind and value (R123, R203). -/
def changeOperand (kind value : Nat) : Option Move :=
  match kind with
  | 1 => if 1 ≤ value ∧ value ≤ 90 then some (.advance value) else none
  | 2 => if 1 ≤ value ∧ value ≤ 90 then some (.back value) else none
  | 3 => if h : value < 91 then some (.goto ⟨value, h⟩) else none
  | _ => none

/-! ## Curves, actions and cue entries (R45, R123, R124) -/

/-- A curve's number (R203). -/
def curveOperand : Nat → Option Curve
  | 0 => some .linear
  | 1 => some .smooth
  | 2 => some .user
  | _ => none

/-- A LOAD_CUE action, checked against R123's ranges. -/
def actionOperand (a : RawAction) : Option CueAction :=
  match a with
  | .change k v => (changeOperand k v).map .change
  | .fade t d c =>
    if t ≤ 1000 ∧ d ≤ 30000 then (curveOperand c).map (.fade t d) else none
  | .cut o i k v => if o ≤ 5000 ∧ i ≤ 5000 then (changeOperand k v).map (.cut o i) else none
  | .audio v r => if v ≤ 63 ∧ r ≤ 10000 then some (.audio v r) else none
  | .pause h => if 1 ≤ h ∧ h ≤ 600 then some (.pause h) else none
  | .unknown _ _ => none

/-- The actions of a LOAD_CUE, every one in range. -/
def actionsOperand : List RawAction → Option (List CueAction)
  | [] => some []
  | a :: rest =>
    match actionOperand a, actionsOperand rest with
    | some x, some xs => some (x :: xs)
    | _, _ => none

/-- The expected slot of a LOAD_CUE: 0xFF is absent; none is BAD_VALUE (R124, R203). -/
def expectedOperand (slot : Nat) : Option (Option Nat) :=
  if slot = 255 then some none
  else if 1 ≤ slot ∧ slot ≤ 90 then some (some slot)
  else none

/-- The cue entry a LOAD_CUE carries; none is BAD_VALUE (R124). -/
def cueOperand (number slot count : Nat) (actions : List RawAction) : Option CueEntry :=
  if 4095 < number ∨ count = 0 ∨ 4 < count then none
  else
    match expectedOperand slot, actionsOperand actions with
    | some x, some l => if actionsOk l then some ⟨number, l, x⟩ else none
    | _, _ => none

/-! ## Tables -/

/-- Seventeen points as a table. -/
def table17 (l : List Nat) : Option (Vector Nat 17) :=
  if h : l.length = 17 then some ⟨l.toArray, by simpa using h⟩ else none

/-- Eleven points as a table. -/
def table11 (l : List Nat) : Option (Vector Nat 11) :=
  if h : l.length = 11 then some ⟨l.toArray, by simpa using h⟩ else none

/-! ## Key functions (R173) -/

/-- A function's number. -/
def functionOperand (n : Nat) : Option KeyFunction :=
  match n with
  | 0 => some .nothing
  | 1 => some .forward
  | 2 => some .backward
  | 3 => some .focusNear
  | 4 => some .focusFar
  | 5 => some .blank
  | 6 => some .pause
  | 7 => some .returnShow
  | 8 => some .lightUp
  | 9 => some .lightDown
  | 10 => some .lamp
  | 21 => some .enter
  | n => if h : 11 ≤ n ∧ n ≤ 20 then some (.digit ⟨n - 11, by omega⟩) else none

/-- The number of a function. -/
def functionNumber : KeyFunction → Nat
  | .nothing => 0
  | .forward => 1
  | .backward => 2
  | .focusNear => 3
  | .focusFar => 4
  | .blank => 5
  | .pause => 6
  | .returnShow => 7
  | .lightUp => 8
  | .lightDown => 9
  | .lamp => 10
  | .digit d => 11 + d.val
  | .enter => 21

/-- A list of functions, every one known. -/
def functionsOperand : List Nat → Option (List KeyFunction)
  | [] => some []
  | n :: rest =>
    match functionOperand n, functionsOperand rest with
    | some f, some fs => some (f :: fs)
    | _, _ => none

/-! ## Parameters (R204) -/

/-- OFF 0, ON 1. -/
def switchOperand : Nat → Option Bool
  | 0 => some false
  | 1 => some true
  | _ => none

/-- OFF 0, ON 1. -/
def switchNumber (b : Bool) : Nat := if b then 1 else 0

/-- A rounding mode's number. -/
def roundingOperand : Nat → Option Rounding
  | 0 => some .nearest
  | 1 => some .zero
  | 2 => some .up
  | 3 => some .down
  | _ => none

/-- The number of a rounding mode. -/
def roundingNumber : Rounding → Nat
  | .nearest => 0
  | .zero => 1
  | .up => 2
  | .down => 3

/-- A value within a range. -/
def ranged (lo hi v : Nat) : Option Nat := if lo ≤ v ∧ v ≤ hi then some v else none

/-- The parameters with parameter `number` set to `value`; none is BAD_VALUE. -/
def paramSet (number value : Nat) (p : Params) : Option Params :=
  match number with
  | 1 => (switchOperand value).map fun b => { p with skipEmpty := b }
  | 2 => (roundingOperand value).map fun r => { p with rounding := r }
  | 3 => (ranged 100 1000 value).map fun v => { p with maxLevel := v }
  | 4 => (ranged 0 200 value).map fun v => { p with floorLevel := v }
  | 5 => (switchOperand value).map fun b => { p with keepwarm := b }
  | 6 => (ranged 0 200 value).map fun v => { p with keepwarmDrive := v }
  | 7 => (ranged 1 8 value).map fun v => { p with cueSensitivity := v }
  | 8 => (ranged 0 1000 value).map fun v => { p with showLevel := v }
  | 9 => (switchOperand value).map fun b => { p with rewindOnStart := b }
  | 10 => (switchOperand value).map fun b => { p with resync := b }
  | 11 => (switchOperand value).map fun b => { p with stepAction := if b then .cut else .advance }
  | 12 => (ranged 0 5000 value).map fun v => { p with stepCutOut := v }
  | 13 => (ranged 0 5000 value).map fun v => { p with stepCutIn := v }
  | 14 => (ranged 0 2000 value).map fun v => { p with resumeRamp := v }
  | 15 => (ranged 0 31 value).map fun v => { p with remoteChannel := v }
  | 16 =>
    match value with
    | 0 => some { p with lockLevel := .allOpen }
    | 1 => some { p with lockLevel := .showLock }
    | 2 => some { p with lockLevel := .locked }
    | _ => none
  | _ => none

/-- The value of parameter `number`; none is BAD_VALUE. -/
def paramGet (number : Nat) (p : Params) : Option Nat :=
  match number with
  | 1 => some (switchNumber p.skipEmpty)
  | 2 => some (roundingNumber p.rounding)
  | 3 => some p.maxLevel
  | 4 => some p.floorLevel
  | 5 => some (switchNumber p.keepwarm)
  | 6 => some p.keepwarmDrive
  | 7 => some p.cueSensitivity
  | 8 => some p.showLevel
  | 9 => some (switchNumber p.rewindOnStart)
  | 10 => some (switchNumber p.resync)
  | 11 => some (match p.stepAction with | .advance => 0 | .cut => 1)
  | 12 => some p.stepCutOut
  | 13 => some p.stepCutIn
  | 14 => some p.resumeRamp
  | 15 => some p.remoteChannel
  | 16 => some (match p.lockLevel with | .allOpen => 0 | .showLock => 1 | .locked => 2)
  | _ => none

/-! ## Report enables (R191) -/

/-- Thirty code values and nine class values, each DISABLED 0 or ENABLED 1; none is BAD_VALUE. -/
def enablesOperand (values : List Nat) : Option (Vector Bool 30 × Vector Bool 9) :=
  if h : values.length = 39 then
    if values.all (fun v => v = 0 ∨ v = 1) then
      let bits := values.map (· == 1)
      some (⟨(bits.take 30).toArray, by simp [bits, h]⟩, ⟨(bits.drop 30).toArray, by simp [bits, h]⟩)
    else none
  else none

end Sys2Proof.Machine
end

