-- ==== Sys2Proof/Machine/Bytes.lean ====
section
/-! DEFINITION. The bytes of replies and reports (R201, R202). Enumerated fields are numbered from 0 in the order their
rule lists the values (R203); what R201 and R202 leave open, the widths of the fields, absent fields and lists, is
log 6. -/

namespace Sys2Proof.Machine

/-! ## Fields -/

/-- One byte. -/
def b1 (n : Nat) : List Byte := [put1 n]
/-- An absent field of `width` bytes. -/
def absent (width : Nat) : List Byte := List.replicate width 0xFF
/-- A field of `width` bytes that may be absent. -/
def opt (width : Nat) (f : α → List Byte) : Option α → List Byte
  | some a => f a
  | none => absent width
/-- A list behind its count. -/
def listOf (f : α → List Byte) (l : List α) : List Byte := b1 l.length ++ l.flatMap f
/-- A field whose first listed value is the one that holds. -/
def firstIf (b : Bool) : List Byte := b1 (if b then 0 else 1)
/-- A field whose second listed value is the one that holds. -/
def secondIf (b : Bool) : List Byte := b1 (if b then 1 else 0)
/-- A temperature in two's complement. -/
def temperatureBytes (t : Int) : List Byte := put2 (t % 65536).toNat
/-- A temperature that may be absent: 0x8000 then, which no reading is. -/
def readingBytes : Option Int → List Byte
  | some t => temperatureBytes t
  | none => put2 0x8000
/-- A slot. -/
def slotBytes (p : Slot) : List Byte := b1 p.val
/-- A position (R203). -/
def positionBytes (p : Position) : List Byte := opt 1 slotBytes p.slot
/-- A lamp. -/
def lampBytes : Lamp → List Byte
  | .a => b1 0
  | .b => b1 1
/-- The kind number of a move: R203 gives ADVANCE 1 to HOME 4 for MOVE and for LOAD_CUE's change specs, and the model
sends the same in every reply and report that carries a kind (R15, R28, R43, R151, R189), which is its choice (log 41). -/
def moveKind : Move → Nat
  | .advance _ => 1
  | .back _ => 2
  | .goto _ => 3
  | .home => 4
/-- A move: its kind number, then its count or slot (R203). -/
def moveBytes (m : Move) : List Byte :=
  b1 (moveKind m) ++
    match m with
    | .advance n | .back n => b1 n
    | .goto p => slotBytes p
    | .home => absent 1
/-- A source. -/
def sourceBytes : Source → List Byte
  | .theShow => b1 0
  | .remote => b1 1
  | .link => b1 2
/-- A tag or cue number. -/
def tagBytes (t : Option Nat) : List Byte := opt 2 put2 t
/-- A direction, FORWARD first. -/
def directionBytes (d : Direction) : List Byte := b1 (match d with | .forward => 0 | .backward => 1)
/-- A gate load. -/
def gateLoadBytes : GateLoad → List Byte
  | .slide => b1 0
  | .empty => b1 1
  | .unknown => b1 2
/-- A phase (R28). -/
def phaseBytes : Phase → List Byte
  | .ready => b1 0
  | .closing => b1 1
  | .lifting => b1 2
  | .indexing => b1 3
  | .dropping => b1 4
  | .seating => b1 5
  | .homing => b1 6
  | .jammed => b1 7
  | .unseated => b1 8
/-- A curve (R203). -/
def curveBytes : Curve → List Byte
  | .linear => b1 0
  | .smooth => b1 1
  | .user => b1 2
/-- A fade's origin. -/
def fadeOriginBytes : FadeOrigin → List Byte
  | .theShow => b1 0
  | .remote => b1 1
  | .link => b1 2
  | .power => b1 3
/-- A lamp's state. -/
def lampStateBytes : LampState → List Byte
  | .ready => b1 0
  | .striking => b1 1
  | .lit => b1 2
  | .failed => b1 3
/-- A show state. -/
def showStateBytes : ShowState → List Byte
  | .stopped => b1 0
  | .starting => b1 1
  | .running => b1 2
  | .paused => b1 3
  | .held => b1 4
  | .excursion => b1 5
  | .looping => b1 6
/-- A stop reason. -/
def stopReasonBytes : StopReason → List Byte
  | .host => b1 0
  | .ended => b1 1
  | .shutdown => b1 2
  | .power => b1 3
  | .reset => b1 4
/-- A fault code, 1..30 (R202). -/
def codeBytes (c : FaultCode) : List Byte := b1 (c.index.val + 1)
/-- A severity, 1..5 (R202). -/
def severityBytes : Severity → List Byte
  | .note => b1 1
  | .degrade => b1 2
  | .hold => b1 3
  | .halt => b1 4
  | .shutdown => b1 5
/-- An arrival's kind. -/
def arrivalKind : Arrival → Nat
  | .step => 0
  | .tapeEnd => 1
  | .coded _ => 2
/-- The number of a CODED arrival. -/
def arrivalNumber : Arrival → Option Nat
  | .coded n => some n
  | .step | .tapeEnd => none
/-- An arrival with its number. -/
def arrivalBytes (a : Arrival) : List Byte := b1 (arrivalKind a) ++ tagBytes (arrivalNumber a)
/-- A transport state. -/
def transportBytes : Transport → List Byte
  | .stopped => b1 0
  | .play => b1 1
  | .paused => b1 2
  | .fastFwd => b1 3
  | .rewind => b1 4
/-- A thermal state. -/
def thermalBytes : ThermalState → List Byte
  | .unread => b1 0
  | .normal => b1 1
  | .warm => b1 2
  | .hot => b1 3
  | .trip => b1 4
/-- A key outcome (R174). -/
def keyOutcomeBytes : KeyOutcome → List Byte
  | .taken => b1 0
  | .nothing => b1 1
  | .locked => b1 2
  | .refused => b1 3
  | .dropped => b1 4
  | .cleared => b1 5

/-! ## Reports (R202) -/

/-- The presence bits of a detail record, first field lowest. -/
def detailPresence (d : Detail) : Nat :=
  let bits := [d.slot.isSome, d.slideInGate, d.cue.isSome, d.skipped.isSome, d.arrival.isSome, d.expected.isSome,
    d.position.isSome, d.lamp.isSome, d.temperature.isSome]
  bits.foldr (fun b n => 2 * n + (if b then 1 else 0)) 0

/-- The present fields of a detail record, in order. -/
def detailBytes (d : Detail) : List Byte :=
  opt 0 slotBytes d.slot ++ (if d.slideInGate then b1 0 else []) ++ opt 0 put2 d.cue ++ opt 0 b1 d.skipped ++
    opt 0 (fun a => b1 (arrivalKind a)) d.arrival ++ opt 0 b1 d.expected ++ opt 0 positionBytes d.position ++
    opt 0 lampBytes d.lamp ++ opt 0 temperatureBytes d.temperature

/-- A motion entry's kind, count or slot, source and tag. -/
def entryBytes (m : Move) (source : Source) (tag : Option Nat) : List Byte :=
  moveBytes m ++ sourceBytes source ++ tagBytes tag

/-- A reason of SHOW_STATE (R128): the stop reason on entry to STOPPED, the code on entry to HELD, and otherwise the class
of what made the change (log 47), not which request or key it was (log 41). -/
def showReasonBytes : ShowReason → List Byte
  | .stop r => stopReasonBytes r
  | .fault c => codeBytes c
  | .request => b1 0
  | .key => b1 1
  | .action => b1 2
  | .timer => b1 3
  | .notice => b1 4

/-- The fields of an event, in the order its rule lists them. R15 lists the kind of a completed entry without its
count or slot, R43 a cancelled one's with it (log 40). -/
def eventBytes : Event → List Byte
  | .changeDone m source tag p load =>
    b1 (moveKind m) ++ sourceBytes source ++ tagBytes tag ++ positionBytes p ++ gateLoadBytes load
  | .motionCancelled m reason p =>
    entryBytes m.move m.source m.tag ++
      b1 (match reason with
        | .halt => 0 | .showStop => 1 | .jammed => 2 | .refused => 3 | .returned => 4 | .standby => 5) ++
      firstIf m.active ++ opt 1 positionBytes p
  | .fadeDone done origin tag target level steps =>
    firstIf done ++ fadeOriginBytes origin ++ tagBytes tag ++ put2 target ++ put2 level ++ put2 steps
  | .cueTaken a index pointer relation pending =>
    arrivalBytes a ++ opt 1 b1 index ++ b1 pointer ++
      opt 1 (fun r => b1 (match r with | Relation.inOrder => 0 | .skip => 1 | .backward => 2)) relation ++
      firstIf pending
  | .showState new old reason => showStateBytes new ++ showStateBytes old ++ showReasonBytes reason
  | .tapeState new old cause counter =>
    transportBytes new ++ transportBytes old ++
      b1 (match cause with
        | .theShow => 0 | .link => 1 | .power => 2 | .tapeBegin => 3 | .tapeEnd => 4 | .stall => 5) ++
      put2 counter
  | .lampState l new old cause =>
    lampBytes l ++ lampStateBytes new ++ lampStateBytes old ++
      b1 (match cause with | .strike => 0 | .burnout => 1 | .lampOff => 2 | .forcedOff => 3 | .record => 4)
  | .cooldownDone n t => put2 n ++ readingBytes t
  | .keySeen source channel code f outcome =>
    b1 (match source with | .handset => 0 | .panel => 1) ++ opt 1 b1 channel ++ b1 code ++ b1 (functionNumber f) ++
      keyOutcomeBytes outcome

/-- The kind of a report. -/
def reportKind : ReportBody → Nat
  | .fault .. => 0x60
  | .event e => 0x61 + e.cls.index.val

/-- The payload of a report. -/
def reportPayload (r : Report) (lost : Bool) : List Byte :=
  b1 ((if lost then 1 else 0) + (if r.first then 2 else 0)) ++ b1 r.raisings ++ put2 r.seconds ++
    match r.body with
    | .fault c sv d => codeBytes c ++ severityBytes sv ++ put2 (detailPresence d) ++ detailBytes d
    | .event e => eventBytes e

/-! ## Replies (R201) -/

/-- A result code. -/
def Result.code : Result → Nat
  | .ok => 0
  | .badCheck => 1
  | .badLength => 2
  | .unknownKind => 3
  | .badValue => 4
  | .wrongState => 5
  | .queueFull => 6
  | .tableFull => 7
  | .badCurve => 8
  | .overrun => 9

/-- A fade record (R45, R66). -/
def fadeBytes (r : FadeRecord) : List Byte :=
  put2 r.start ++ put2 r.target ++ put2 r.total ++ put2 r.index ++ curveBytes r.curve ++ fadeOriginBytes r.origin ++
    tagBytes r.tag

/-- A lamp record with its due threshold (R71, R88). -/
def lampRecordBytes (r : LampRecord) : List Byte :=
  lampStateBytes r.state ++ put4 r.wear ++ put2 r.life ++ put2 r.strikes ++ b1 r.failures ++ firstIf r.due ++
    put4 (r.life * 14400)

/-- An obstacle. -/
def obstacleBytes (o : Obstacle) : List Byte :=
  b1 (match o with
    | .trayJammed => 0 | .positionUnknown => 1 | .lampsFailed => 2 | .turretBetween => 3 | .tapeStall => 4)

/-- A part's state. -/
def partBytes (p : PartState) : List Byte := b1 (match p with | .outstanding => 0 | .done => 1 | .failed => 2)

/-- A slot check. -/
def checkBytes (c : SlotCheck) : List Byte := put2 c.cue ++ b1 c.expected

/-- An item of the issued-move list. -/
def issuedBytes (i : Issued) : List Byte :=
  b1 (match i.purpose with
    | .start => 0 | .loopReturn => 1 | .excursionReturn => 2 | .change => 3 | .cutChange => 4 | .step => 5
    | .resync => 6) ++ opt 3 checkBytes i.check

/-- The CUT record. -/
def cutBytes (k : Cut) : List Byte :=
  b1 (match k.phase with | .fadingOut => 0 | .changing => 1 | .fadingIn => 2) ++ tagBytes k.tag ++ put2 k.restore ++
    put2 k.inMs ++ moveBytes k.move

/-- The show record (R127, R151). -/
def showBytes (c : Shc) (count : Nat) (obstacles : List Obstacle) : List Byte :=
  showStateBytes c.state ++ opt 1 stopReasonBytes c.stopReason ++ opt 1 slotBytes c.startSlot ++ b1 c.loops ++
    b1 c.loopsDone ++ b1 c.pointer ++ b1 count ++ opt 1 partBytes c.parts.rewind ++ opt 1 partBytes c.parts.goto ++
    opt 1 partBytes c.parts.strike ++ opt 1 partBytes c.parts.fade ++ opt 9 cutBytes c.cut ++
    listOf arrivalBytes c.cues ++ listOf issuedBytes c.issued ++ opt 2 put2 c.hold ++
    opt 3 (fun h => firstIf h.hold ++ codeBytes h.cause ++ showStateBytes h.resume) c.held ++
    listOf obstacleBytes obstacles ++
    (match c.register with
      | .empty => b1 0 ++ absent 1
      | .known p => b1 1 ++ slotBytes p
      | .unknown => b1 2 ++ absent 1) ++ firstIf c.returning

/-- An action of a cue entry: its kind number and fields (R123, R203). -/
def actionBytes : CueAction → List Byte
  | .change m => b1 0 ++ moveBytes m
  | .fade t d c => b1 1 ++ put2 t ++ put2 d ++ curveBytes c
  | .cut o i m => b1 2 ++ put2 o ++ put2 i ++ moveBytes m
  | .audio v r => b1 3 ++ b1 v ++ put2 r
  | .pause h => b1 4 ++ put2 h

/-- The TAC's snapshot (R161). A pending order is numbered in the list of R153: PLAY, FAST_FWD, REWIND. -/
def tacBytes (t : Tac) : List Byte :=
  transportBytes t.state ++ opt 1 directionBytes t.brake ++
    opt 2 (fun o => b1 (match o.order with | MoveOrder.play => 0 | .fastFwd => 1 | .rewind => 2) ++
      b1 (match o.issuer with | TapeIssuer.theShow => 0 | .link => 1)) t.order ++
    firstIf t.beginFlag ++ firstIf t.endFlag ++ put2 t.counter ++ firstIf t.stall ++ b1 t.volume ++ b1 t.applied ++
    opt 3 (fun r => b1 r.target ++ put2 r.interval) t.ramp

/-- The decoder's snapshot (R120). -/
def cdecBytes (c : Cdec) (sensitivity : Nat) : List Byte :=
  firstIf c.gateOpen ++ firstIf c.f1 ++ firstIf c.f2 ++
    (match c.tracker with
      | .settling => b1 0 ++ absent 2
      | .idle => b1 1 ++ absent 2
      | .inBurst span gap => b1 2 ++ b1 span ++ b1 gap
      | .ignoring gap => b1 3 ++ absent 1 ++ b1 gap) ++
    b1 c.quiet ++
    (match c.word with
      | .waiting => b1 0 ++ absent 2
      | .starting run => b1 1 ++ b1 run ++ absent 1
      | .assembling cell block _ _ => b1 2 ++ b1 cell ++ b1 block) ++
    put2 c.noise ++ put2 c.collisions ++ put2 c.malformed ++ put2 c.frameErrors ++ put2 c.good ++
    opt 3 arrivalBytes c.lastArrival ++
    opt 2 (fun e => match e with
      | WordError.ambiguous n => b1 0 ++ b1 n
      | .parity => b1 1 ++ absent 1
      | .stop => b1 2 ++ absent 1) c.lastError ++ b1 sensitivity

/-- A condition of R97 that bars strikes. -/
inductive Bar where
  | trip | latch | stalled
  deriving DecidableEq, Repr

/-- The conditions of R97 that hold, in its order. -/
def Thu.barring (u : Thu) : List Bar :=
  (if u.state = .trip then [.trip] else []) ++ (if u.latch then [.latch] else []) ++
    (if u.monitor = .stalled then [.stalled] else [])

/-- A condition of R97. -/
def barBytes (b : Bar) : List Byte := b1 (match b with | .trip => 0 | .latch => 1 | .stalled => 2)

/-- The Thermal Unit's snapshot (R105); the conditions that bar strikes are a list (logs 6, 41). -/
def thuBytes (u : Thu) : List Byte :=
  readingBytes u.reading ++ firstIf u.seeing ++ b1 u.miss ++ b1 u.good ++ firstIf u.window ++ thermalBytes u.state ++
    firstIf u.latch ++ firstIf u.bars ++ listOf barBytes u.barring ++
    put2 u.target ++ put2 u.effective ++ opt 1 (fun t => b1 (demand t)) u.reading ++ b1 u.fan ++
    b1 (match u.monitor with | .idle => 0 | .watching => 1 | .stalled => 2) ++
    (match u.cooldown with
      | none => b1 0 ++ absent 2
      | some n => b1 1 ++ put2 n)

/-- The LTC's snapshot (R88). Two codings that R88 leaves open: the origins stand in the order in which they joined (log
6), and strike to follow is 0 where it is set and 1 where it is clear (log 41). -/
def ltcBytes (t : Ltc) (ra rb : LampRecord) (senseA senseB : Bool) : List Byte :=
  (match t.position with
    | .facing l => lampBytes l
    | .moving => b1 2) ++ firstIf t.target.isSome ++ opt 1 lampBytes t.target ++
    b1 (match t.strike.phase with
      | .idle => 0 | .turning => 1 | .preheat => 2 | .check => 3 | .retryWait => 4) ++
    (if t.strike.phase = .idle then absent 3
      else lampBytes t.strike.lamp ++ firstIf t.strike.follow ++
        listOf (fun o => b1 (match o with
          | StrikeOrigin.link => 0 | .theShow => 1 | .remote => 2 | .changeover => 3)) t.strike.origins) ++
    lampRecordBytes ra ++ lampRecordBytes rb ++ b1 t.sub ++ firstIf senseA ++ firstIf senseB ++
    opt 1 (fun w => b1 (match w with | Watch.running => 0 | .suspended => 1 | .settling => 2)) t.watch

/-- The receiver's snapshot (R173). Its focus motor is OFF, NEAR or FAR alone, without the spent flag and the focus timer
of R167's item, which is the model's choice (log 41). -/
def rrxBytes (r : Rrx) (channel : Nat) (lock : LockLevel) : List Byte :=
  b1 (match r.state with | .idle => 0 | .frame => 1 | .held => 2) ++
    opt 3 (fun k => b1 (match k.source with | KeySource.handset => 0 | .panel => 1) ++ b1 k.code ++
      b1 (functionNumber k.function)) r.held ++
    b1 (match r.focus with | .off => 0 | .near => 1 | .far => 2) ++ listOf b1 r.digits ++ put2 r.bad ++
    put2 r.foreign ++ put2 r.dropped ++ put2 r.refused ++ b1 channel ++
    b1 (match lock with | .allOpen => 0 | .showLock => 1 | .locked => 2)

/-- A first-fault record (R186). Its detail record is coded as R202 codes that of a fault report, two presence bytes and
then the present fields, which is the model's choice (log 41). -/
def firstFaultBytes (f : FirstFault) : List Byte :=
  codeBytes f.code ++ severityBytes f.severity ++ put2 f.seconds ++ put2 (detailPresence f.detail) ++
    detailBytes f.detail

/-- A first-fault record that may be empty: one byte 0 then, which is no code (log 41). -/
def firstFaultField : Option FirstFault → List Byte
  | none => b1 0
  | some f => firstFaultBytes f

/-- The last-cause set's opener (R189). The identity of a CUE_WORD is led by a byte that says whether the word was
good, 0, or which check it failed, 1 to 3 in the order of R117, and a STRIKE's says last whether a burn-out opened it,
0 where it did and 1 where not (log 41). -/
def openerBytes : Option Opener → List Byte
  | none => absent 1
  | some (.changeCycle m source tag) => b1 0 ++ entryBytes m source tag
  | some (.strike l burnout) => b1 1 ++ lampBytes l ++ firstIf burnout
  | some (.cueWord (.good n)) => b1 2 ++ b1 0 ++ put2 n
  | some (.cueWord (.failed (.ambiguous n))) => b1 2 ++ b1 1 ++ b1 n
  | some (.cueWord (.failed .parity)) => b1 2 ++ b1 2
  | some (.cueWord (.failed .stop)) => b1 2 ++ b1 3

/-- The Fault Unit's snapshot (R196). A member of the pending set is named by its code, 1 to 30, or by 31 to 39 for
the nine event classes in their order (log 41). -/
def fltBytes (f : Flt) : List Byte :=
  put2 f.seconds ++ firstFaultField f.first ++ listOf codeBytes f.later ++ b1 f.laterCount ++
    listOf codeBytes f.sticky ++ openerBytes f.opener ++ listOf codeBytes f.causes ++ secondIf f.switchOn ++
    listOf (fun w => b1 (w.body.key + 1) ++ b1 w.raisings) f.waiting ++ f.faultOn.toList.flatMap secondIf ++
    f.eventOn.toList.flatMap secondIf

/-- The tray's snapshot (R28). -/
def trayBytes (t : Tgc) (p : Position) (map : Vector Occupancy 91) : List Byte :=
  firstIf t.present ++ positionBytes p ++ phaseBytes t.phase ++ gateLoadBytes t.gateLoad ++ firstIf t.shutter ++
    firstIf t.blank ++ opt 5 (fun c => entryBytes c.move c.source c.tag) t.cycle ++
    opt 1 (fun c => b1 c.attempt) t.cycle ++ opt 1 (fun c => b1 c.emptyDrops) t.cycle ++
    map.toList.flatMap fun o => b1 (match o with | .unseen => 0 | .occupied => 1 | .empty => 2)

/-- The power state. -/
def powerModeBytes : PowerMode → List Byte
  | .active => b1 0
  | .windingDown => b1 1
  | .standby => b1 2

/-- The status snapshot (R211). -/
def statusBytes (s : StatusSnapshot) : List Byte :=
  powerModeBytes s.mode ++ opt 1 (fun w => b1 (match w with | WindStep.fading => 0 | .cooling => 1)) s.step ++
    b1 (match s.startKind with | .cold => 0 | .warm => 1 | .soft => 2 | .wake => 3 | .wakeCold => 4) ++
    b1 (match s.outcome with | .valid => 0 | .invalid => 1) ++ showStateBytes s.showState ++ phaseBytes s.phase ++
    lampStateBytes s.lampA ++ lampStateBytes s.lampB ++ firstIf s.seeing ++ secondIf s.switchOn ++ b1 s.framesHeld ++
    b1 s.reportsQueued ++ firstIf s.lost ++ put2 s.framing ++ put2 s.gaps ++ put2 s.badChecks ++ put2 s.overruns ++
    put2 s.lostReports

/-- The number of a KEY reply's outcome, in the list of R181; that list has no LOCKED, which no panel press is
(R174, log 41). -/
def panelNumber : PanelOutcome → Nat
  | .press .taken => 0
  | .press .nothing => 1
  | .press .refused | .press .locked => 2
  | .press .dropped => 3
  | .press .cleared => 4
  | .held => 5
  | .notHeld => 6

/-- The fields of an answer, in the order its rule lists them; DELETE_CUE's outcome is 0 for ABSENT, the one R125 names, and
1 for an entry removed (log 41). -/
def answerBytes : Answer → List Byte
  | .nothing => []
  | .param v => put2 v
  | .moved merged n => secondIf merged ++ b1 n
  | .halted n o => b1 n ++ b1 (match o with | .nothing => 0 | .taken => 1 | .notTaken => 2)
  | .blanked set => firstIf set
  | .tray t p m => trayBytes t p m
  | .fadeStarted start total => put2 start ++ put2 total
  | .light f lit =>
    put2 f.level ++ opt 12 fadeBytes f.fade ++ put2 f.ceiling ++ put2 f.applied ++ put2 f.drive ++ firstIf lit ++
      firstIf f.dark ++ firstIf f.pendingUser.isSome
  | .curve p => p.toList.flatMap put2
  | .pendingCurve p => opt 34 (fun v => v.toList.flatMap put2) p
  | .response t w => t.toList.flatMap put2 ++ opt 22 (fun v => v.toList.flatMap put2) w
  | .strike o =>
    b1 (match o with | .started => 0 | .inProgress => 1 | .alreadyLit => 2 | .refused => 3 | .noLamp => 4)
  | .lampOff o => b1 (match o with | .turnedOff => 0 | .aborted => 1 | .nothing => 2)
  | .lamps t ra rb sa sb => ltcBytes t ra rb sa sb
  | .temperature t st seeing e => temperatureBytes t ++ thermalBytes st ++ firstIf seeing ++ put2 e
  | .thermal u => thuBytes u
  | .cueLoaded i n replaced => b1 i ++ b1 n ++ secondIf replaced
  | .cueDeleted n absent => b1 n ++ firstIf absent
  | .cuesCleared n => b1 n
  | .cue e i n =>
    put2 e.number ++ listOf actionBytes e.actions ++ opt 1 b1 e.expected ++ b1 i ++ b1 n
  | .obstacles l => listOf obstacleBytes l
  | .showRecord c n l => showBytes c n l
  | .tape o t =>
    b1 (match o with | .taken => 0 | .pending => 1 | .noChange => 2 | .atEnd => 3 | .atStart => 4) ++ tacBytes t
  | .volume t => tacBytes t
  | .cueStats c k => cdecBytes c k
  | .key o => b1 (panelNumber o)
  | .keymap l r c k => listOf (fun f => b1 (functionNumber f)) l ++ rrxBytes r c k
  | .faults f => fltBytes f
  | .cleared first later n sticky =>
    firstFaultField first ++ listOf codeBytes later ++ b1 n ++ listOf codeBytes sticky
  | .enables f e => f.toList.flatMap secondIf ++ e.toList.flatMap secondIf
  | .released n => b1 n
  | .woken o => b1 (match o with | .valid => 0 | .invalid => 1)
  | .status s => statusBytes s

/-! ## Frames (section 11.1) -/

/-- A frame of a kind and payload, with its check. -/
def frameBytes (kind : Nat) (payload : List Byte) : List Byte :=
  let sum := payload.foldl (fun n b => n + b.toNat) (payload.length + kind)
  put1 0xC3 :: put1 payload.length :: put1 kind :: (payload ++ [put1 (65536 - sum)])

/-- How many parts a reply is cut into: at most 46 bytes of fields each, and at least one part (R201). -/
def replyParts (r : Reply) : Nat := max 1 (((answerBytes r.response.answer).length + 45) / 46)

/-- The result byte of a reply. -/
def resultByte (r : Response) : Nat :=
  r.result.code + (if r.clamped then 0x40 else 0) + (if r.deferred then 0x80 else 0)

/-- The frame of part `part`, from 0, of a reply. -/
def replyFrame (r : Reply) (part : Nat) : List Byte :=
  frameBytes r.kind.toNat
    (b1 (resultByte r.response) ++ b1 (16 * (part + 1) + replyParts r) ++
      ((answerBytes r.response.answer).drop (46 * part)).take 46)

/-- The frame on the line, when the transmitter sends one. -/
def Link.sending (l : Link) : Option (List Byte) :=
  match l.tx with
  | .idle => none
  | .reply part => l.path.head?.map fun r => replyFrame r part
  | .report r lost => some (frameBytes (reportKind r.body) (reportPayload r lost))

end Sys2Proof.Machine
end

