-- ==== Sys2Proof/Machine/LampOps.lean ====
section
/-! DEFINITION. The Lamp Turret Controller's operations: turret moves, the strike sequence, changeovers, lamp-off and
burn-out (04_lamp_turret_and_lamp_records.md). -/

namespace Sys2Proof.Machine

/-! ## Changes of a lamp's state (R72) -/

/-- Sets a lamp's state, and the Fade Engine runs its stages (R59). -/
def setLampState (l : Lamp) (new : LampState) (s : State) : State :=
  runStages (s.updLamp l fun r => { r with state := new })

/-- LAMP_STATE and the Thermal Unit's notice of a change (R72). -/
def tellLamp (l : Lamp) (new old : LampState) (cause : LampCause) (s : State) : State :=
  tellThermal old new (raiseEvent (.lampState l new old cause) s)

/-- A change of a lamp's state with its notices; a lamp that becomes LIT is told to the Show Controller by its own
operation (R72). -/
def changeLamp (l : Lamp) (new : LampState) (cause : LampCause) (s : State) : State :=
  tellLamp l new (s.lampRecord l).state cause (setLampState l new s)

/-! ## The strike sequence (section 4.3) -/

/-- The sequence at rest, its last lamp kept. -/
def idleStrike (k : Strike) : Strike :=
  { phase := .idle, lamp := k.lamp, origins := [], follow := false, retried := false }

/-- The strike sequence enters IDLE; its origins have their outcome. -/
def endStrike (s : State) : State := s.updLtc fun t => { t with strike := idleStrike t.strike }

/-- PREHEAT for the sequence's lamp (R75): STRIKING, and KEEPWARM_DRIVE on the output. `follow`, which section 4.3
gives to TURNING alone, is clear from here on (log 42). -/
def startPreheat (s : State) : State :=
  let l := s.ltc.strike.lamp
  let s := s.updLtc fun t => { t with strike := { t.strike with phase := .preheat, follow := false } }
  if (s.lampRecord l).state = .striking then syncDimmer s else changeLamp l .striking .strike s

/-- A turret move has succeeded: the strike follows, or the sequence ends (R70, R76, R78). -/
def turretArrived (l : Lamp) (s : State) : State :=
  let s := s.updLtc fun t => { t with position := .facing l, target := none }
  if s.ltc.strike.follow then startPreheat s else endStrike s

/-- The level of a turret position sensor. -/
def Pins.turret (p : Pins) : Lamp → Bool
  | .a => p.turretA
  | .b => p.turretB

/-- The level of a current sense. -/
def Pins.sense (p : Pins) : Lamp → Bool
  | .a => p.senseA
  | .b => p.senseB

/-- A turret move for the sequence (R70): at once when the target's sensor is already active. -/
def turnTurret (l : Lamp) (follow : Bool) (s : State) : State :=
  let s := s.updLtc fun t => { t with strike := { t.strike with phase := .turning, lamp := l, follow := follow } }
  if s.pins.turret l then turretArrived l s
  else s.updLtc fun t => { t with position := .moving, target := some l }

/-- The projecting lamp of a selection: A when the turret stands between positions (R74). -/
def TurretPosition.projecting : TurretPosition → Lamp
  | .facing l => l
  | .moving => .a

/-- The lamp a new sequence strikes (the table of R74). -/
def State.selectLamp (s : State) : Lamp :=
  let p := s.ltc.position.projecting
  let rp := s.lampRecord p
  let ro := s.lampRecord (otherLamp p)
  if rp.state = .failed then (otherLamp p)
  else if rp.due = true ∧ ro.state = .ready ∧ ro.due = false then (otherLamp p)
  else p

/-- Adds an origin to those that wait, once. -/
def joinOrigin (o : StrikeOrigin) (s : State) : State :=
  s.updLtc fun t =>
    { t with strike := { t.strike with
        origins := if o ∈ t.strike.origins then t.strike.origins else t.strike.origins ++ [o] } }

/-- A strike sequence begins (R73, R74): the last-cause set, the lamp, PREHEAT or the turret. -/
def beginStrike (o : StrikeOrigin) (s : State) : State :=
  let l := s.selectLamp
  let s := openCauses (.strike l false) s
  let s := s.updLtc fun t =>
    { t with strike := { phase := .idle, lamp := l, origins := [o], follow := false, retried := false } }
  if s.ltc.position = .facing l then startPreheat s else turnTurret l true s

/-- A strike request (the cases of R73). -/
def requestStrike (o : StrikeOrigin) (s : State) : State × StrikeOutcome :=
  if s.power.mode = .windingDown then (s, .refused)
  else if s.litLamp.isSome then (s, .alreadyLit)
  else if s.ltc.strike.phase ≠ .idle ∧ (s.ltc.strike.follow ∨ s.strikingLamp.isSome) then
    (joinOrigin o s, .inProgress)
  else if s.ltc.strike.phase = .turning then
    if s.thu.bars then (s, .refused)
    else
      (joinOrigin o (s.updLtc fun t => { t with strike := { t.strike with follow := true } }), .inProgress)
  else if s.thu.bars then (s, .refused)
  else if s.retained.lampA.state = .failed ∧ s.retained.lampB.state = .failed then
    (raiseFault .noLamp .empty s, .noLamp)
  else (beginStrike o s, .started)

/-- A changeover from a FAILED lamp (R78; in WINDING_DOWN with no strike to follow, R90, log 23). -/
def changeover (failed : Lamp) (s : State) : State :=
  let o := otherLamp failed
  if (s.lampRecord o).state = .failed then endStrike (raiseFault .noLamp .empty s)
  else
    turnTurret o (!(s.thu.bars || s.power.mode == .windingDown)) (joinOrigin .changeover s)

/-- An attempt succeeds (R76). -/
def strikeSucceeds (s : State) : State :=
  let l := s.ltc.strike.lamp
  let retried := s.ltc.strike.retried
  let s := endStrike s
  let s := s.updLamp l fun r => { r with strikes := bump16 r.strikes, failures := 0 }
  let s := lampLit (changeLamp l .lit .strike s)
  if retried then raiseFault .strikeRetried (.ofLamp l) s else s

/-- An attempt fails (R77). -/
def strikeFails (s : State) : State :=
  let l := s.ltc.strike.lamp
  let n := (s.lampRecord l).failures + 1
  let s := s.updLamp l fun r => { r with failures := min n 3 }
  let s := s.updLtc fun t => { t with strike := { t.strike with retried := true } }
  if n < 3 then
    syncDimmer (s.updLtc fun t => { t with strike := { t.strike with phase := .retryWait } })
  else
    let old := (s.lampRecord l).state
    let s := s.updLtc fun t => { t with strike := { t.strike with phase := .idle } }
    let s := raiseFault .lampFailed (.ofLamp l) (setLampState l .failed s)
    changeover l (tellLamp l .failed old .strike s)

/-- Aborts the sequence (R79); its origins are told ABORTED. -/
def abortStrike (cause : LampCause) (s : State) : State :=
  match s.ltc.strike.phase with
  | .idle => s
  | .turning => s.updLtc fun t => { t with strike := { t.strike with follow := false, origins := [] } }
  | .preheat | .check | .retryWait =>
    let l := s.ltc.strike.lamp
    changeLamp l .ready cause (endStrike s)

/-- LAMP_OFF, or the Thermal Unit's forced lamp-off (R81). -/
def lampOff (cause : LampCause) (s : State) : State × OffOutcome :=
  match s.litLamp with
  | some l => (changeLamp l .ready cause s, .turnedOff)
  | none =>
    if s.ltc.strike.phase = .idle then (s, .nothing) else (abortStrike cause s, .aborted)

/-- A burn-out of the LIT lamp (R80): L3 in a last-cause set of its own, then a changeover (logs 19, 23). -/
def burnOut (l : Lamp) (s : State) : State :=
  let s := setLampState l .failed s
  let s := raiseFault .lampBurnout (.ofLamp l) (openCauses (.strike l true) s)
  let s := tellLamp l .failed .lit .burnout s
  let s := s.updLtc fun t =>
    { t with strike := { phase := .idle, lamp := l, origins := [.changeover], follow := false, retried := false } }
  changeover l s

/-- The LAMP key (R83). -/
def lampKey (s : State) : State :=
  if s.litLamp.isSome ∨ s.strikingLamp.isSome ∨ (s.ltc.strike.phase = .turning ∧ s.ltc.strike.follow) then
    (lampOff .lampOff s).1
  else (requestStrike .remote s).1

end Sys2Proof.Machine
end

