-- ==== Sys2Proof/Machine/TrayOps.lean ====
section
/-! DEFINITION. The Tray and Gate Controller's change cycle, jams and resets of the tray records
(01_slide_transport_and_the_change_cycle.md), with the Motion Queue's completions and flushes (sections 2.4, 2.5). -/

namespace Sys2Proof.Machine

/-- Change the cycle record by `f`, when there is one. -/
def updCycle (f : CycleRecord → CycleRecord) (s : State) : State :=
  s.updTgc fun t => { t with cycle := t.cycle.map f }

/-- Sets the position (R2). -/
def setPosition (p : Position) (s : State) : State := s.updRetained fun r => { r with position := p }

/-- Sets a slot's map entry; entry 0 is always EMPTY (R3). -/
def setMap (p : Slot) (o : Occupancy) (s : State) : State :=
  if p = 0 then s else s.updRetained fun r => { r with map := r.map.set p.val o p.isLt }

/-- The tray records of a tray that is not there: position UNKNOWN, map UNSEEN (R24, R26, R27). -/
def forgetTray (s : State) : State :=
  s.updRetained fun r => { r with position := .unknown, map := Retained.unseenMap }

/-! ## Completion, cancellation and jams (R15, R19, R37, R41) -/

/-- The ACTIVE entry's MOTION_CANCELLED, with the position (R43). -/
def activeCancelled (reason : CancelReason) (m : Motion) (s : State) : State :=
  raiseEvent (.motionCancelled m reason (some s.retained.position)) s

/-- Empties the queue, the ACTIVE entry first and then head to tail, each with MOTION_CANCELLED (R41, R44). -/
def flushQueue (reason : CancelReason) (s : State) : State :=
  let q := s.mq
  let s := s.updMq fun _ => []
  q.foldl (fun s m => if m.active then activeCancelled reason m s else waitingCancelled reason s m) s

/-- Motor and lift off, every timer of the cycle stopped, the record removed. -/
def Tgc.stopped (t : Tgc) : Tgc := { t with motor := none, lift := false, timer := none, cycle := none }

/-- Entry to JAMMED (R19, R41). The fault that causes it has been raised before it (log 8). -/
def enterJammed (s : State) : State :=
  let s := s.updTgc fun t => { t.stopped with phase := .jammed, gateLoad := .unknown }
  let q := s.mq
  q.foldl tellCancelled (flushQueue .jammed s)

/-- The end of the ACTIVE entry's cycle in READY (R15, R37): the record goes, the queue removes the head, CHANGE_DONE
or MOTION_CANCELLED is raised, and the Show Controller is told of its own entry. -/
def completeCycle (c : CycleRecord) (s : State) : State :=
  let s := s.updTgc fun t => { t.stopped with phase := .ready }
  let head := s.mq.head?
  let s := s.updMq fun q => q.drop 1
  let position := s.retained.position
  if c.cancel then
    match head with
    | none => s
    | some m => tellCancelled (activeCancelled c.cancelReason m s) m
  else
    let s := raiseEvent (.changeDone c.move c.source c.tag position s.tgc.gateLoad) s
    if c.source = Source.theShow then showMoveDone position s else s

/-! ## The phases (R8 to R22) -/

/-- CLOSING (R8). -/
def enterClosing (s : State) : State :=
  s.updTgc fun t => { t with phase := .closing, timer := some .settle }

/-- SEATING has succeeded (R15, R22). -/
def seatSucceeded (s : State) : State :=
  match s.tgc.cycle with
  | none => s
  | some c =>
    let s := if c.seatRetried then raiseFault .seatRetried (.atSlot s.slot) s else s
    if c.homeFirst ∧ c.cancel = false then
      enterClosing (updCycle (fun c =>
        { c with homeFirst := false, attempt := 1, seatRetried := false, emptyDrops := 0, pulses := 0 }) s)
    else completeCycle c s

/-- SEATING (R15). -/
def enterSeating (s : State) : State :=
  let s := s.updTgc fun t => { t with phase := .seating, timer := some .seat }
  if s.pins.gateSeated then seatSucceeded s else s

/-- A drop has found a slide (R14). -/
def dropFound (s : State) : State :=
  let s := s.updTgc fun t => { t with gateLoad := .slide }
  enterSeating (match s.slot with
    | some p => setMap p .occupied s
    | none => s)

/-- DROPPING (R14). At slot 0 the slide-present sensor is not consulted. -/
def enterDropping (s : State) : State :=
  let s := s.updTgc fun t => { t with phase := .dropping, lift := false, motor := none, timer := some .drop }
  if s.pins.slidePresent ∧ s.slot ≠ some 0 then dropFound s else s

/-- The way of a GOTO from slot `p` to slot `q` (R12): direction and step total. -/
def gotoWay (p q : Slot) : Direction × Nat :=
  let f := (q - p).val
  if f ≤ 45 then (.forward, f) else (.backward, 91 - f)

/-- INDEXING in a direction for a step total (R11). -/
def enterIndexing (d : Direction) (steps : Nat) (s : State) : State :=
  updCycle (fun c => { c with direction := some d, steps := steps })
    (s.updTgc fun t => { t with phase := .indexing, motor := some d, timer := some .step })

/-- HOMING (R21). -/
def enterHoming (s : State) : State :=
  let s := setPosition .unknown s
  let s := s.updTgc fun t => { t with phase := .homing }
  if s.pins.home then enterDropping (setPosition (.known 0) s)
  else updCycle (fun c => { c with pulses := 0 })
    (s.updTgc fun t => { t with motor := some .forward, timer := some .step })

/-- INDEXING as the entry asks (R9, R11, R12): a skip-empty repeat takes one step in the entry's direction; a GOTO to
the slot at the gate needs none. -/
def indexEntry (c : CycleRecord) (s : State) : State :=
  if c.skipping then enterIndexing (c.direction.getD .forward) 1 s
  else match c.move with
    | .advance n => enterIndexing .forward n s
    | .back n => enterIndexing .backward n s
    | .goto q =>
      match s.slot with
      | none => enterDropping s
      | some p => if p = q then enterDropping s else enterIndexing (gotoWay p q).1 (gotoWay p q).2 s
    | .home => enterHoming s

/-- A lift has succeeded: T1 after a retry, then the phase R9 decides on. -/
def liftSucceeded (s : State) : State :=
  match s.tgc.cycle with
  | none => s
  | some c =>
    let s := s.updTgc fun t => { t with timer := none }
    let s := if 2 ≤ c.attempt then raiseFault .liftRetried (.atSlot s.slot) s else s
    if c.seatRetried then enterDropping s
    else if c.move = .home ∨ c.homeFirst then enterHoming s
    else if c.cancel then enterDropping s
    else indexEntry c s

/-- The lift drive is turned on with its 600 ms timer (R9, R10); a sensor already active is success. -/
def startLift (s : State) : State :=
  let s := s.updTgc fun t => { t with phase := .lifting, lift := true, timer := some .lift }
  if s.pins.gateUp then liftSucceeded s else s

/-- LIFTING with lift attempt 1 (R9, R16, R17). -/
def enterLifting (s : State) : State := startLift (updCycle (fun c => { c with attempt := 1 }) s)

/-- Whether an EMPTY drop of a cycle is one that skip-empty repeats (R16, R17). -/
def CycleRecord.skips (skipEmpty : Bool) (c : CycleRecord) : Bool :=
  skipEmpty && !c.cancel && !c.seatRetried && (match c.move with
    | .advance _ | .back _ => true
    | .goto _ | .home => false)

/-- A drop has found no slide (R14): the records and T8, then skip-empty, T9 or SEATING (R17, R18). -/
def dropEmpty (c : CycleRecord) (s : State) : State :=
  let slot := s.slot
  let s := s.updTgc fun t => { t with gateLoad := .empty, timer := none }
  let s := match slot with
    | none => s
    | some p =>
      let was := s.retained.map[p]
      let s := setMap p .empty s
      if was = .occupied ∧ p ≠ 0 then raiseFault .slideMissing (.atSlot slot) s else s
  if c.skips s.retained.params.skipEmpty then
    let n := if slot = some 0 then c.emptyDrops else c.emptyDrops + 1
    let s := updCycle (fun c => { c with emptyDrops := n }) s
    if n < 90 then enterLifting (updCycle (fun c => { c with skipping := true }) s)
    else enterSeating (raiseFault .trayEmpty (.atSlot slot) s)
  else enterSeating s

/-- A slot one step on (R2). -/
def stepSlot (d : Direction) (p : Slot) : Slot :=
  match d with
  | .forward => p + 1
  | .backward => p - 1

/-- The position one step on; UNKNOWN stays UNKNOWN (R2). -/
def Position.step (d : Direction) : Position → Position
  | .known p => .known (stepSlot d p)
  | .unknown => .unknown

/-- An index pulse in INDEXING (R11, R23). -/
def pulseIndexing (c : CycleRecord) (s : State) : State :=
  let s := setPosition (s.retained.position.step (c.direction.getD .forward)) s
  let s := updCycle (fun c => { c with steps := c.steps - 1 }) s
  if c.cancel ∨ c.steps ≤ 1 then enterDropping s else s

/-- An index pulse in HOMING (R21). -/
def pulseHoming (c : CycleRecord) (s : State) : State :=
  if s.pins.home then enterDropping (setPosition (.known 0) s)
  else
    let s := updCycle (fun c => { c with pulses := c.pulses + 1 }) s
    if c.pulses + 1 < 92 then s
    else enterJammed (raiseFault .homeNotFound .empty (s.updTgc fun t => { t with motor := none }))

/-! ## Taking the head entry (R7) -/

/-- Whether the TGC refuses an entry in a phase (R7). -/
def moveRefused (m : Move) (phase : Phase) : Bool :=
  match m with
  | .advance _ | .back _ => phase == .jammed || phase == .unseated
  | .goto _ | .home => false

/-- Whether a HOME run goes before an entry's own cycle (R22). -/
def moveNeedsHome (m : Move) (phase : Phase) (position : Position) : Bool :=
  match m with
  | .goto _ => phase == .jammed || phase == .unseated || position == .unknown
  | .advance _ | .back _ | .home => false

/-- The cycle record of a taken entry (R7). -/
def CycleRecord.start (m : Motion) (homeFirst : Bool) : CycleRecord :=
  { move := m.move, source := m.source, tag := m.tag, direction := none, steps := 0, attempt := 1,
    seatRetried := false, emptyDrops := 0, cancel := false, cancelReason := .halt, homeFirst := homeFirst,
    skipping := false, pulses := 0 }

/-- Whether the phase lets the TGC take an entry (R7). -/
def Phase.takes : Phase → Bool
  | .ready | .jammed | .unseated => true
  | .closing | .lifting | .indexing | .dropping | .seating | .homing => false

/-- The TGC takes the head entry when it may (R7, R36, R41); otherwise nothing happens. -/
def takeHead (s : State) : State :=
  match s.mq with
  | [] => s
  | m :: rest =>
    if m.active = false ∧ s.tgc.present = true ∧ s.tgc.phase.takes = true then
      if moveRefused m.move s.tgc.phase then
        tellCancelled (waitingCancelled .refused (s.updMq fun _ => rest) m) m
      else
        let home := moveNeedsHome m.move s.tgc.phase s.retained.position
        let s := s.updMq fun _ => { m with active := true } :: rest
        let s := s.updTgc fun t => { t with cycle := some (CycleRecord.start m home) }
        let s := openCauses (.changeCycle m.move m.source m.tag) s
        entryActive m.source (enterClosing s)
    else s

end Sys2Proof.Machine
end

