-- ==== Sys2Proof/Machine/PowerOps.lean ====
section
/-! DEFINITION. The power-state logic: wind-down, entry to STANDBY, wake, power-on, soft reset, and the state each
block takes at them (sections 10.8, 11.7 and each chapter's reset section). -/

namespace Sys2Proof.Machine

/-! ## Reading the sensors at a start -/

/-- The turret position the sensors show (R69). -/
def Pins.turretPosition (p : Pins) : TurretPosition :=
  match p.turretA, p.turretB with
  | true, false => .facing .a
  | false, true => .facing .b
  | _, _ => .moving

/-- READY or UNSEATED by the gate-seated sensor (R26, R27). -/
def Pins.startPhase (p : Pins) : Phase := if p.gateSeated then .ready else .unseated

/-- Presence from the sensor; a tray that is not there is forgotten (R1, R26, R27). -/
def readPresence (s : State) : State :=
  let s := s.updTgc fun t => { t with present := s.pins.trayPresent }
  if s.pins.trayPresent then s else forgetTray s

/-- The home-sensor check of a KNOWN position (R27). -/
def checkHome (s : State) : State :=
  match s.slot with
  | none => s
  | some p => if (p = 0) = (s.pins.home = true) then s else setPosition .unknown s

/-- The TGC after a power-on or soft reset, but for presence (R26). -/
def tgcReset (s : State) : State :=
  s.updTgc fun t => { t.stopped with phase := s.pins.startPhase, gateLoad := .unknown, blank := false }

/-- The LTC's dynamic state after a reset or wake (R69, R89, R90). -/
def ltcRest (sub : Nat) (s : State) : State :=
  s.updLtc fun t =>
    { t with position := s.pins.turretPosition, target := none, strike := idleStrike t.strike, sub := sub,
             timer := true, watch := none }

/-- The direction in which the tape still runs: that of a moving state or of the brake period (R153, R154). -/
def Tac.coasting (t : Tac) : Option Direction :=
  match t.state.direction with
  | some d => some d
  | none => if t.state = .stopped then t.brake else none

/-- The TAC after a power-on or soft reset: STOPPED with a brake period, in the direction in which the tape runs, or
FORWARD when it was at rest (R166; log 38). -/
def tacReset (counter volume : Nat) (s : State) : State :=
  s.updTac fun t =>
    { state := .stopped, brake := some (t.coasting.getD .forward), order := none,
      beginFlag := s.pins.tapeBegin, endFlag := s.pins.tapeEnd, counter := counter, stall := false,
      stallBrake := false, volume := volume, applied := 0, ramp := none }

/-- A lamp that burned or was being struck is READY after a reset (R89). -/
def LampRecord.atReset (r : LampRecord) : LampRecord :=
  if r.state = .lit ∨ r.state = .striking then { r with state := .ready } else r

/-- Both lamps at a reset. -/
def lampsAtReset (s : State) : State :=
  s.updRetained fun r => { r with lampA := r.lampA.atReset, lampB := r.lampB.atReset }

/-- The THU as a start leaves it, with the trip latch and cool-down given (R106, R107). -/
def thuStart (latch : Bool) (cooldown : Option Nat) (s : State) : State :=
  syncFan (s.updThu fun _ => { Thu.start with latch := latch, cooldown := cooldown })

/-! ## Starts -/

/-- The dynamic state that every power-on and soft reset gives the blocks that differ in nothing by its kind
(R44, R68, R122, R152, R183, R197, R210). -/
def dynamicStart (s : State) : State :=
  let s := s.updLink fun _ => Link.start
  let s := s.updFlt fun _ => Flt.start
  let s := s.updMq fun _ => []
  let s := s.updFe fun _ => Fe.start
  let s := s.updCdec fun _ => Cdec.start
  let s := s.updShc fun _ => Shc.start
  s.updRrx fun _ => Rrx.start

/-- The record of a start (section 11.7): ACTIVE, with no wind-down step; the signature is erased. -/
def startRecord (kind : StartKind) (outcome : SignatureOutcome) (s : State) : State :=
  s.updPower fun p =>
    { p with powered := true, mode := .active, step := none, startKind := kind, outcome := outcome,
             signature := .absent }

/-- Whether the last start was a soft reset of this very second, with nothing received, sent or raised since. A reset
that comes then is that one: R210 makes one of a RESET's reply and the reset pin (log 14). -/
def State.justReset (s : State) : Bool :=
  s.power.startKind == .soft && decide (s.link = Link.start) && decide (s.flt = Flt.start)

/-- The signature outcome a soft reset records: a fresh free value, or what stands when the reset is the one just made
(R210; log 14). -/
def softRecord (again : Bool) (s : State) : State :=
  if again then startRecord .soft s.power.outcome s
  else startRecord .soft (Config.freeOutcome s.free) (s.updFree (· + 1))

/-- A soft reset (R210). -/
def softReset (s : State) : State :=
  let again := s.justReset
  let burning := s.litLamp.isSome || s.strikingLamp.isSome || s.thu.cooldown.isSome
  let turning := s.tgc.cycle.isSome && (s.tgc.phase == .indexing || s.tgc.phase == .homing)
  let s := if turning then setPosition .unknown s else s
  let s := tgcReset (readPresence s)
  let s := ltcRest 0 (lampsAtReset s)
  let s := tacReset s.tac.counter s.tac.volume (dynamicStart s)
  let s := thuStart s.thu.latch (if burning then some 0 else none) s
  runStages (softRecord again s)

/-- A cold power-on's state (R209). -/
def coldStart (s : State) : State :=
  let s := s.updRetained fun _ => Retained.cold
  let s := tgcReset (readPresence s)
  let s := ltcRest 0 s
  let s := tacReset 0 48 (dynamicStart s)
  runStages (thuStart false none s)

/-- A warm power-on's state (R209): the wake work, then the dynamic state. -/
def warmStart (s : State) : State :=
  let s := tgcReset (checkHome (readPresence s))
  let s := ltcRest 0 (lampsAtReset s)
  let s := tacReset 0 48 (dynamicStart s)
  runStages (thuStart false none s)

/-- A power-on (R209): warm when the signature agrees, cold otherwise. The transport was at rest without power. -/
def powerOn (s : State) : State :=
  if s.power.signature = .agrees then startRecord .warm .valid (warmStart s)
  else startRecord .cold .invalid (coldStart s)

/-! ## Loss of supplies (section 11.7; logs 15, 16) -/

/-- The part without main power: nothing runs, and the dynamic records stand at their power-on values. -/
def unpower (s : State) : State :=
  let s := s.updPower fun p => { p with powered := false }
  let s := lampsAtReset (dynamicStart s)
  let s := s.updFlt fun f => { f with timer := false }
  let s := s.updTgc fun t => { t.stopped with shutter := false }
  let s := s.updFe fun f => { f with timer := false }
  let s := s.updLtc fun t =>
    { t with target := none, strike := idleStrike t.strike, timer := false, watch := none }
  let s := s.updThu fun _ => { Thu.start with timers := false }
  let s := s.updCdec fun c => { c with timer := false }
  s.updTac fun t =>
    { t with state := .stopped, brake := none, order := none, stallBrake := false, applied := 0, ramp := none }

/-- The backup supply has lost the retained section: a written signature no longer agrees, and the contents are free
within the spec's ranges, the sequence pointer with them (R123, R208; log 15). -/
def loseRetained (s : State) : State :=
  let contents := Config.freeRetained s.free
  let s := s.updFree (· + 1)
  let s := s.updRetained fun _ => if contents.ok then contents else Retained.cold
  let s := s.updShc fun c => { c with pointer := min c.pointer s.retained.cues.length }
  s.updPower fun p => { p with signature := if p.signature = .agrees then .disagrees else p.signature }

/-! ## Entry to STANDBY (R207) -/

/-- What is timed once a hold has ended: a repeat's trailing mark, which R169 awaits only in HELD, no more. -/
def Measure.unheld : Measure → Measure
  | .repeatMark => .none
  | m => m

/-- The end of a hold: the release and auto-repeat timers, the focus motor, the held key; a frame then being decoded
goes on, and a repeat's trailing mark is a stray (R169, R172). -/
def endHold (s : State) : State :=
  s.updRrx fun r =>
    { r with held := none, repeatTimer := none, focus := .off, measure := r.measure.unheld,
             state := match r.state with
               | .frame => .frame
               | .idle | .held => .idle }

/-- The TGC's and the queue's part (R27, R44). -/
def standbyTray (s : State) : State :=
  let turning := s.tgc.cycle.isSome && (s.tgc.phase == .indexing || s.tgc.phase == .homing)
  let s := if turning then setPosition .unknown s else s
  let s := s.updTgc fun t => t.stopped
  let q := s.mq
  let s := q.foldl tellCancelled (flushQueue .standby s)
  s.updShc fun c => { c with issued := [] }

/-- The Fade Engine's part (R67). -/
def standbyLight (s : State) : State :=
  let s := match s.fe.pendingUser with
    | none => s
    | some u => s.updRetained fun r => { r with user := u }
  let s := installResponse s
  s.updFe fun f => { f with fade := none, pendingUser := none, level := 0, timer := false }

/-- Entry to STANDBY: every block's work, then the signature and the power state (R207; R90, R107, R122, R166, R183,
R197). -/
def enterStandby (s : State) : State :=
  let s := standbyLight (standbyTray s)
  let s := s.updLtc fun t =>
    { t with target := none, strike := idleStrike t.strike, timer := false, watch := none }
  let s := setFan 0 (s.updThu fun u => { u with timers := false })
  let s := s.updCdec fun c => { c with timer := false }
  let s := s.updTac fun t =>
    { t with brake := none, stallBrake := false, order := none, applied := 0, ramp := none }
  let s := (endHold s).updRrx fun r => { r with digits := [] }
  let s := s.updFlt fun f => { f with timer := false }
  s.updPower fun p => { p with mode := .standby, step := none, signature := .agrees }

/-! ## Wind-down (R205, R206) -/

/-- The end of the POWER fade (R206). -/
def powerFadeEnded (s : State) : State :=
  if s.power.mode = .windingDown ∧ s.power.step = some .fading then
    let s := (lampOff .lampOff s).1
    if s.thu.cooldown.isSome then s.updPower fun p => { p with step := some .cooling } else enterStandby s
  else s

/-- The end of a cool-down (R206). -/
def cooldownEnded (s : State) : State :=
  if s.power.mode = .windingDown ∧ s.power.step = some .cooling then enterStandby s else s

/-- The end-condition check of a cool-down, with the power-state logic's notice (R104). -/
def checkCooldown (s : State) : State :=
  let r := endCooldown s
  if r.2 then cooldownEnded r.1 else r.1

/-- A fade order from outside the show, with the power-state logic's notice of a POWER fade it replaces (R55, R206). -/
def takeFade (target duration : Nat) (curve : Curve) (origin : FadeOrigin) (s : State) : State :=
  let power := s.fe.fade.any fun r => r.origin == .power
  let s := orderFade target duration curve origin s
  if power then powerFadeEnded s else s

/-- The STANDBY request's effect in ACTIVE (R205). -/
def windDown (s : State) : State :=
  let s := if s.shc.state = .stopped then s else showStop .power s
  let s := takeFade 0 1000 .smooth .power (tapeStopOrder .power s)
  s.updPower fun p => { p with mode := .windingDown, step := some .fading }

/-! ## Wake (R208) -/

/-- The wake state of each block, with a VALID signature (R27, R67, R90, R107, R122, R152, R166, R183, R197). -/
def wakeBlocks (s : State) : State :=
  let s := checkHome (readPresence s)
  let s := s.updTgc fun t => { t.stopped with phase := s.pins.startPhase }
  let s := s.updFe fun f =>
    { f with fade := none, pendingUser := none, pendingResponse := none, level := 0, timer := true }
  let s := ltcRest s.ltc.sub s
  let s := thuStart s.thu.latch none s
  let s := s.updCdec fun c =>
    { c with gateOpen := false, tracker := .idle, quiet := 0, word := .waiting, timer := true }
  let s := s.updTac fun t =>
    { t with state := .stopped, brake := none, order := none, beginFlag := s.pins.tapeBegin,
             endFlag := s.pins.tapeEnd, stall := false, stallBrake := false, applied := 0, ramp := none }
  let s := s.updFlt fun f => { f with seconds := 0, timer := true }
  runStages s

/-- The Remote Receiver's wake state (R183). -/
def wakeRemote (s : State) : State :=
  s.updRrx fun r =>
    { r with state := .idle, measure := .none, held := none, repeatTimer := none, focus := .off, digits := [] }

/-- A wake from STANDBY (R208). With an INVALID signature every block but LINK and RRX starts cold. -/
def wakeUp (s : State) : State :=
  if s.power.signature = .agrees then startRecord .wake .valid (wakeRemote (wakeBlocks s))
  else
    let link := s.link
    let rrx := s.rrx
    let s := coldStart s
    let s := (s.updLink fun _ => link).updRrx fun _ => rrx
    startRecord .wakeCold .invalid (wakeRemote s)

end Sys2Proof.Machine
end

