-- ==== Sys2Proof/Machine/Requests.lean ====
section
/-! DEFINITION. How a request is answered: the checks of R200 that come after the frame's own, the owner's answer, and
the reply (log 4). -/

namespace Sys2Proof.Machine

/-- The requests that STANDBY answers (R200). -/
def standbyAllows : Instr → Bool
  | .wake | .getStatus | .reset => true
  | _ => false

/-- A request passed to its owner, or refused with BAD_LENGTH or, in STANDBY, with WRONG_STATE (R200). -/
def answerRequest (i : Instr) (act : State → State × Response) (s : State) : State × Response :=
  if lengthOk i = false then (s, refuse .badLength)
  else if s.power.mode = .standby ∧ standbyAllows i = false then (s, refuse .wrongState)
  else act s

/-- Places a reply in the reply path where it has room; the answer is kept in `link.answer` all the same (R201;
log 4). -/
def placeReply (kind : Byte) (r : Response) (s : State) : State :=
  s.updLink fun l =>
    { l with
      answer := some ⟨kind, r⟩
      path := if l.path.length < 2 then l.path ++ [⟨kind, r⟩] else l.path }

/-- A request given as a row: the owner acts and its answer becomes the reply. Once a RESET has been taken the link
takes no more (R210). -/
def hostRequest (i : Instr) (act : State → State × Response) (s : State) : State :=
  if s.link.resetTaken then s
  else
    let r := answerRequest i act s
    placeReply (requestKind i + 0x80) r.2 r.1

end Sys2Proof.Machine
end

