-- ==== Sys2Proof/Machine/CueTrack.lean ====
section
/-! DEFINITION. The commands of the Cue Decoder (chapter 6). -/

namespace Sys2Proof.Machine

/-! ## Requests -/

/-- GET_CUE_STATS (R120). -/
def reqGetCueStats (s : State) : State × Response :=
  (s, okWith (.cueStats s.cdec s.retained.params.cueSensitivity))

/-- GET_CUE_STATS. -/
def execGetCueStats (s : State) : Host.Outcome State Fault Refusal :=
  .next (whenLive (hostRequest .getCueStats reqGetCueStats) s)

/-- CLEAR_CUE_STATS (R121). -/
def reqClearCueStats (s : State) : State × Response :=
  (s.updCdec fun c =>
    { c with noise := 0, collisions := 0, malformed := 0, frameErrors := 0, good := 0, lastArrival := none,
             lastError := none },
    okWith .nothing)

/-- CLEAR_CUE_STATS. -/
def execClearCueStats (s : State) : Host.Outcome State Fault Refusal :=
  .next (whenLive (hostRequest .clearCueStats reqClearCueStats) s)

/-! ## Detectors (R110; log 27) -/

/-- The threshold of a sensitivity, in thousandths of full scale. -/
def threshold (sensitivity : Nat) : Nat := 360 - 40 * sensitivity

/-- Whether a tone lies within 3 percent of a frequency given in tenths of a hertz. -/
def withinThree (deciHertz centre : Nat) : Bool := decide (100 * stepsBetween deciHertz centre ≤ 3 * centre)

/-- A detector's decision for a block. -/
def detects (centre sensitivity : Nat) (tones : List Tone) : Bool :=
  tones.any fun t => withinThree t.deciHertz centre && decide (threshold sensitivity ≤ t.amplitude)

/-! ## Step-tone bursts (R112 to R114) -/

/-- What a block decides about a burst. -/
inductive BurstEnd where
  | noise | step | malformed | tapeEnd
  deriving DecidableEq, Repr, Inhabited

/-- The class of a burst that ends with a span below 240 (R113). -/
def classify (span : Nat) : BurstEnd := if span ≤ 11 then .noise else if span ≤ 80 then .step else .malformed

/-- The step tracker at a block (the table of R112). -/
def Tracker.next (on : Bool) (t : Tracker) : Tracker × Option BurstEnd :=
  match t with
  | .settling => (if on then .settling else .idle, none)
  | .idle => (if on then .inBurst 1 0 else .idle, none)
  | .inBurst span gap =>
    if on then
      if 240 ≤ span + gap + 1 then (.ignoring 0, some .tapeEnd) else (.inBurst (span + gap + 1) 0, none)
    else if gap + 1 < 3 then (.inBurst span (gap + 1), none)
    else (.idle, some (classify span))
  | .ignoring gap =>
    if on then (.ignoring 0, none) else if gap + 1 < 3 then (.ignoring (gap + 1), none) else (.idle, none)

/-! ## Cue words (R115 to R117) -/

/-- The value of a cell by its ON blocks (R116). -/
def cellValue (on : Nat) : Cell := if 3 ≤ on then .one else if on ≤ 1 then .zero else .ambiguous

/-- The number a list of cells spells, most significant first. -/
def cellsNumber (l : List Cell) : Nat := l.foldl (fun n c => 2 * n + (if c = .one then 1 else 0)) 0

/-- How many cells are 1. -/
def countOnes (l : List Cell) : Nat := l.countP (· == .one)

/-- The checks of a complete word of sixteen cells (R117). -/
def checkWord (cells : List Cell) : WordResult :=
  match cells.findIdx? (· == .ambiguous) with
  | some i => .failed (.ambiguous (i + 1))
  | none =>
    if countOnes ((cells.drop 1).take 13) % 2 = 1 then .failed .parity
    else if countOnes (cells.drop 14) ≠ 0 then .failed .stop
    else .good (cellsNumber ((cells.drop 1).take 12))

/-- The quiet count at a block (R115). -/
def nextQuiet (on : Bool) (q : Nat) : Nat := if on then 0 else min (q + 1) 20

/-- The word assembler at a block, with the quiet count before it (R115, R116; log 39). -/
def Assembly.next (on : Bool) (quiet : Nat) (w : Assembly) : Assembly × Option WordResult :=
  match w with
  | .waiting => (if on ∧ quiet = 20 then .starting 1 else .waiting, none)
  | .starting run =>
    if on then (if run = 1 then .starting 2 else .assembling 1 3 3 [], none) else (.waiting, none)
  | .assembling cell block count values =>
    let count := if on then count + 1 else count
    let last := if cell = 1 then 3 else 4
    if block < last then (.assembling cell (block + 1) count values, none)
    else
      let values := values ++ [cellValue count]
      if cell < 16 then (.assembling (cell + 1) 1 0 values, none)
      else (.waiting, some (checkWord values))

/-! ## A block (R110, R111, R118) -/

/-- The decoder at a block with the gate OPEN, after the collision rule: trackers, quiet count and collision
counter. -/
def Cdec.decode (c : Cdec) : Cdec × Option BurstEnd × Option WordResult :=
  let clash := c.f1 && c.f2
  let step := c.tracker.next (c.f1 && !clash)
  let word := c.word.next (c.f2 && !clash) c.quiet
  ({ c with
      collisions := if clash then bump16 c.collisions else c.collisions
      tracker := step.1, word := word.1, quiet := nextQuiet (c.f2 && !clash) c.quiet },
    step.2, word.2)

/-- Hands an arrival to the Show Controller (R118). -/
def handArrival (a : Arrival) (s : State) : State :=
  routeArrival a (s.updCdec fun c => { c with lastArrival := some a })

/-- The outcome of a burst (R113, R114). -/
def burstDecided (b : BurstEnd) (s : State) : State :=
  match b with
  | .noise => s.updCdec fun c => { c with noise := bump16 c.noise }
  | .step => handArrival .step s
  | .tapeEnd => handArrival .tapeEnd s
  | .malformed =>
    raiseFault .cueMalformed .empty (s.updCdec fun c => { c with malformed := bump16 c.malformed })

/-- The outcome of a word (R117). -/
def wordDecided (r : WordResult) (s : State) : State :=
  let s := openCauses (.cueWord r) s
  match r with
  | .good n => handArrival (.coded n) (s.updCdec fun c => { c with good := bump16 c.good })
  | .failed e =>
    raiseFault .cueFrameError .empty
      (s.updCdec fun c => { c with frameErrors := bump16 c.frameErrors, lastError := some e })

/-- A block (R110, R118): the decisions; with the gate OPEN, the burst's outcome and then the word's. So a C1, or a fault
of the burst's arrival, is raised before the word opens its last-cause set, of the two orders that R189 allows (log 8). -/
def blockDecoded (tones : List Tone) (s : State) : State :=
  let k := s.retained.params.cueSensitivity
  let s := s.updCdec fun c => { c with f1 := detects 18500 k tones, f2 := detects 26500 k tones }
  if s.cdec.gateOpen then
    let d := s.cdec.decode
    let s := s.updCdec fun _ => d.1
    let s := match d.2.1 with
      | some b => burstDecided b s
      | none => s
    match d.2.2 with
    | some r => wordDecided r s
    | none => s
  else s

/-- BLOCK_TIMER_EXPIRY: the block timer expires, with the tones of the block. -/
def execBlockTimerExpiry (tones : List Tone) (s : State) : Host.Outcome State Fault Refusal :=
  .next (whenRunning (fun s => if s.cdec.timer then blockDecoded tones s else s) s)

end Sys2Proof.Machine
end

