-- ==== Sys2Proof/Machine/Heat.lean ====
section
/-! DEFINITION. The commands of the Thermal Unit (chapter 5). -/

namespace Sys2Proof.Machine

/-- A reading clamped to -20..150 (R92). -/
def clampReading (t : Int) : Int := if t < -20 then -20 else if 150 < t then 150 else t

/-- Entry to TRIP, with the reading, state and latch already set: the ceilings, the forced lamp-off, H2, in the order
in which R96 numbers them (log 8). -/
def enterTrip (t : Int) (s : State) : State :=
  raiseFault .overheat (.ofTemperature (some t)) (lampOff .forcedOff (retarget s)).1

/-- The effect of a change of band (R95 to R98). -/
def bandChanged (old : ThermalState) (t : Int) (s : State) : State :=
  match s.thu.state with
  | .trip => if old = .trip then retarget s else enterTrip t s
  | .hot =>
    let s := retarget s
    match old with
    | .unread | .normal | .warm => raiseFault .hot (.ofTemperature (some t)) s
    | .hot | .trip => s
  | .unread | .normal | .warm => retarget s

/-- A reading is taken (R92): it replaces the last, sets the window flag, and the state, ceilings, fan and cool-down
follow. -/
def takeReading (t : Int) (s : State) : State :=
  let old := s.thu.state
  let s := s.updThu fun u =>
    { u with reading := some t, window := true, state := thermalBand t,
             latch := (u.latch && !decide (t ≤ 80)) || (thermalBand t == .trip && u.state != .trip) }
  checkCooldown (syncFan (bandChanged old t s))

/-- TEMPERATURE (R92). -/
def reqTemperature (value : Int) (s : State) : State × Response :=
  let t := clampReading value
  let s := takeReading t s
  (s, okClamped (decide (t ≠ value)) (.temperature t s.thu.state s.thu.seeing s.thu.effective))

/-- TEMPERATURE. -/
def execTemperature (value : Int) (s : State) : Host.Outcome State Fault Refusal :=
  .next (whenLive (hostRequest (.temperature value) (reqTemperature value)) s)

/-- GET_THERMAL (R105). -/
def reqGetThermal (s : State) : State × Response := (s, okWith (.thermal s.thu))

/-- GET_THERMAL. -/
def execGetThermal (s : State) : Host.Outcome State Fault Refusal :=
  .next (whenLive (hostRequest .getThermal reqGetThermal) s)

/-- The counts after a window end (R93). -/
def Thu.countWindow (u : Thu) : Thu :=
  if u.window then { u with window := false, miss := 0, good := min (u.good + 1) 2 }
  else { u with window := false, miss := min (u.miss + 1) 2, good := 0 }

/-- The report status after the counts of a window end (R94). -/
def Thu.statusAfter (u : Thu) : Bool := if u.seeing then decide (u.miss ≠ 2) else decide (u.good = 2)

/-- A window end (R93, R94). -/
def windowEnded (s : State) : State :=
  let missed := s.thu.miss
  let seeing := s.thu.seeing
  let s := s.updThu fun u => u.countWindow
  let s := s.updThu fun u => { u with seeing := u.statusAfter }
  let s := if missed ≠ 2 ∧ s.thu.miss = 2 then raiseFault .thermalBlind .empty s else s
  if s.thu.seeing = seeing then s else checkCooldown (syncFan (retarget s))

/-- WINDOW_END: the report-window timer expires. -/
def execWindowEnd (s : State) : Host.Outcome State Fault Refusal :=
  .next (whenRunning (fun s => if s.thu.timers then windowEnded s else s) s)

/-- The slew of the effective ceiling (R99). -/
def slew (s : State) : State :=
  if s.thu.effective < s.thu.target then
    runStages (s.updThu fun u => { u with effective := min (u.effective + 10) u.target })
  else s

/-- SLEW_EXPIRY: the slew timer expires. -/
def execSlewExpiry (s : State) : Host.Outcome State Fault Refusal :=
  .next (whenRunning (fun s => if s.thu.timers then slew s else s) s)

/-- TACHO_PULSE (R101): a stalled fan turns again; otherwise only the stall timer restarts. -/
def execTachoPulse (s : State) : Host.Outcome State Fault Refusal :=
  .next (whenRunning
    (fun s => s.updThu fun u => { u with monitor := if u.monitor = .stalled then .watching else u.monitor }) s)

/-- Entry to STALLED (R101, R102). -/
def fanStalled (s : State) : State :=
  let s := s.updThu fun u => { u with monitor := .stalled }
  (lampOff .forcedOff (raiseFault .fanStall (.ofTemperature s.thu.reading) s)).1

/-- FAN_STALL_TIMER_EXPIRY: the 1000 ms fan-stall timer expires. -/
def execFanStallTimerExpiry (s : State) : Host.Outcome State Fault Refusal :=
  .next (whenRunning (fun s => if s.thu.monitor = .watching then fanStalled s else s) s)

/-- A second of the cool-down (R104). -/
def cooldownSecond (s : State) : State :=
  match s.thu.cooldown with
  | none => s
  | some n => checkCooldown (s.updThu fun u => { u with cooldown := some (bump16 n) })

/-- COOLDOWN_SECOND_EXPIRY. -/
def execCooldownSecondExpiry (s : State) : Host.Outcome State Fault Refusal :=
  .next (whenRunning cooldownSecond s)

end Sys2Proof.Machine
end

