-- ==== Sys2Proof/Machine/Lamps.lean ====
section
/-! DEFINITION. The commands of the Lamp Turret Controller (chapter 4). -/

namespace Sys2Proof.Machine

/-! ## Requests -/

/-- LAMP_ON (R73, R82). -/
def reqLampOn (s : State) : State × Response :=
  let r := requestStrike .link s
  match r.2 with
  | .started | .inProgress | .alreadyLit => (r.1, okWith (.strike r.2))
  | .refused | .noLamp => (r.1, refuse .wrongState)

/-- LAMP_ON. -/
def execLampOn (s : State) : Host.Outcome State Fault Refusal :=
  .next (whenLive (hostRequest .lampOn reqLampOn) s)

/-- LAMP_OFF (R81). -/
def reqLampOff (s : State) : State × Response :=
  let r := lampOff .lampOff s
  (r.1, okWith (.lampOff r.2))

/-- LAMP_OFF. -/
def execLampOff (s : State) : Host.Outcome State Fault Refusal :=
  .next (whenLive (hostRequest .lampOff reqLampOff) s)

/-- The lamp a number names (R203). -/
def lampOperand : Nat → Option Lamp
  | 0 => some .a
  | 1 => some .b
  | _ => none

/-- SET_LAMP_RECORD's record (R84). -/
def newLamp (wear life : Nat) (old : LampState) : LampRecord :=
  { state := old, wear := wear, life := life, strikes := 0, failures := 0, due := false }

/-- SET_LAMP_RECORD (R84). -/
def reqSetLampRecord (lamp wear life : Nat) (s : State) : State × Response :=
  match lampOperand lamp with
  | none => (s, refuse .badValue)
  | some l =>
    if life < 10 ∨ 2000 < life ∨ 4294967295 < wear then (s, refuse .badValue)
    else
      match (s.lampRecord l).state with
      | .lit | .striking => (s, refuse .wrongState)
      | .ready => (s.updLamp l fun r => newLamp wear life r.state, okWith .nothing)
      | .failed =>
        (changeLamp l .ready .record (s.updLamp l fun r => newLamp wear life r.state), okWith .nothing)

/-- SET_LAMP_RECORD. -/
def execSetLampRecord (lamp wear life : Nat) (s : State) : Host.Outcome State Fault Refusal :=
  .next (whenLive (hostRequest (.setLampRecord lamp wear life) (reqSetLampRecord lamp wear life)) s)

/-- GET_LAMPS (R88). -/
def reqGetLamps (s : State) : State × Response :=
  (s, okWith (.lamps s.ltc s.retained.lampA s.retained.lampB s.pins.senseA s.pins.senseB))

/-- GET_LAMPS. -/
def execGetLamps (s : State) : Host.Outcome State Fault Refusal :=
  .next (whenLive (hostRequest .getLamps reqGetLamps) s)

/-! ## Turret and strike events -/

/-- A turret position sensor goes active (R69, R70): the end of a move to that lamp, or a turret found between
positions; otherwise ignored. -/
def turretActive (l : Lamp) (s : State) : State :=
  match s.ltc.target with
  | some t => if t = l then turretArrived l s else s
  | none => if s.ltc.position = .moving then s.updLtc fun t => { t with position := .facing l } else s

/-- TURRET_SENSOR: a turret position sensor goes to a level. -/
def execTurretSensor (lamp : Lamp) (active : Bool) (s : State) : Host.Outcome State Fault Refusal :=
  .next (whenRunning (fun s => if active then turretActive lamp s else s)
    (s.updPins fun p =>
      match lamp with
      | .a => { p with turretA := active }
      | .b => { p with turretB := active }))

/-- The turret timer expires: the motor stops, L6, the sequence ends (R70, R74). -/
def turretExpired (s : State) : State :=
  match s.ltc.target with
  | none => s
  | some l =>
    let s := s.updLtc fun t => { t with target := none }
    endStrike (raiseFault .turretStall (.ofLamp l) s)

/-- TURRET_TIMER_EXPIRY: the 1500 ms turret timer expires. -/
def execTurretTimerExpiry (s : State) : Host.Outcome State Fault Refusal := .next (whenRunning turretExpired s)

/-- CHECK begins; a current already flowing is success (R75). -/
def enterCheck (s : State) : State :=
  let s := s.updLtc fun t => { t with strike := { t.strike with phase := .check } }
  if s.pins.sense s.ltc.strike.lamp then strikeSucceeds s else s

/-- PREHEAT_EXPIRY: the 300 ms preheat timer expires (R75). -/
def execPreheatExpiry (s : State) : Host.Outcome State Fault Refusal :=
  .next (whenRunning (fun s => if s.ltc.strike.phase = .preheat then enterCheck s else s) s)

/-- CURRENT_SENSE_ACTIVE: a lamp's current sense goes active; in CHECK it ends the attempt (R75, R76). -/
def execCurrentSenseActive (lamp : Lamp) (s : State) : Host.Outcome State Fault Refusal :=
  .next (whenRunning
    (fun s => if s.ltc.strike.phase = .check ∧ s.ltc.strike.lamp = lamp then strikeSucceeds s else s)
    (s.updPins fun p =>
      match lamp with
      | .a => { p with senseA := true }
      | .b => { p with senseB := true }))

/-- CHECK_EXPIRY: the 100 ms check timer expires (R77). -/
def execCheckExpiry (s : State) : Host.Outcome State Fault Refusal :=
  .next (whenRunning (fun s => if s.ltc.strike.phase = .check then strikeFails s else s) s)

/-- RETRY_WAIT_EXPIRY: the 500 ms wait is over and PREHEAT begins again (R77). -/
def execRetryWaitExpiry (s : State) : Host.Outcome State Fault Refusal :=
  .next (whenRunning (fun s => if s.ltc.strike.phase = .retryWait then startPreheat s else s) s)

/-! ## The burning lamp -/

/-- The burn-out watch begins, 100 ms after the drive rose (R80). -/
def watchBegins (s : State) : State :=
  if s.ltc.watch = some .settling then
    match s.litLamp with
    | none => s
    | some l =>
      let s := s.updLtc fun t => { t with watch := some .running }
      if s.pins.sense l then s else burnOut l s
  else s

/-- BURNOUT_WATCH_START. -/
def execBurnoutWatchStart (s : State) : Host.Outcome State Fault Refusal := .next (whenRunning watchBegins s)

/-- A current lost while the watch of that lamp runs is a burn-out (R80). -/
def senseLost (l : Lamp) (s : State) : State :=
  if s.ltc.watch = some .running ∧ s.litLamp = some l then burnOut l s else s

/-- CURRENT_SENSE_LOST: a lamp's current sense goes inactive. -/
def execCurrentSenseLost (lamp : Lamp) (s : State) : Host.Outcome State Fault Refusal :=
  .next (whenRunning (senseLost lamp)
    (s.updPins fun p =>
      match lamp with
      | .a => { p with senseA := false }
      | .b => { p with senseB := false }))

/-- The wear of a second at an applied level (R86). -/
def wearAt (applied : Nat) : Nat :=
  if applied = 0 then 1 else if applied < 500 then 2 else if applied < 800 then 3 else 4

/-- A second boundary for the LIT lamp: wear, and the due flag with L5 (R86, R87). -/
def secondOfLight (l : Lamp) (s : State) : State :=
  let add := wearAt s.fe.applied
  let s := s.updLamp l fun r => { r with wear := min (r.wear + add) 4294967295 }
  let r := s.lampRecord l
  if r.due = false ∧ r.life * 14400 ≤ r.wear then
    raiseFault .lampDue (.ofLamp l) (s.updLamp l fun r => { r with due := true })
  else s

/-- The lit-time timer expires (R85). -/
def litTime (s : State) : State :=
  match s.litLamp with
  | none => s
  | some l =>
    if s.ltc.sub + 1 < 50 then s.updLtc fun t => { t with sub := t.sub + 1 }
    else secondOfLight l (s.updLtc fun t => { t with sub := 0 })

/-- LIT_TIME_EXPIRY. -/
def execLitTimeExpiry (s : State) : Host.Outcome State Fault Refusal :=
  .next (whenRunning (fun s => if s.ltc.timer then litTime s else s) s)

end Sys2Proof.Machine
end

