-- ==== Sys2Proof/Machine/Light.lean ====
section
/-! DEFINITION. The commands of the Fade Engine, and SET_PARAM and GET_PARAM (chapter 3; R204). -/

namespace Sys2Proof.Machine

/-! ## Parameters -/

/-- The parameters whose setting runs stages 4 to 6 at once (R59, R65). -/
def paramActsAtOnce (number : Nat) : Bool := number = 3 ∨ number = 4 ∨ number = 5 ∨ number = 6

/-- SET_PARAM (R204). -/
def reqSetParam (number value : Nat) (s : State) : State × Response :=
  match paramSet number value s.retained.params with
  | none => (s, refuse .badValue)
  | some p =>
    let s := s.updParams fun _ => p
    (if paramActsAtOnce number then runStages s else s, okWith (.param value))

/-- SET_PARAM. -/
def execSetParam (number value : Nat) (s : State) : Host.Outcome State Fault Refusal :=
  .next (whenLive (hostRequest (.setParam number value) (reqSetParam number value)) s)

/-- GET_PARAM (R204). -/
def reqGetParam (number : Nat) (s : State) : State × Response :=
  match paramGet number s.retained.params with
  | none => (s, refuse .badValue)
  | some v => (s, okWith (.param v))

/-- GET_PARAM. -/
def execGetParam (number : Nat) (s : State) : Host.Outcome State Fault Refusal :=
  .next (whenLive (hostRequest (.getParam number) (reqGetParam number)) s)

/-! ## Fades and tables -/

/-- FADE (R50). -/
def reqFade (target duration curve : Nat) (s : State) : State × Response :=
  match curveOperand curve with
  | none => (s, refuse .badValue)
  | some c =>
    let t := min target 1000
    let d := min duration 30000
    let start := s.fe.level
    (takeFade t d c .link s,
      okClamped (decide (1000 < target) || decide (30000 < duration)) (.fadeStarted start (d / 20)))

/-- FADE. -/
def execFade (target duration curve : Nat) (s : State) : Host.Outcome State Fault Refusal :=
  .next (whenLive (hostRequest (.fade target duration curve) (reqFade target duration curve)) s)

/-- Whether a fade with curve USER is in flight (R62). -/
def Fe.userFade (f : Fe) : Bool := f.fade.any fun r => r.curve == .user

/-- SET_CURVE (R62, R63). -/
def reqSetCurve (points : List Nat) (s : State) : State × Response :=
  match table17 points with
  | none => (s, refuse .badLength)
  | some t =>
    if userOk points then
      if s.fe.userFade then
        (s.updFe fun f => { f with pendingUser := some t }, { okWith .nothing with deferred := true })
      else (s.updRetained fun r => { r with user := t }, okWith .nothing)
    else (s, refuse .badCurve)

/-- SET_CURVE. -/
def execSetCurve (points : List Nat) (s : State) : Host.Outcome State Fault Refusal :=
  .next (whenLive (hostRequest (.setCurve points) (reqSetCurve points)) s)

/-- SET_RESPONSE (R64). -/
def reqSetResponse (points : List Nat) (s : State) : State × Response :=
  match table11 points with
  | none => (s, refuse .badLength)
  | some t =>
    if responseOk points then (s.updFe fun f => { f with pendingResponse := some t }, okWith .nothing)
    else (s, refuse .badValue)

/-- SET_RESPONSE. -/
def execSetResponse (points : List Nat) (s : State) : Host.Outcome State Fault Refusal :=
  .next (whenLive (hostRequest (.setResponse points) (reqSetResponse points)) s)

/-- GET_LIGHT (R66): LEVELS 0, USER 1, PENDING 2, SMOOTH 3, RESPONSE 4. -/
def reqGetLight (selector : Nat) (s : State) : State × Response :=
  match selector with
  | 0 => (s, okWith (.light s.fe s.litLamp.isSome))
  | 1 => (s, okWith (.curve s.retained.user))
  | 2 => (s, okWith (.pendingCurve s.fe.pendingUser))
  | 3 => (s, okWith (.curve smoothTable))
  | 4 => (s, okWith (.response s.retained.response s.fe.pendingResponse))
  | _ => (s, refuse .badValue)

/-- GET_LIGHT. -/
def execGetLight (selector : Nat) (s : State) : Host.Outcome State Fault Refusal :=
  .next (whenLive (hostRequest (.getLight selector) (reqGetLight selector)) s)

/-! ## The fade step (R46, R51) -/

/-- Who is told of a COMPLETED ending (R55). -/
def fadeCompleted (origin : FadeOrigin) (s : State) : State :=
  match origin with
  | .theShow => showFadeEnded s
  | .power => powerFadeEnded s
  | .remote | .link => s

/-- A fade step: the fade in flight advances, and perhaps ends; a waiting response table is installed; stages 4 to 6
run; an ending is told (R46, R51, R55, R64). -/
def fadeStepped (s : State) : State :=
  let origin := s.fe.fade.map (·.origin)
  let r := advanceFade s
  let s := runStages (installResponse (if r.2 then endFade true r.1 else r.1))
  match origin with
  | some o => if r.2 then fadeCompleted o s else s
  | none => s

/-- FADE_STEP: the fade step timer expires. -/
def execFadeStep (s : State) : Host.Outcome State Fault Refusal :=
  .next (whenRunning (fun s => if s.fe.timer then fadeStepped s else s) s)

end Sys2Proof.Machine
end

