-- ==== Sys2Proof/Machine/PowerCommands.lean ====
section
/-! DEFINITION. The commands of the power-state logic: STANDBY, WAKE, RESET, GET_STATUS, the supplies and the reset
pin (section 11.7). -/

namespace Sys2Proof.Machine

/-! ## Requests -/

/-- STANDBY (R205). -/
def reqStandby (s : State) : State × Response :=
  match s.power.mode with
  | .active => (windDown s, okWith .nothing)
  | .windingDown => (s, okWith .nothing)
  | .standby => (s, refuse .wrongState)

/-- STANDBY. -/
def execStandby (s : State) : Host.Outcome State Fault Refusal :=
  .next (whenLive (hostRequest .standby reqStandby) s)

/-- WAKE (R206, R208). -/
def reqWake (s : State) : State × Response :=
  match s.power.mode with
  | .active => (s, okWith .nothing)
  | .windingDown => (s.updPower fun p => { p with mode := .active, step := none }, okWith .nothing)
  | .standby =>
    let s := wakeUp s
    (s, okWith (.woken s.power.outcome))

/-- WAKE. -/
def execWake (s : State) : Host.Outcome State Fault Refusal := .next (whenLive (hostRequest .wake reqWake) s)

/-- RESET (R210): the link takes no further frame, and the reset is made when the reply has been sent. -/
def reqReset (s : State) : State × Response :=
  (s.updLink fun l => { l with resetTaken := true }, okWith .nothing)

/-- RESET. -/
def execReset (s : State) : Host.Outcome State Fault Refusal := .next (whenLive (hostRequest .reset reqReset) s)

/-- The snapshot of GET_STATUS (R211). -/
def State.status (s : State) : StatusSnapshot :=
  { mode := s.power.mode, step := s.power.step, startKind := s.power.startKind, outcome := s.power.outcome,
    showState := s.shc.state, phase := s.tgc.phase, lampA := s.retained.lampA.state,
    lampB := s.retained.lampB.state, seeing := s.thu.seeing, switchOn := s.flt.switchOn,
    framesHeld := s.link.holding.length, reportsQueued := s.link.reports.length, lost := s.link.lost,
    framing := s.link.framing, gaps := s.link.gaps, badChecks := s.link.badChecks, overruns := s.link.overruns,
    lostReports := s.link.lostReports }

/-- GET_STATUS (R211). -/
def reqGetStatus (s : State) : State × Response := (s, okWith (.status s.status))

/-- GET_STATUS. -/
def execGetStatus (s : State) : Host.Outcome State Fault Refusal :=
  .next (whenLive (hostRequest .getStatus reqGetStatus) s)

/-! ## Supplies (R208, R209; logs 15, 16) -/

/-- POWER_ON (R209). A part that has main power loses it first. -/
def execPowerOn (s : State) : Host.Outcome State Fault Refusal :=
  .next (settle (powerOn (if s.power.powered then unpower s else s)))

/-- MAIN_POWER_LOSS (section 11.7). -/
def execMainPowerLoss (s : State) : Host.Outcome State Fault Refusal := .next (unpower s)

/-- BACKUP_SUPPLY_LOSS: it loses the retained section when nothing but the backup supply keeps it, in STANDBY and
without main power. -/
def execBackupSupplyLoss (s : State) : Host.Outcome State Fault Refusal :=
  .next (if s.power.powered = false ∨ s.power.mode = .standby then loseRetained s else s)

/-! ## Resets (R210) -/

/-- RESET_PIN: the reset pin goes active, makes a soft reset and holds the part in reset. -/
def execResetPin (s : State) : Host.Outcome State Fault Refusal :=
  let s := s.updPins fun p => { p with resetPin := true }
  .next (if s.power.powered then settle (softReset s) else s)

/-- What a start reads from the sensors, read when the reset is released (log 17). -/
def readSensors (s : State) : State :=
  let s := ltcRest 0 (tgcReset (readPresence s))
  s.updTac fun t => { t with beginFlag := s.pins.tapeBegin, endFlag := s.pins.tapeEnd }

/-- RESET_PIN_RELEASE: the reset pin goes inactive and the part leaves reset. -/
def execResetPinRelease (s : State) : Host.Outcome State Fault Refusal :=
  let held := s.pins.resetPin
  .next (whenLive (fun s => if held then readSensors s else s) (s.updPins fun p => { p with resetPin := false }))

/-- SOFT_RESET: the reset that follows a RESET, when the last byte of its reply has been sent (log 33). -/
def execSoftReset (s : State) : Host.Outcome State Fault Refusal := .next (whenLive softReset s)

end Sys2Proof.Machine
end

