-- ==== Sys2Proof/Machine/RemoteOps.lean ====
section
/-! DEFINITION. The Remote Receiver's operations: infrared frames, the press path and the key functions
(09_remote_control_and_focus.md). -/

namespace Sys2Proof.Machine

/-! ## The infrared frame (R168) -/

/-- The channel of a frame's sixteen bits. -/
def irChannel (word : BitVec 16) : Nat := word.toNat / 2048

/-- The key code of a frame's sixteen bits. -/
def irKey (word : BitVec 16) : Nat := word.toNat / 16 % 128

/-- The check that a channel and key require: the three 4-bit groups summed modulo 16. -/
def irCheck (channel key : Nat) : Nat :=
  let n := channel * 128 + key
  (n / 256 + n / 16 % 16 + n % 16) % 16

/-- The function of a key code (R173). -/
def State.keyFunction (s : State) (code : Nat) : KeyFunction := (s.retained.keymap[code]?).getD .nothing

/-! ## Key functions (R174 to R180) -/

/-- Whether the lock level permits a handset press (the table of R174). -/
def lockPermits (lock : LockLevel) (show' : ShowState) (f : KeyFunction) : Bool :=
  match f with
  | .nothing | .focusNear | .focusFar => true
  | .blank | .pause | .returnShow | .forward | .backward | .digit _ | .enter => lock != .locked
  | .lightUp | .lightDown | .lamp =>
    match lock with
    | .allOpen => true
    | .showLock => show' == .stopped
    | .locked => false

/-- A key's excursion move: the Show Controller is asked, and on MOVE the entry is offered (R146, R175, R179). -/
def keyMove (move : Move) (s : State) : State × KeyOutcome :=
  let r := excursionKey s
  if r.2 then
    let o := offer move .remote none r.1
    (o.1, if o.2 = .full then .dropped else .taken)
  else (r.1, .refused)

/-- Turns the focus motor on (R176). -/
def startFocus (f : Focus) (s : State) : State := s.updRrx fun r => { r with focus := f, spent := false }

/-- A LIGHT key's relative order (R49, R177). -/
def lightOrder (up : Bool) (s : State) : State := takeFade (relativeTarget up s.fe.level) 100 .linear .remote s

/-- The number in the digit buffer (R179). -/
def digitNumber : List Nat → Nat
  | [d] => d
  | [a, b] => 10 * a + b
  | _ => 0

/-- Carries out the function of a permitted press (R175 to R180). -/
def keyPressed (f : KeyFunction) (s : State) : State × KeyOutcome :=
  match f with
  | .nothing => (s, .nothing)
  | .forward =>
    let m := keyMove (.advance 1) s
    (m.1.updRrx fun r => { r with repeatTimer := some .first }, m.2)
  | .backward =>
    let m := keyMove (.back 1) s
    (m.1.updRrx fun r => { r with repeatTimer := some .first }, m.2)
  | .focusNear => (startFocus .near s, .taken)
  | .focusFar => (startFocus .far s, .taken)
  | .blank => (s.updTgc fun t => { t with blank := !t.blank }, .taken)
  | .pause => (pauseKey s, .taken)
  | .returnShow => (returnOrder .key s, .taken)
  | .lightUp => (lightOrder true s, .taken)
  | .lightDown => (lightOrder false s, .taken)
  | .lamp => (lampKey s, .taken)
  | .digit d =>
    (s.updRrx fun r => { r with digits := (r.digits ++ [d.val]).drop (r.digits.length - 1) }, .taken)
  | .enter =>
    let n := digitNumber s.rrx.digits
    let s := s.updRrx fun r => { r with digits := [] }
    if 1 ≤ n ∧ n ≤ 90 then keyMove (.goto (Fin.ofNat 91 n)) s else (s, .cleared)

/-- A press (R170, R174, R181): the old hold ends, the new key is held, the lock level is asked for a handset press, the
function is carried out, and KEY_SEEN is raised. -/
def pressKey (source : KeySource) (channel : Option Nat) (code : Nat) (s : State) : State × KeyOutcome :=
  let s := endHold s
  let f := s.keyFunction code
  let permitted := source == .panel || lockPermits s.retained.params.lockLevel s.shc.state f
  let s := s.updRrx fun r =>
    { r with state := .held, measure := .none, held := some ⟨source, code, f, permitted⟩ }
  let r :=
    if permitted then keyPressed f s
    else (s.updRrx fun r => { r with refused := bump16 r.refused }, KeyOutcome.locked)
  (raiseEvent (.keySeen source channel code f r.2) r.1, r.2)

/-- The effect of a repeat on the held key: a LIGHT key issues a further order (R172, R177). -/
def repeatHeld (s : State) : State :=
  match s.rrx.held with
  | none => s
  | some k =>
    if k.permitted then
      match k.function with
      | .lightUp => lightOrder true s
      | .lightDown => lightOrder false s
      | _ => s
    else s

/-! ## Decoding (R169, R170, R172, R182) -/

/-- A timing fault, or a check failure (R169, R170). -/
def irFault (s : State) : State :=
  (endHold s).updRrx fun r => { r with state := .idle, measure := .none, bad := bump16 r.bad }

/-- A complete frame (R170; in STANDBY R182, where a frame of a NONE key leaves no held key, log 43). -/
def irComplete (word : BitVec 16) (s : State) : State :=
  let channel := irChannel word
  let code := irKey word
  if word.toNat % 16 ≠ irCheck channel code then irFault s
  else
    let filter := s.retained.params.remoteChannel
    if filter ≠ 0 ∧ filter ≠ channel then
      (endHold s).updRrx fun r => { r with state := .idle, measure := .none, foreign := bump16 r.foreign }
    else if s.power.mode = .standby then
      if s.keyFunction code = .nothing then
        (endHold s).updRrx fun r => { r with state := .idle, measure := .none }
      else
        (wakeUp s).updRrx fun r => { r with state := .held, held := some ⟨.handset, code, .nothing, true⟩ }
    else (pressKey .handset (some channel) code s).1

/-- A complete repeat (R172); outside HELD it is a stray. It acts on the key held, a panel key too, which is the model's
choice (log 48). -/
def irRepeated (s : State) : State :=
  if s.rrx.state = .held then repeatHeld (s.updRrx fun r => { r with measure := .none }) else s

/-- Whether a length lies in a range, ends included (R168). -/
def inRange (lo hi n : Nat) : Bool := decide (lo ≤ n) && decide (n ≤ hi)

/-- One timed element of the input (R169; log 28). -/
def irElement (e : IrElement) (s : State) : State :=
  let set := fun (m : Measure) => s.updRrx fun r => { r with measure := m }
  let short := inRange 315 585 e.micros
  match s.rrx.measure with
  | .none => if e.mark ∧ inRange 2520 4680 e.micros then set .leaderSpace else s
  | .leaderSpace =>
    if !e.mark ∧ inRange 1260 2340 e.micros then
      s.updRrx fun r => { r with state := .frame, measure := .bitMark 0 0 }
    else if !e.mark ∧ inRange 630 1170 e.micros then
      set (if s.rrx.state = .held then .repeatMark else .none)
    else irFault s
  | .repeatMark => if e.mark ∧ short then irRepeated s else irFault s
  | .bitMark count word =>
    if e.mark ∧ short then
      if 16 ≤ count then irComplete (BitVec.ofNat 16 word) (set .none) else set (.bitSpace count word)
    else irFault s
  | .bitSpace count word =>
    if !e.mark ∧ short then set (.bitMark (count + 1) (2 * word))
    else if !e.mark ∧ inRange 945 1755 e.micros then set (.bitMark (count + 1) (2 * word + 1))
    else irFault s

/-- What an IR_FRAME brings: a complete frame, or the timed elements one after another. -/
def irInput (i : IrInput) (s : State) : State :=
  match i with
  | .bits word => irComplete word s
  | .elements l => l.foldl (fun s e => irElement e s) s

end Sys2Proof.Machine
end

