-- ==== Sys2Proof/Machine/Remote.lean ====
section
/-! DEFINITION. The commands of the Remote Receiver (chapter 9). -/

namespace Sys2Proof.Machine

/-! ## KEY (R181) and SET_KEYMAP (R173) -/

/-- KEY PRESS. -/
def reqKeyPress (code : Nat) (s : State) : State × Response :=
  if 127 < code then (s, refuse .badValue)
  else
    let r := pressKey .panel none code s
    (r.1, okWith (.key (.press r.2)))

/-- KEY_PRESS. -/
def execKeyPress (code : Nat) (s : State) : Host.Outcome State Fault Refusal :=
  .next (whenLive (hostRequest (.keyPress code) (reqKeyPress code)) s)

/-- Whether the held key is a panel hold of a code. -/
def Rrx.panelHolds (code : Nat) (r : Rrx) : Bool := r.held.any fun k => k.source == .panel && k.code == code

/-- KEY HOLD: a repeat of a panel hold. -/
def reqKeyHold (code : Nat) (s : State) : State × Response :=
  if 127 < code then (s, refuse .badValue)
  else if s.rrx.panelHolds code then (repeatHeld s, okWith (.key .held))
  else (s, okWith (.key .notHeld))

/-- KEY_HOLD. -/
def execKeyHold (code : Nat) (s : State) : Host.Outcome State Fault Refusal :=
  .next (whenLive (hostRequest (.keyHold code) (reqKeyHold code)) s)

/-- KEY RELEASE: the end of a panel hold. -/
def reqKeyRelease (code : Nat) (s : State) : State × Response :=
  if 127 < code then (s, refuse .badValue)
  else if s.rrx.panelHolds code then (endHold s, okWith (.key .held))
  else (s, okWith (.key .notHeld))

/-- KEY_RELEASE. -/
def execKeyRelease (code : Nat) (s : State) : Host.Outcome State Fault Refusal :=
  .next (whenLive (hostRequest (.keyRelease code) (reqKeyRelease code)) s)

/-- Writes functions for the codes from `start` upward (R173). -/
def writeKeys (start : Nat) : List KeyFunction → Vector KeyFunction 128 → Vector KeyFunction 128
  | [], m => m
  | f :: rest, m => writeKeys (start + 1) rest (m.setIfInBounds start f)

/-- SET_KEYMAP (R173). -/
def reqSetKeymap (start : Nat) (functions : List Nat) (s : State) : State × Response :=
  match functionsOperand functions with
  | none => (s, refuse .badValue)
  | some l =>
    if 127 < start ∨ 128 < start + l.length then (s, refuse .badValue)
    else
      let s := s.updRetained fun r => { r with keymap := writeKeys start l r.keymap }
      let p := s.retained.params
      (s, okWith (.keymap ((s.retained.keymap.toList.drop start).take 16) s.rrx p.remoteChannel p.lockLevel))

/-- SET_KEYMAP. -/
def execSetKeymap (start : Nat) (functions : List Nat) (s : State) : Host.Outcome State Fault Refusal :=
  .next (whenLive (hostRequest (.setKeymap start functions) (reqSetKeymap start functions)) s)

/-! ## The infrared input: it is decoded in STANDBY too (R182) -/

/-- IR_FRAME: a complete frame, or timed elements (R168 to R170, R182). -/
def execIrFrame (input : IrInput) (s : State) : Host.Outcome State Fault Refusal :=
  .next (whenLive (irInput input) s)

/-- IR_REPEAT: a complete repeat (R172). -/
def execIrRepeat (s : State) : Host.Outcome State Fault Refusal := .next (whenLive irRepeated s)

/-- IR_TIMING_FAULT: a mark or space out of its range (R169). -/
def execIrTimingFault (s : State) : Host.Outcome State Fault Refusal := .next (whenLive irFault s)

/-! ## Timers -/

/-- RELEASE_TIMER_EXPIRY: the 150 ms release timer expires (R172). -/
def execReleaseTimerExpiry (s : State) : Host.Outcome State Fault Refusal :=
  .next (whenLive (fun s => if s.rrx.held.isSome then endHold s else s) s)

/-- The move of a held FORWARD or REVERSE key. -/
def keyRepeatMove : KeyFunction → Option Move
  | .forward => some (.advance 1)
  | .backward => some (.back 1)
  | _ => none

/-- An auto-repeat (R175): the Show Controller is asked again, and the timer restarts at 500 ms. -/
def autoRepeat (s : State) : State :=
  match s.rrx.repeatTimer, s.rrx.held.bind (fun k => keyRepeatMove k.function) with
  | some _, some m => (keyMove m s).1.updRrx fun r => { r with repeatTimer := some .next }
  | _, _ => s

/-- AUTO_REPEAT_EXPIRY. -/
def execAutoRepeatExpiry (s : State) : Host.Outcome State Fault Refusal := .next (whenRunning autoRepeat s)

/-- FOCUS_TIMER_EXPIRY: 8000 ms of focus; the motor stops for the rest of the hold (R176). -/
def execFocusTimerExpiry (s : State) : Host.Outcome State Fault Refusal :=
  .next (whenRunning
    (fun s => if s.rrx.focus = .off then s else s.updRrx fun r => { r with focus := .off, spent := true }) s)

/-- CLEAR_TIMER_EXPIRY: the digit buffer is emptied (R178). -/
def execClearTimerExpiry (s : State) : Host.Outcome State Fault Refusal :=
  .next (whenRunning (fun s => s.updRrx fun r => { r with digits := [] }) s)

end Sys2Proof.Machine
end

