-- ==== Sys2Proof/Machine/Reports.lean ====
section
/-! DEFINITION. The commands of the Fault Unit (chapter 10). -/

namespace Sys2Proof.Machine

/-- GET_FAULTS (R196). -/
def reqGetFaults (s : State) : State × Response := (s, okWith (.faults s.flt))

/-- GET_FAULTS. -/
def execGetFaults (s : State) : Host.Outcome State Fault Refusal :=
  .next (whenLive (hostRequest .getFaults reqGetFaults) s)

/-- CLEAR_FAULTS (R190). -/
def reqClearFaults (s : State) : State × Response :=
  (s.updFlt fun f => { f with first := none, later := [], laterCount := 0, sticky := [] },
    okWith (.cleared s.flt.first s.flt.later s.flt.laterCount s.flt.sticky))

/-- CLEAR_FAULTS. -/
def execClearFaults (s : State) : Host.Outcome State Fault Refusal :=
  .next (whenLive (hostRequest .clearFaults reqClearFaults) s)

/-- The enables replaced; members they disable leave the pending set (R191). -/
def Flt.setEnables (faultOn : Vector Bool 30) (eventOn : Vector Bool 9) (f : Flt) : Flt :=
  let f := { f with faultOn := faultOn, eventOn := eventOn }
  { f with waiting := f.waiting.filter fun w => w.body.enabled f }

/-- SET_REPORT_ENABLES (R191). -/
def reqSetReportEnables (values : List Nat) (s : State) : State × Response :=
  match enablesOperand values with
  | none => (s, refuse .badValue)
  | some (fs, es) => (s.updFlt (Flt.setEnables fs es), okWith (.enables fs es))

/-- SET_REPORT_ENABLES. -/
def execSetReportEnables (values : List Nat) (s : State) : Host.Outcome State Fault Refusal :=
  .next (whenLive (hostRequest (.setReportEnables values) (reqSetReportEnables values)) s)

/-- REPORTS OFF (R193). -/
def reqReportsOff (s : State) : State × Response :=
  (s.updFlt fun f => { f with switchOn := false }, okWith .nothing)

/-- REPORTS_OFF. -/
def execReportsOff (s : State) : Host.Outcome State Fault Refusal :=
  .next (whenLive (hostRequest .reportsOff reqReportsOff) s)

/-- REPORTS ON (R194). -/
def reqReportsOn (s : State) : State × Response :=
  if s.flt.switchOn then (s, okWith (.released 0))
  else
    (releaseWaiting (s.updFlt fun f => { f with switchOn := true }), okWith (.released s.flt.waiting.length))

/-- REPORTS_ON. -/
def execReportsOn (s : State) : Host.Outcome State Fault Refusal :=
  .next (whenLive (hostRequest .reportsOn reqReportsOn) s)

/-- SECONDS_TICK: the seconds timer expires (R186). -/
def execSecondsTick (s : State) : Host.Outcome State Fault Refusal :=
  .next (whenRunning
    (fun s => if s.flt.timer then s.updFlt fun f => { f with seconds := bump16 f.seconds } else s) s)

end Sys2Proof.Machine
end

