-- ==== Sys2Proof/Machine/Show.lean ====
section
/-! DEFINITION. The commands of the Show Controller (chapter 7). -/

namespace Sys2Proof.Machine

/-! ## The cue table (section 7.1) -/

/-- Puts an entry at the place its number takes, in place of one with its number (R124). -/
def insertCue (e : CueEntry) : List CueEntry → List CueEntry
  | [] => [e]
  | x :: rest =>
    if e.number < x.number then e :: x :: rest
    else if e.number = x.number then e :: rest
    else x :: insertCue e rest

/-- Whether the table holds a number. -/
def hasCue (number : Nat) (l : List CueEntry) : Bool := l.any fun e => e.number == number

/-- The index of a number. -/
def cueIndex (number : Nat) (l : List CueEntry) : Nat := (l.findIdx? fun e => e.number == number).getD 0

/-- A change of the table: the pointer returns to 0 (R124, R125). -/
def changeTable (f : List CueEntry → List CueEntry) (s : State) : State :=
  (s.updRetained fun r => { r with cues := f r.cues }).updShc fun c => { c with pointer := 0 }

/-- LOAD_CUE (R124). -/
def reqLoadCue (number slot count : Nat) (actions : List RawAction) (s : State) : State × Response :=
  match cueOperand number slot count actions with
  | none => (s, refuse .badValue)
  | some e =>
    if s.shc.state ≠ .stopped then (s, refuse .wrongState)
    else
      let known := hasCue e.number s.retained.cues
      if 128 ≤ s.retained.cues.length ∧ known = false then (s, refuse .tableFull)
      else
        let s := changeTable (insertCue e) s
        (s, okWith (.cueLoaded (cueIndex e.number s.retained.cues) s.retained.cues.length known))

/-- LOAD_CUE. -/
def execLoadCue (number slot count : Nat) (actions : List RawAction) (s : State) : Host.Outcome State Fault Refusal :=
  .next (whenLive (hostRequest (.loadCue number slot count actions) (reqLoadCue number slot count actions)) s)

/-- DELETE_CUE (R125). -/
def reqDeleteCue (number : Nat) (s : State) : State × Response :=
  if 4095 < number then (s, refuse .badValue)
  else if s.shc.state ≠ .stopped then (s, refuse .wrongState)
  else
    let known := hasCue number s.retained.cues
    let s := changeTable (fun l => l.filter fun e => e.number != number) s
    (s, okWith (.cueDeleted s.retained.cues.length (!known)))

/-- DELETE_CUE. -/
def execDeleteCue (number : Nat) (s : State) : Host.Outcome State Fault Refusal :=
  .next (whenLive (hostRequest (.deleteCue number) (reqDeleteCue number)) s)

/-- CLEAR_CUES (R125). -/
def reqClearCues (s : State) : State × Response :=
  if s.shc.state ≠ .stopped then (s, refuse .wrongState)
  else (changeTable (fun _ => []) s, okWith (.cuesCleared 0))

/-- CLEAR_CUES. -/
def execClearCues (s : State) : Host.Outcome State Fault Refusal :=
  .next (whenLive (hostRequest .clearCues reqClearCues) s)

/-- The entry a GET_CUE selects: by number 0 or by index 1 (R126). -/
def selectCue (selector value : Nat) (l : List CueEntry) : Option CueEntry :=
  match selector with
  | 0 => l.find? fun e => e.number == value
  | 1 => l[value]?
  | _ => none

/-- GET_CUE (R126). -/
def reqGetCue (selector value : Nat) (s : State) : State × Response :=
  match selectCue selector value s.retained.cues with
  | none => (s, refuse .badValue)
  | some e => (s, okWith (.cue e (cueIndex e.number s.retained.cues) s.retained.cues.length))

/-- GET_CUE. -/
def execGetCue (selector value : Nat) (s : State) : Host.Outcome State Fault Refusal :=
  .next (whenLive (hostRequest (.getCue selector value) (reqGetCue selector value)) s)

/-! ## SHOW_START, SHOW_PAUSE, SHOW_RESUME, SHOW_STOP, GET_SHOW -/

/-- The show record of a SHOW_START, with its part list (R129, R130). -/
def Shc.startOf (slot : Slot) (loops : Nat) (rewind strike : Bool) (c : Shc) : Shc :=
  { c with
    stopReason := none, startSlot := some slot, loops := loops, loopsDone := 0, pointer := 0, cues := []
    parts :=
      { rewind := if rewind then some .outstanding else none
        goto := some .outstanding
        strike := if strike then some .outstanding else none
        fade := none }
    register := .empty, returning := false }

/-- The strike of a SHOW_START; an ALREADY_LIT ends the part (R129, R130). -/
def showStrike (s : State) : State :=
  let r := requestStrike .theShow s
  if r.2 = .alreadyLit then finishPart .strike .done r.1 else r.1

/-- An accepted SHOW_START (R129). -/
def startShow (slot : Slot) (loops : Nat) (s : State) : State :=
  let dark := s.litLamp.isNone
  let rewind := s.retained.params.rewindOnStart
  let s := s.updShc (Shc.startOf slot loops rewind dark)
  let s := setShow .starting .request (showFade 0 0 .linear none s)
  let s := if rewind then showRewind s else tapeStopOrder .theShow s
  let s := offerStartGoto .start s
  if dark then showStrike s else s

/-- SHOW_START (R129). -/
def reqShowStart (slot loops : Nat) (s : State) : State × Response :=
  if slot = 0 ∨ 90 < slot ∨ 255 < loops then (s, refuse .badValue)
  else if s.shc.state ≠ .stopped ∨ s.power.mode = .windingDown then (s, refuse .wrongState)
  else (startShow (Fin.ofNat 91 slot) loops s, okWith .nothing)

/-- SHOW_START. -/
def execShowStart (slot loops : Nat) (s : State) : Host.Outcome State Fault Refusal :=
  .next (whenLive (hostRequest (.showStart slot loops) (reqShowStart slot loops)) s)

/-- SHOW_PAUSE (R142). -/
def reqShowPause (s : State) : State × Response :=
  match s.shc.state with
  | .running => (pauseShow .request s, okWith .nothing)
  | .paused => (s.updShc fun c => { c with hold := none }, okWith .nothing)
  | .stopped | .starting | .held | .excursion | .looping => (s, refuse .wrongState)

/-- SHOW_PAUSE. -/
def execShowPause (s : State) : Host.Outcome State Fault Refusal :=
  .next (whenLive (hostRequest .showPause reqShowPause) s)

/-- SHOW_RESUME (R143). -/
def reqShowResume (s : State) : State × Response :=
  match s.shc.state with
  | .paused => (resumePaused .request s, okWith .nothing)
  | .held =>
    if s.obstacles = [] then (returnFromHeld .request s, okWith .nothing)
    else (s, ⟨.wrongState, false, false, .obstacles s.obstacles⟩)
  | .excursion => (returnOrder .request s, okWith .nothing)
  | .running => (s, okWith .nothing)
  | .stopped | .starting | .looping => (s, refuse .wrongState)

/-- SHOW_RESUME. -/
def execShowResume (s : State) : Host.Outcome State Fault Refusal :=
  .next (whenLive (hostRequest .showResume reqShowResume) s)

/-- SHOW_STOP (R149). -/
def reqShowStop (s : State) : State × Response :=
  if s.shc.state = .stopped then (s, refuse .wrongState) else (showStop .host s, okWith .nothing)

/-- SHOW_STOP. -/
def execShowStop (s : State) : Host.Outcome State Fault Refusal :=
  .next (whenLive (hostRequest .showStop reqShowStop) s)

/-- GET_SHOW (R151). The seconds the hold timer still shows are a free value within its hold time (log 13). -/
def reqGetShow (s : State) : State × Response :=
  let seen := { s.shc with hold := s.shc.hold.map fun h => min h (Config.freeSeconds s.free) }
  (if s.shc.hold.isSome then s.updFree (· + 1) else s,
    okWith (.showRecord seen s.retained.cues.length (if s.shc.held.isSome then s.obstacles else [])))

/-- GET_SHOW. -/
def execGetShow (s : State) : Host.Outcome State Fault Refusal :=
  .next (whenLive (hostRequest .getShow reqGetShow) s)

/-! ## The hold timer -/

/-- The hold timer expires (R142, R145): RUNNING from PAUSED; in HELD the return state becomes RUNNING. DESIGN CHOICE
(log 49): R142's last sentence, on a PAUSE key and this expiry taken together, gives the reverse of R142's own table,
and the model follows the table. An expiry behind the key finds the timer stopped and leaves RUNNING; a key behind the
expiry enters PAUSED. -/
def holdExpired (s : State) : State :=
  if s.shc.hold.isSome then
    match s.shc.state with
    | .paused => resumePaused .timer s
    | .held =>
      s.updShc fun c => { c with hold := none, held := c.held.map fun h => { h with resume := .running } }
    | .stopped | .starting | .running | .excursion | .looping => s.updShc fun c => { c with hold := none }
  else s

/-- HOLD_TIMER_EXPIRY. -/
def execHoldTimerExpiry (s : State) : Host.Outcome State Fault Refusal := .next (whenRunning holdExpired s)

end Sys2Proof.Machine
end

