-- ==== Sys2Proof/Machine/Tape.lean ====
section
/-! DEFINITION. The commands of the Tape and Audio Controller (chapter 8). -/

namespace Sys2Proof.Machine

/-! ## TAPE (R161) -/

/-- The Show Controller's notice of a move order's outcome: the tape end of a barred PLAY, the rewind's end of a
barred REWIND (R155, R158). -/
def tellMove (o : MoveOrder) (outcome : TapeOutcome) (s : State) : State :=
  match o, outcome with
  | .play, .atEnd => tapeEnded s
  | .rewind, .atStart => rewindEnded .done s
  | _, _ => s

/-- A TAPE request whose order moves the tape, with its reply's snapshot (R161). -/
def hostMove (o : MoveOrder) (s : State) : State × Response :=
  if s.shc.state ≠ .stopped ∨ s.power.mode = .windingDown then (s, refuse .wrongState)
  else
    let r := moveOrder o .link s
    let s := tellMove o r.2 r.1
    (s, okWith (.tape r.2 s.tac))

/-- A TAPE request whose order stops or pauses the tape (R156, R161; log 25). -/
def hostRest (f : State → State) (s : State) : State × Response :=
  if s.shc.state ≠ .stopped ∨ s.power.mode = .windingDown then (s, refuse .wrongState)
  else
    let old := s.tac.state
    let s := f s
    (s, okWith (.tape (if s.tac.state = old then .noChange else .taken) s.tac))

/-- TAPE PLAY. -/
def reqTapePlay (s : State) : State × Response := hostMove .play s

/-- TAPE_PLAY. -/
def execTapePlay (s : State) : Host.Outcome State Fault Refusal :=
  .next (whenLive (hostRequest .tapePlay reqTapePlay) s)

/-- TAPE PAUSE. -/
def reqTapePause (s : State) : State × Response := hostRest (tapePauseOrder .link) s

/-- TAPE_PAUSE. -/
def execTapePause (s : State) : Host.Outcome State Fault Refusal :=
  .next (whenLive (hostRequest .tapePause reqTapePause) s)

/-- TAPE STOP. -/
def reqTapeStop (s : State) : State × Response := hostRest (tapeStopOrder .link) s

/-- TAPE_STOP. -/
def execTapeStop (s : State) : Host.Outcome State Fault Refusal :=
  .next (whenLive (hostRequest .tapeStop reqTapeStop) s)

/-- TAPE FAST_FWD. -/
def reqTapeFastFwd (s : State) : State × Response := hostMove .fastFwd s

/-- TAPE_FAST_FWD. -/
def execTapeFastFwd (s : State) : Host.Outcome State Fault Refusal :=
  .next (whenLive (hostRequest .tapeFastFwd reqTapeFastFwd) s)

/-- TAPE REWIND. -/
def reqTapeRewind (s : State) : State × Response := hostMove .rewind s

/-- TAPE_REWIND. -/
def execTapeRewind (s : State) : Host.Outcome State Fault Refusal :=
  .next (whenLive (hostRequest .tapeRewind reqTapeRewind) s)

/-- VOLUME (R163). -/
def reqVolume (volume ramp : Nat) (s : State) : State × Response :=
  let s := volumeOrder (min volume 63) (min ramp 10000) s
  (s, okClamped (decide (63 < volume) || decide (10000 < ramp)) (.volume s.tac))

/-- VOLUME. -/
def execVolume (volume ramp : Nat) (s : State) : Host.Outcome State Fault Refusal :=
  .next (whenLive (hostRequest (.volume volume ramp) (reqVolume volume ramp)) s)

/-! ## Sensors (R157, R158) -/

/-- The tape-begin sensor goes active (R157). TAPE_STATE is raised before the Show Controller is told (log 8). -/
def beginActive (s : State) : State :=
  let s := s.updTac fun t => { t with beginFlag := true }
  match s.tac.state with
  | .rewind =>
    let s := s.updTac fun t => { t with counter := 0 }
    rewindEnded .done (enterTransport .stopped (some .backward) .tapeBegin s)
  | .stopped => if s.tac.brake = some .backward then s.updTac fun t => { t with counter := 0 } else s
  | .play | .paused | .fastFwd => s

/-- TAPE_BEGIN_SENSOR: the tape-begin sensor goes to a level. -/
def execTapeBeginSensor (active : Bool) (s : State) : Host.Outcome State Fault Refusal :=
  .next (whenRunning
    (fun s => if active then beginActive s else s.updTac fun t => { t with beginFlag := false })
    (s.updPins fun p => { p with tapeBegin := active }))

/-- The tape-end sensor goes active (R157, R158). -/
def endActive (s : State) : State :=
  let s := s.updTac fun t => { t with endFlag := true }
  match s.tac.state with
  | .play => tapeEnded (raiseFault .tapeEnd .empty (enterTransport .stopped (some .forward) .tapeEnd s))
  | .fastFwd => enterTransport .stopped (some .forward) .tapeEnd s
  | .stopped | .paused | .rewind => s

/-- TAPE_END_SENSOR: the tape-end sensor goes to a level. -/
def execTapeEndSensor (active : Bool) (s : State) : Host.Outcome State Fault Refusal :=
  .next (whenRunning
    (fun s => if active then endActive s else s.updTac fun t => { t with endFlag := false })
    (s.updPins fun p => { p with tapeEnd := active }))

/-! ## Timers and pulses -/

/-- Whether a pending order is carried out: a PLAY only with the show RUNNING or STOPPED (R156). -/
def PendingOrder.due (o : PendingOrder) (st : ShowState) : Bool :=
  o.order != .play || st == .running || st == .stopped

/-- The brake period ends and the pending order is carried out (R156). -/
def brakeEnded (s : State) : State :=
  if s.tac.brake.isSome then
    let order := s.tac.order
    let s := s.updTac fun t => { t with brake := none, stallBrake := false, order := none }
    match order with
    | none => s
    | some o =>
      if o.due s.shc.state then
        let r := moveOrder o.order o.issuer s
        tellMove o.order r.2 r.1
      else s
  else s

/-- BRAKE_PERIOD_END. -/
def execBrakePeriodEnd (s : State) : Host.Outcome State Fault Refusal := .next (whenRunning brakeEnded s)

/-- The stall timer expires in a moving state (R159; log 25). -/
def tapeStalled (s : State) : State :=
  match s.tac.state.direction with
  | none => s
  | some d =>
    let rewinding := s.tac.state = .rewind
    let old := s.tac.state
    let s := s.updTac fun t =>
      { Tac.enter s.retained.params.resumeRamp .stopped (some d) t with
        order := none, stall := true, stallBrake := true }
    let s := raiseFault .tapeStall .empty (s.updCdec (Cdec.gate old .stopped))
    let s := raiseEvent (.tapeState .stopped old .stall s.tac.counter) s
    if rewinding then rewindEnded .failed s else s

/-- STALL_TIMER_EXPIRY. -/
def execStallTimerExpiry (s : State) : Host.Outcome State Fault Refusal := .next (whenRunning tapeStalled s)

/-- The counter after a pulse in a direction (R160). -/
def countReel (d : Direction) (n : Nat) : Nat :=
  match d with
  | .forward => bump16 n
  | .backward => n - 1

/-- A reel pulse (R159, R160): counted by the direction of the state or of the brake period; it clears the stall
indication once the stall's brake period has ended. -/
def Tac.pulse (t : Tac) : Tac :=
  { t with
    counter := match t.coasting with
      | some d => countReel d t.counter
      | none => t.counter
    stall := t.stall && t.stallBrake }

/-- REEL_PULSE. -/
def execReelPulse (s : State) : Host.Outcome State Fault Refusal :=
  .next (whenRunning (fun s => s.updTac Tac.pulse) s)

/-- One step of a ramp (R164). -/
def Tac.rampStep (t : Tac) : Tac :=
  match t.ramp with
  | none => t
  | some r =>
    let a := if t.applied < r.target then t.applied + 1 else t.applied - 1
    { t with applied := a, ramp := if a = r.target then none else some r }

/-- RAMP_TIMER_EXPIRY. -/
def execRampTimerExpiry (s : State) : Host.Outcome State Fault Refusal :=
  .next (whenRunning (fun s => s.updTac Tac.rampStep) s)

end Sys2Proof.Machine
end

