-- ==== Sys2Proof/Machine/Tray.lean ====
section
/-! DEFINITION. The commands of the Motion Queue and of the Tray and Gate Controller (chapters 1 and 2). -/

namespace Sys2Proof.Machine

/-! ## Requests -/

/-- MOVE (R32, R33, R35). -/
def reqMove (kind arg : Nat) (s : State) : State × Response :=
  match moveOperand kind arg with
  | none => (s, refuse .badValue)
  | some (m, clamped) =>
    let r := offer m .link none s
    match r.2 with
    | .full => (r.1, refuse .queueFull)
    | .joined => (r.1, okClamped clamped (.moved false r.1.mq.length))
    | .merged => (r.1, okClamped clamped (.moved true r.1.mq.length))

/-- MOVE. -/
def execMove (kind arg : Nat) (s : State) : Host.Outcome State Fault Refusal :=
  .next (whenLive (hostRequest (.move kind arg) (reqMove kind arg)) s)

/-- The cancel outcome of a HALT_MOTION after its cancel (R39). -/
def cancelOutcome (s : State) : CancelOutcome :=
  match s.mq.head? with
  | none => .nothing
  | some m =>
    if m.active then
      if (s.tgc.cycle.map (·.cancel)).getD false then .taken else .notTaken
    else .nothing

/-- HALT_MOTION (R39): every WAITING entry goes, then the cancel, then the notices (log 8). -/
def reqHaltMotion (s : State) : State × Response :=
  let gone := waitingOf (fun _ => true) s.mq
  let s := cancelActive .halt (discardWaiting (fun _ => true) .halt s)
  let outcome := cancelOutcome s
  (gone.foldl tellCancelled s, okWith (.halted gone.length outcome))

/-- HALT_MOTION. -/
def execHaltMotion (s : State) : Host.Outcome State Fault Refusal :=
  .next (whenLive (hostRequest .haltMotion reqHaltMotion) s)

/-- BLANK (R6). -/
def reqBlank (s : State) : State × Response :=
  let s := s.updTgc fun t => { t with blank := !t.blank }
  (s, okWith (.blanked s.tgc.blank))

/-- BLANK. -/
def execBlank (s : State) : Host.Outcome State Fault Refusal :=
  .next (whenLive (hostRequest .blank reqBlank) s)

/-- GET_TRAY (R28). -/
def reqGetTray (s : State) : State × Response :=
  (s, okWith (.tray s.tgc s.retained.position s.retained.map))

/-- GET_TRAY. -/
def execGetTray (s : State) : Host.Outcome State Fault Refusal :=
  .next (whenLive (hostRequest .getTray reqGetTray) s)

/-! ## Tray presence (R24, R25) -/

/-- A tray removal (R24). -/
def trayRemoved (s : State) : State :=
  let s := forgetTray (s.updTgc fun t => { t with present := false })
  match s.tgc.phase with
  | .ready =>
    if s.tgc.gateLoad = .slide then raiseAs .trayRemoved .note { Detail.empty with slideInGate := true } s else s
  | .jammed => raiseAs .trayRemoved .halt .empty s
  | .closing | .lifting | .indexing | .dropping | .seating | .homing | .unseated =>
    enterJammed (raiseAs .trayRemoved .halt .empty s)

/-- TRAY_REMOVAL: the tray-present sensor goes inactive. -/
def execTrayRemoval (s : State) : Host.Outcome State Fault Refusal :=
  .next (whenRunning trayRemoved (s.updPins fun p => { p with trayPresent := false }))

/-- TRAY_INSERTION: the tray-present sensor goes active (R25). -/
def execTrayInsertion (s : State) : Host.Outcome State Fault Refusal :=
  .next (whenRunning (fun s => s.updTgc fun t => { t with present := true })
    (s.updPins fun p => { p with trayPresent := true }))

/-! ## The change cycle -/

/-- TAKE_ENTRY: the TGC considers the head entry (R7; log 7). -/
def execTakeEntry (s : State) : Host.Outcome State Fault Refusal := .next (whenRunning takeHead s)

/-- Runs `f` when the timer of the cycle that runs is `t`; a timer that does not run has no expiry (log 29). -/
def onTimer (t : CycleTimer) (f : State → State) (s : State) : State :=
  if s.tgc.timer = some t then f s else s

/-- SETTLE_EXPIRY: the end of CLOSING (R8). -/
def execSettleExpiry (s : State) : Host.Outcome State Fault Refusal :=
  .next (whenRunning (onTimer .settle enterLifting) s)

/-- The gate-up sensor goes active while the lift timer runs (R9). -/
def gateUpActive (s : State) : State := onTimer .lift liftSucceeded s

/-- GATE_UP: the gate-up sensor goes to a level (R9, R10). -/
def execGateUp (active : Bool) (s : State) : Host.Outcome State Fault Refusal :=
  .next (whenRunning (fun s => if active then gateUpActive s else s)
    (s.updPins fun p => { p with gateUp := active }))

/-- The lift timer expires: a release before the next attempt, or T2 and JAMMED (R10). -/
def liftExpired (s : State) : State :=
  match s.tgc.cycle with
  | none => s
  | some c =>
    if c.attempt < 3 then s.updTgc fun t => { t with lift := false, timer := some .release }
    else enterJammed (raiseFault .gateJam (.atSlot s.slot) s)

/-- LIFT_TIMEOUT: the 600 ms lift timer expires. -/
def execLiftTimeout (s : State) : Host.Outcome State Fault Refusal :=
  .next (whenRunning (onTimer .lift liftExpired) s)

/-- LIFT_RELEASE_EXPIRY: the 200 ms release is over and the next lift attempt begins (R10). -/
def execLiftReleaseExpiry (s : State) : Host.Outcome State Fault Refusal :=
  .next (whenRunning
    (onTimer .release fun s => startLift (updCycle (fun c => { c with attempt := c.attempt + 1 }) s)) s)

/-- An index pulse, by the phase (R2, R11, R21). -/
def indexPulsed (s : State) : State :=
  match s.tgc.cycle with
  | none => s
  | some c =>
    match s.tgc.phase with
    | .indexing => pulseIndexing c s
    | .homing => pulseHoming c s
    | .ready | .closing | .lifting | .dropping | .seating | .jammed | .unseated => s

/-- INDEX_PULSE, with the level of the home sensor at the pulse. -/
def execIndexPulse (home : Bool) (s : State) : Host.Outcome State Fault Refusal :=
  .next (whenRunning indexPulsed (s.updPins fun p => { p with home := home }))

/-- STEP_TIMEOUT: the 400 ms step timer expires: T5 and JAMMED (R13). -/
def execStepTimeout (s : State) : Host.Outcome State Fault Refusal :=
  .next (whenRunning (onTimer .step fun s =>
    let last := s.slot
    let s := setPosition .unknown (s.updTgc fun t => { t with motor := none })
    enterJammed (raiseFault .trayStall (.atSlot last) s)) s)

/-- The slide-present sensor goes active while the drop timer runs, at any slot but 0 (R14). -/
def slideActive (s : State) : State := if s.slot = some 0 then s else onTimer .drop dropFound s

/-- SLIDE_PRESENT: the slide-present sensor goes to a level (R14). -/
def execSlidePresent (active : Bool) (s : State) : Host.Outcome State Fault Refusal :=
  .next (whenRunning (fun s => if active then slideActive s else s)
    (s.updPins fun p => { p with slidePresent := active }))

/-- The drop timer expires: the drop found no slide (R14). -/
def dropExpired (s : State) : State :=
  match s.tgc.cycle with
  | none => s
  | some c => dropEmpty c s

/-- DROP_TIMEOUT: the 300 ms drop timer expires. -/
def execDropTimeout (s : State) : Host.Outcome State Fault Refusal :=
  .next (whenRunning (onTimer .drop dropExpired) s)

/-- GATE_SEATED: the gate-seated sensor goes to a level (R15). -/
def execGateSeated (active : Bool) (s : State) : Host.Outcome State Fault Refusal :=
  .next (whenRunning (fun s => if active then onTimer .seat seatSucceeded s else s)
    (s.updPins fun p => { p with gateSeated := active }))

/-- The seat timer expires: one relift and redrop, or T4 and JAMMED (R16). -/
def seatExpired (s : State) : State :=
  match s.tgc.cycle with
  | none => s
  | some c =>
    if c.seatRetried then enterJammed (raiseFault .seatFailed (.atSlot s.slot) s)
    else enterLifting (updCycle (fun c => { c with seatRetried := true }) s)

/-- SEAT_TIMEOUT: the 250 ms seat timer expires. -/
def execSeatTimeout (s : State) : Host.Outcome State Fault Refusal :=
  .next (whenRunning (onTimer .seat seatExpired) s)

end Sys2Proof.Machine
end

