-- ==== Sys2Proof/Machine/LinkCommands.lean ====
section
/-! DEFINITION. The commands of the Link Interface: receiving, holding, taking and transmitting (chapter 11). -/

namespace Sys2Proof.Machine

/-! ## Receiving (R198, R199) -/

/-- Adds an overrun to the newest held frame's trailing count (R199). -/
def trailOverrun : List HeldFrame → List HeldFrame
  | [] => []
  | [h] => [{ h with trailing := bump8 h.trailing }]
  | h :: rest => h :: trailOverrun rest

/-- A complete frame joins receive holding, or is discarded as an overrun: counted, owed a reply, and N1 but in
STANDBY (R195, R199). -/
def receiveFrame (f : Frame) (s : State) : State :=
  if s.link.holding.length < 4 then s.updLink fun l => { l with holding := l.holding ++ [⟨f, 0⟩] }
  else
    let s := s.updLink fun l =>
      { l with overruns := bump16 l.overruns, holding := trailOverrun l.holding }
    if s.power.mode = .standby then s else raiseFault .linkOverrun .empty s

/-- FRAME_RECEIVED: a complete frame reaches receive holding. -/
def execFrameReceived (frame : Frame) (s : State) : Host.Outcome State Fault Refusal :=
  .next (whenLive (receiveFrame frame) s)

/-- Sets the assembler. -/
def setRx (a : Assembler) (s : State) : State := s.updLink fun l => { l with rx := a }

/-- A received byte (R198). -/
def receiveByte (b : Byte) (s : State) : State :=
  match s.link.rx with
  | .hunt => if b = 0xC3 then setRx .count s else s
  | .count =>
    if b.toNat ≤ 48 then setRx (.kind b.toNat) s
    else setRx .hunt (s.updLink fun l => { l with framing := bump16 l.framing })
  | .kind n => setRx (if n = 0 then .check b [] else .payload n b []) s
  | .payload n k bytes =>
    let bytes := bytes ++ [b]
    setRx (if bytes.length < n then .payload n k bytes else .check k bytes) s
  | .check k bytes => receiveFrame ⟨k, bytes, b⟩ (setRx .hunt s)

/-- BYTE_RECEIVED: a byte with its stop bit. -/
def execByteReceived (byte : Byte) (s : State) : Host.Outcome State Fault Refusal :=
  .next (whenLive (receiveByte byte) s)

/-- FRAMING_ERROR: a byte with a missing stop bit (R198). -/
def execFramingError (s : State) : Host.Outcome State Fault Refusal :=
  .next (whenLive (fun s => setRx .hunt (s.updLink fun l => { l with framing := bump16 l.framing })) s)

/-- GAP_TIMER_EXPIRY: 20 ms without a byte inside a frame (R198). -/
def execGapTimerExpiry (s : State) : Host.Outcome State Fault Refusal :=
  .next (whenLive
    (fun s => if s.link.rx = .hunt then s else setRx .hunt (s.updLink fun l => { l with gaps := bump16 l.gaps })) s)

/-! ## Taking requests (R200) -/

/-- A request handed to the block that owns its record. -/
def runRequest (i : Instr) (s : State) : State × Response :=
  match i with
  | .setParam n v => reqSetParam n v s
  | .getParam n => reqGetParam n s
  | .move k a => reqMove k a s
  | .haltMotion => reqHaltMotion s
  | .blank => reqBlank s
  | .getTray => reqGetTray s
  | .fade t d c => reqFade t d c s
  | .setCurve p => reqSetCurve p s
  | .setResponse p => reqSetResponse p s
  | .getLight n => reqGetLight n s
  | .lampOn => reqLampOn s
  | .lampOff => reqLampOff s
  | .setLampRecord l w r => reqSetLampRecord l w r s
  | .getLamps => reqGetLamps s
  | .temperature t => reqTemperature t s
  | .getThermal => reqGetThermal s
  | .loadCue n p c a => reqLoadCue n p c a s
  | .deleteCue n => reqDeleteCue n s
  | .clearCues => reqClearCues s
  | .getCue k v => reqGetCue k v s
  | .showStart p l => reqShowStart p l s
  | .showPause => reqShowPause s
  | .showResume => reqShowResume s
  | .showStop => reqShowStop s
  | .getShow => reqGetShow s
  | .tapePlay => reqTapePlay s
  | .tapePause => reqTapePause s
  | .tapeStop => reqTapeStop s
  | .tapeFastFwd => reqTapeFastFwd s
  | .tapeRewind => reqTapeRewind s
  | .volume v r => reqVolume v r s
  | .getCueStats => reqGetCueStats s
  | .clearCueStats => reqClearCueStats s
  | .keyPress c => reqKeyPress c s
  | .keyHold c => reqKeyHold c s
  | .keyRelease c => reqKeyRelease c s
  | .setKeymap n f => reqSetKeymap n f s
  | .getFaults => reqGetFaults s
  | .clearFaults => reqClearFaults s
  | .setReportEnables v => reqSetReportEnables v s
  | .reportsOff => reqReportsOff s
  | .reportsOn => reqReportsOn s
  | .standby => reqStandby s
  | .wake => reqWake s
  | .reset => reqReset s
  | .getStatus => reqGetStatus s
  | .powerOn | .resetPin | .softReset | .frameReceived _ | .framingError | .gapTimerExpiry | .takeFrame
  | .placeOverrunReply | .transmitDone | .trayRemoval | .trayInsertion | .takeEntry | .settleExpiry | .gateUp _
  | .liftTimeout | .liftReleaseExpiry | .indexPulse _ | .stepTimeout | .slidePresent _ | .dropTimeout
  | .gateSeated _ | .seatTimeout | .fadeStep | .turretSensor _ _ | .turretTimerExpiry | .preheatExpiry
  | .currentSenseActive _ | .checkExpiry | .retryWaitExpiry | .burnoutWatchStart | .currentSenseLost _
  | .litTimeExpiry | .windowEnd | .slewExpiry | .tachoPulse | .fanStallTimerExpiry | .cooldownSecondExpiry
  | .blockTimerExpiry _ | .holdTimerExpiry | .tapeBeginSensor _ | .tapeEndSensor _ | .brakePeriodEnd
  | .stallTimerExpiry | .reelPulse | .rampTimerExpiry | .irFrame _ | .irRepeat | .irTimingFault
  | .releaseTimerExpiry | .autoRepeatExpiry | .focusTimerExpiry | .clearTimerExpiry | .secondsTick
  | .byteReceived _ | .resetPinRelease | .backupSupplyLoss | .mainPowerLoss => (s, refuse .unknownKind)

/-- Whether a frame's check agrees (section 11.1, R200). -/
def frameAgrees (f : Frame) : Bool :=
  decide ((f.payload.foldl (fun n b => n + b.toNat) (f.payload.length + f.kind.toNat + f.check.toNat)) % 256 = 0)

/-- The kind of the reply to a frame: kind + 0x80, or 0xFF for a frame whose kind is outside 0x01..0x5F (R200). -/
def replyKind (kind : Byte) : Byte := if 1 ≤ kind.toNat ∧ kind.toNat ≤ 0x5F then kind + 0x80 else 0xFF

/-- Whether a request kind is answered in STANDBY: WAKE, RESET, GET_STATUS (R200). -/
def kindInStandby (kind : Byte) : Bool := kind == 0x51 || kind == 0x52 || kind == 0x53

/-- A taken frame's checks in their order, and its answer (R200; log 26). -/
def answerFrame (f : Frame) (s : State) : State × Response :=
  if frameAgrees f = false then
    (s.updLink fun l => { l with badChecks := bump16 l.badChecks }, refuse .badCheck)
  else
    match decodeRequest f.kind f.payload with
    | .unknownKind => (s, refuse .unknownKind)
    | .badLength => (s, refuse .badLength)
    | .unspelled =>
      (s, refuse (if s.power.mode = .standby ∧ kindInStandby f.kind = false then .wrongState else .badValue))
    | .request i => answerRequest i (runRequest i) s

/-- Whether the link may take a frame (R200, R210). -/
def Link.mayTake (l : Link) : Bool := !l.resetTaken && l.owed == 0 && decide (l.path.length < 2)

/-- The oldest held frame is taken, checked and answered; its trailing overruns are owed after its reply, but not
those of a RESET (R200, R210). -/
def takeOldest (s : State) : State :=
  if s.link.mayTake then
    match s.link.holding with
    | [] => s
    | h :: rest =>
      let s := s.updLink fun l => { l with holding := rest }
      let r := answerFrame h.frame s
      let s := placeReply (replyKind h.frame.kind) r.2 r.1
      s.updLink fun l => { l with owed := if l.resetTaken then 0 else h.trailing }
  else s

/-- TAKE_FRAME: the link takes the oldest held frame when it may. -/
def execTakeFrame (s : State) : Host.Outcome State Fault Refusal := .next (whenLive takeOldest s)

/-- An owed OVERRUN reply placed where the reply path has room (R200). -/
def placeOverrun (s : State) : State :=
  if s.link.owed ≠ 0 ∧ s.link.path.length < 2 then
    (placeReply 0xFF (refuse .overrun) s).updLink fun l => { l with owed := l.owed - 1 }
  else s

/-- PLACE_OVERRUN_REPLY. -/
def execPlaceOverrunReply (s : State) : Host.Outcome State Fault Refusal := .next (whenLive placeOverrun s)

/-! ## Transmitting (R201, R202) -/

/-- Whether a reply is the one whose last byte makes the soft reset (R210). -/
def Reply.isReset (r : Reply) : Bool := r.kind == 0xD2 && r.response.result == .ok

/-- The last byte of the frame on the line has been sent: the next part of the reply follows, or the reply leaves the
path; a RESET's reply makes the soft reset (R201, R210). -/
def frameSent (s : State) : State :=
  match s.link.tx with
  | .idle => s
  | .report _ _ => s.updLink fun l => { l with tx := .idle }
  | .reply part =>
    match s.link.path with
    | [] => s.updLink fun l => { l with tx := .idle }
    | r :: rest =>
      if part + 1 < replyParts r then s.updLink fun l => { l with tx := .reply (part + 1) }
      else
        let s := s.updLink fun l => { l with tx := .idle, path := rest }
        if s.link.resetTaken && r.isReset then softReset s else s

/-- TRANSMIT_DONE: the transmitter has sent the last byte of a frame. -/
def execTransmitDone (s : State) : Host.Outcome State Fault Refusal := .next (whenLive frameSent s)

end Sys2Proof.Machine
end

