-- ==== Sys2Proof/Machine/Dispatch.lean ====
section
/-! DEFINITION. The command dispatch: one arm per row of spec/opcode_table.json. -/

namespace Sys2Proof.Machine

/-- The effect of a command on everything but the queue of waiting commands. -/
def exec (i : Instr) (s : State) : Host.Outcome State Fault Refusal :=
  match i with
  | .setParam number value => Sys2Proof.Machine.execSetParam number value s
  | .getParam number => Sys2Proof.Machine.execGetParam number s
  | .move kind arg => Sys2Proof.Machine.execMove kind arg s
  | .haltMotion => Sys2Proof.Machine.execHaltMotion s
  | .blank => Sys2Proof.Machine.execBlank s
  | .getTray => Sys2Proof.Machine.execGetTray s
  | .fade target duration curve => Sys2Proof.Machine.execFade target duration curve s
  | .setCurve points => Sys2Proof.Machine.execSetCurve points s
  | .setResponse points => Sys2Proof.Machine.execSetResponse points s
  | .getLight selector => Sys2Proof.Machine.execGetLight selector s
  | .lampOn => Sys2Proof.Machine.execLampOn s
  | .lampOff => Sys2Proof.Machine.execLampOff s
  | .setLampRecord lamp wear life => Sys2Proof.Machine.execSetLampRecord lamp wear life s
  | .getLamps => Sys2Proof.Machine.execGetLamps s
  | .temperature value => Sys2Proof.Machine.execTemperature value s
  | .getThermal => Sys2Proof.Machine.execGetThermal s
  | .loadCue number slot count actions => Sys2Proof.Machine.execLoadCue number slot count actions s
  | .deleteCue number => Sys2Proof.Machine.execDeleteCue number s
  | .clearCues => Sys2Proof.Machine.execClearCues s
  | .getCue selector value => Sys2Proof.Machine.execGetCue selector value s
  | .showStart slot loops => Sys2Proof.Machine.execShowStart slot loops s
  | .showPause => Sys2Proof.Machine.execShowPause s
  | .showResume => Sys2Proof.Machine.execShowResume s
  | .showStop => Sys2Proof.Machine.execShowStop s
  | .getShow => Sys2Proof.Machine.execGetShow s
  | .tapePlay => Sys2Proof.Machine.execTapePlay s
  | .tapePause => Sys2Proof.Machine.execTapePause s
  | .tapeStop => Sys2Proof.Machine.execTapeStop s
  | .tapeFastFwd => Sys2Proof.Machine.execTapeFastFwd s
  | .tapeRewind => Sys2Proof.Machine.execTapeRewind s
  | .volume volume ramp => Sys2Proof.Machine.execVolume volume ramp s
  | .getCueStats => Sys2Proof.Machine.execGetCueStats s
  | .clearCueStats => Sys2Proof.Machine.execClearCueStats s
  | .keyPress code => Sys2Proof.Machine.execKeyPress code s
  | .keyHold code => Sys2Proof.Machine.execKeyHold code s
  | .keyRelease code => Sys2Proof.Machine.execKeyRelease code s
  | .setKeymap start functions => Sys2Proof.Machine.execSetKeymap start functions s
  | .getFaults => Sys2Proof.Machine.execGetFaults s
  | .clearFaults => Sys2Proof.Machine.execClearFaults s
  | .setReportEnables values => Sys2Proof.Machine.execSetReportEnables values s
  | .reportsOff => Sys2Proof.Machine.execReportsOff s
  | .reportsOn => Sys2Proof.Machine.execReportsOn s
  | .standby => Sys2Proof.Machine.execStandby s
  | .wake => Sys2Proof.Machine.execWake s
  | .reset => Sys2Proof.Machine.execReset s
  | .getStatus => Sys2Proof.Machine.execGetStatus s
  | .powerOn => Sys2Proof.Machine.execPowerOn s
  | .resetPin => Sys2Proof.Machine.execResetPin s
  | .softReset => Sys2Proof.Machine.execSoftReset s
  | .frameReceived frame => Sys2Proof.Machine.execFrameReceived frame s
  | .framingError => Sys2Proof.Machine.execFramingError s
  | .gapTimerExpiry => Sys2Proof.Machine.execGapTimerExpiry s
  | .takeFrame => Sys2Proof.Machine.execTakeFrame s
  | .placeOverrunReply => Sys2Proof.Machine.execPlaceOverrunReply s
  | .transmitDone => Sys2Proof.Machine.execTransmitDone s
  | .trayRemoval => Sys2Proof.Machine.execTrayRemoval s
  | .trayInsertion => Sys2Proof.Machine.execTrayInsertion s
  | .takeEntry => Sys2Proof.Machine.execTakeEntry s
  | .settleExpiry => Sys2Proof.Machine.execSettleExpiry s
  | .gateUp active => Sys2Proof.Machine.execGateUp active s
  | .liftTimeout => Sys2Proof.Machine.execLiftTimeout s
  | .liftReleaseExpiry => Sys2Proof.Machine.execLiftReleaseExpiry s
  | .indexPulse home => Sys2Proof.Machine.execIndexPulse home s
  | .stepTimeout => Sys2Proof.Machine.execStepTimeout s
  | .slidePresent active => Sys2Proof.Machine.execSlidePresent active s
  | .dropTimeout => Sys2Proof.Machine.execDropTimeout s
  | .gateSeated active => Sys2Proof.Machine.execGateSeated active s
  | .seatTimeout => Sys2Proof.Machine.execSeatTimeout s
  | .fadeStep => Sys2Proof.Machine.execFadeStep s
  | .turretSensor lamp active => Sys2Proof.Machine.execTurretSensor lamp active s
  | .turretTimerExpiry => Sys2Proof.Machine.execTurretTimerExpiry s
  | .preheatExpiry => Sys2Proof.Machine.execPreheatExpiry s
  | .currentSenseActive lamp => Sys2Proof.Machine.execCurrentSenseActive lamp s
  | .checkExpiry => Sys2Proof.Machine.execCheckExpiry s
  | .retryWaitExpiry => Sys2Proof.Machine.execRetryWaitExpiry s
  | .burnoutWatchStart => Sys2Proof.Machine.execBurnoutWatchStart s
  | .currentSenseLost lamp => Sys2Proof.Machine.execCurrentSenseLost lamp s
  | .litTimeExpiry => Sys2Proof.Machine.execLitTimeExpiry s
  | .windowEnd => Sys2Proof.Machine.execWindowEnd s
  | .slewExpiry => Sys2Proof.Machine.execSlewExpiry s
  | .tachoPulse => Sys2Proof.Machine.execTachoPulse s
  | .fanStallTimerExpiry => Sys2Proof.Machine.execFanStallTimerExpiry s
  | .cooldownSecondExpiry => Sys2Proof.Machine.execCooldownSecondExpiry s
  | .blockTimerExpiry tones => Sys2Proof.Machine.execBlockTimerExpiry tones s
  | .holdTimerExpiry => Sys2Proof.Machine.execHoldTimerExpiry s
  | .tapeBeginSensor active => Sys2Proof.Machine.execTapeBeginSensor active s
  | .tapeEndSensor active => Sys2Proof.Machine.execTapeEndSensor active s
  | .brakePeriodEnd => Sys2Proof.Machine.execBrakePeriodEnd s
  | .stallTimerExpiry => Sys2Proof.Machine.execStallTimerExpiry s
  | .reelPulse => Sys2Proof.Machine.execReelPulse s
  | .rampTimerExpiry => Sys2Proof.Machine.execRampTimerExpiry s
  | .irFrame input => Sys2Proof.Machine.execIrFrame input s
  | .irRepeat => Sys2Proof.Machine.execIrRepeat s
  | .irTimingFault => Sys2Proof.Machine.execIrTimingFault s
  | .releaseTimerExpiry => Sys2Proof.Machine.execReleaseTimerExpiry s
  | .autoRepeatExpiry => Sys2Proof.Machine.execAutoRepeatExpiry s
  | .focusTimerExpiry => Sys2Proof.Machine.execFocusTimerExpiry s
  | .clearTimerExpiry => Sys2Proof.Machine.execClearTimerExpiry s
  | .secondsTick => Sys2Proof.Machine.execSecondsTick s
  | .byteReceived byte => Sys2Proof.Machine.execByteReceived byte s
  | .resetPinRelease => Sys2Proof.Machine.execResetPinRelease s
  | .backupSupplyLoss => Sys2Proof.Machine.execBackupSupplyLoss s
  | .mainPowerLoss => Sys2Proof.Machine.execMainPowerLoss s

end Sys2Proof.Machine
end

