-- ==== Sys2Proof/Safety.lean ====
section
/-! DEFINITION. What the spec says always holds of the part, as decidable predicates on its state; and the words the
statements use: the parts of the state, what a command leaves alone, a request answered, commands in a row. -/

namespace Sys2Proof.Safety

open Sys2Proof.Machine

/-- The link's bounds: R199, R200, R201, R202, R210. -/
def linkBounds (l : Link) : Bool :=
  decide (l.holding.length ≤ 4) && l.holding.all (fun h => decide (h.trailing ≤ 255)) && decide (l.owed ≤ 255) &&
    decide (l.path.length ≤ 2) && decide (l.reports.length ≤ 16) && decide (l.framing ≤ 65535) &&
    decide (l.gaps ≤ 65535) && decide (l.badChecks ≤ 65535) && decide (l.overruns ≤ 65535) &&
    decide (l.lostReports ≤ 65535)

/-- The motion queue holds at most 8 entries, and an ACTIVE entry is the head (R29). -/
def queueShape (q : List Motion) : Bool := decide (q.length ≤ 8) && (q.drop 1).all fun m => !m.active

/-- An entry is ACTIVE exactly while a cycle record exists, and the record is that entry's (R7, R30). -/
def cycleMatches (s : State) : Bool :=
  match s.tgc.cycle, s.mq with
  | none, q => q.all fun m => !m.active
  | some _, [] => false
  | some c, m :: _ => m.active && decide (c.move = m.move) && decide (c.source = m.source) && decide (c.tag = m.tag)

/-- Occupancy map entry 0 is EMPTY (R3). -/
def loadGapEmpty (s : State) : Bool := decide (s.retained.map[0] = .empty)

/-- The shutter is as R5 commands it. -/
def shutterRule (s : State) : Bool := s.tgc.shutter == s.shutterOpen

/-- The applied level is at most the effective ceiling, and with no lamp LIT it is 0, and so is D (R56, R57). -/
def lightRule (s : State) : Bool :=
  decide (s.fe.applied ≤ s.thu.effective) && (s.litLamp.isSome || (s.fe.applied == 0 && s.fe.drive == 0))

/-- Whether a lamp burns or is being struck. -/
def burning (r : LampRecord) : Bool := r.state == .lit || r.state == .striking

/-- At most one lamp is LIT or STRIKING, it is the one at the turret position, and none is while the turret is MOVING
or the Thermal Unit is in TRIP (R70). -/
def lampRule (s : State) : Bool :=
  (!(burning s.retained.lampA) || (s.ltc.position == .facing .a && s.thu.state != .trip)) &&
    (!(burning s.retained.lampB) || (s.ltc.position == .facing .b && s.thu.state != .trip))

/-- The strike sequence and the records it works on stand together (section 4.3): IDLE has no origin left to answer,
and a strike is to follow in TURNING alone (R88; log 42). -/
def strikeRule (s : State) : Bool :=
  match s.ltc.strike.phase with
  | .idle =>
    s.ltc.target.isNone && s.strikingLamp.isNone && s.ltc.strike.origins.isEmpty && !s.ltc.strike.follow &&
      !s.ltc.strike.retried
  | .turning =>
    decide (s.ltc.target = some s.ltc.strike.lamp) && s.ltc.position == .moving && s.strikingLamp.isNone &&
      s.litLamp.isNone && (!s.ltc.strike.follow || !s.thu.bars)
  | .preheat | .check | .retryWait =>
    s.ltc.target.isNone && decide (s.strikingLamp = some s.ltc.strike.lamp) && s.litLamp.isNone &&
      !s.ltc.strike.follow

/-- The fan turns with a command of 30..100, or stands; it turns while a lamp burns or a cool-down is active, at 100
when BLIND; the monitor is IDLE exactly when it stands (R100, R101). -/
def fanRule (s : State) : Bool :=
  (s.thu.fan == 0 || (decide (30 ≤ s.thu.fan) && decide (s.thu.fan ≤ 100))) &&
    (!s.power.powered || s.power.mode == .standby || !s.lampDuty ||
      (decide (30 ≤ s.thu.fan) && (s.thu.seeing || s.thu.fan == 100))) &&
    (decide (s.thu.fan = 0) == decide (s.thu.monitor = .idle))

/-- The ceilings' bounds (R98, R99). -/
def ceilingRule (s : State) : Bool :=
  decide (s.thu.effective ≤ s.thu.target) && decide (s.thu.target ≤ 1000) &&
    (s.thu.seeing || decide (s.thu.effective ≤ 400)) && (s.thu.state != .hot || decide (s.thu.effective ≤ 400)) &&
    (s.thu.state != .trip || s.thu.effective == 0)

/-- The decoder's gate is OPEN exactly in PLAY (R109). -/
def gateRule (s : State) : Bool := s.cdec.gateOpen == (s.tac.state == .play)

/-- The tape plays only while the show is RUNNING or STOPPED (R153). -/
def playRule (s : State) : Bool := s.tac.state != .play || s.shc.state == .running || s.shc.state == .stopped

/-- A brake period runs in STOPPED alone, and an order waits for one alone (R153, R154, R155). -/
def tapeRule (t : Tac) : Bool :=
  (t.brake.isNone || t.state == .stopped) && (t.order.isNone || t.brake.isSome) && (!t.stallBrake || t.brake.isSome)

/-- Outside PLAY the applied step is 0 and no ramp runs (R165). -/
def audioRule (s : State) : Bool := s.tac.state == .play || (s.tac.applied == 0 && s.tac.ramp.isNone)

/-- The return register is occupied only in EXCURSION (R147), and so is the returning flag set. -/
def registerRule (s : State) : Bool :=
  s.shc.state == .excursion || (s.shc.register == .empty && !s.shc.returning)

/-- The cue table: at most 128 entries, strictly ascending, the pointer within them (R123). -/
def cueRule (s : State) : Bool :=
  decide (s.retained.cues.length ≤ 128) && ascending s.retained.cues && s.retained.cues.all (·.ok) &&
    decide (s.shc.pointer ≤ s.retained.cues.length)

/-- The Show Controller's lists and records: an item of the issued-move list for each entry of the show's in the
queue, a held record exactly in HELD, with a state that it can return to, a stop reason exactly in STOPPED (R127, R134,
R141, R144). -/
def showRule (s : State) : Bool :=
  decide (s.shc.cues.length ≤ 4) &&
    decide (s.shc.issued.length = (s.mq.filter fun m => m.source == .theShow).length) &&
    (match s.shc.held with
      | none => s.shc.state != .held
      | some h => s.shc.state == .held && h.resume.heedsFaults && h.resume != .excursion) &&
    (s.shc.stopReason.isSome == (s.shc.state == .stopped))

/-- A CUT restores a level of 0..1000 over 0..5000 ms and makes a change that a cue entry can carry (R123, R139). -/
def cutRule (c : Shc) : Bool :=
  c.cut.all fun k => decide (k.restore ≤ 1000) && decide (k.inMs ≤ 5000) && changeOk k.move

/-- Keys in strictly ascending order. -/
def keysAscend : List Nat → Bool
  | a :: b :: rest => decide (a < b) && keysAscend (b :: rest)
  | _ => true

/-- The later-fault set is non-empty only while the first-fault record is occupied (R187); the pending set holds one
member for a code or class, so 39 at most, in the order of the release (R193, R194); the counters' bounds (R186,
R187). -/
def faultRule (s : State) : Bool :=
  (s.flt.first.isSome || (s.flt.later.isEmpty && s.flt.laterCount == 0 && s.flt.sticky.isEmpty)) &&
    decide (s.flt.laterCount ≤ 255) && keysAscend (s.flt.waiting.map (·.body.key)) &&
    decide (s.flt.waiting.length ≤ 39) && decide (s.flt.seconds ≤ 65535)

/-- The thermal state is the band of the last reading, UNREAD with none (R95), and the target ceiling is the one that
state and report status call for (R98). -/
def bandRule (u : Thu) : Bool :=
  (match u.reading with
    | none => u.state == .unread
    | some t => u.state == thermalBand t) && u.target == u.targetFor

/-- Codes in catalogue order, without duplicates. -/
def catalogueOrder (l : List FaultCode) : Prop := l.Pairwise fun a b => a.index < b.index

/-- The fault sets (R187, R188): both in catalogue order, the later-fault set empty while there is no first fault, and
the sticky set the first fault's code together with the later-fault set. -/
def faultSets (f : Flt) : Prop :=
  catalogueOrder f.later ∧ catalogueOrder f.sticky ∧
    match f.first with
    | none => f.later = [] ∧ f.laterCount = 0 ∧ f.sticky = []
    | some x => ∀ c, c ∈ f.sticky ↔ c = x.code ∨ c ∈ f.later

/-- A pending USER table exists only while a USER fade is in flight, and is one that R62 lets in (R45, R63); a fade in
flight has a step to come, S and T lie within 0..1000, and I between S and T (R45, R51, R54). -/
def fadeRule (s : State) : Bool :=
  decide (s.fe.level ≤ 1000) && (s.fe.pendingUser.isNone || s.fe.userFade) &&
    s.fe.pendingUser.all (fun u => userOk u.toList) &&
    (match s.fe.fade with
      | none => true
      | some r =>
        decide (r.start ≤ 1000) && decide (r.target ≤ 1000) && decide (r.total ≤ 1500) &&
          decide (r.index < max r.total 1) &&
          decide (min r.start r.target ≤ s.fe.level) && decide (s.fe.level ≤ max r.start r.target))

/-- The retained ranges, lamps and cues apart, and those of a response table that waits (R204, R62, R64). -/
def retainedRule (s : State) : Bool :=
  userOk s.retained.user.toList && responseOk s.retained.response.toList && s.retained.params.ok &&
    s.fe.pendingResponse.all (fun u => responseOk u.toList)

/-- Without power, in STANDBY or held in reset, no lamp burns, the queue is empty and tape and show are STOPPED; without
power and in STANDBY the fan stands (R207, R210). -/
def restRule (s : State) : Bool :=
  (s.running || (!(burning s.retained.lampA) && !(burning s.retained.lampB) && s.mq.isEmpty &&
      s.tac.state == .stopped && s.shc.state == .stopped)) &&
    ((s.power.powered && s.power.mode != .standby) || s.thu.fan == 0)

/-- A wind-down has a step exactly while it lasts; it has stopped the show and the tape; in COOLING no lamp burns and no
strike is to follow (R205, R206). -/
def windRule (s : State) : Bool :=
  (s.power.step.isSome == (s.power.mode == .windingDown)) &&
    (s.power.mode != .windingDown ||
      (s.shc.state == .stopped && s.tac.state == .stopped && s.tac.order.isNone)) &&
    (s.power.step != some .cooling ||
      (!(burning s.retained.lampA) && !(burning s.retained.lampB) && !s.ltc.strike.follow))

/-- Everything above. -/
def inv (s : State) : Bool :=
  linkBounds s.link && queueShape s.mq && cycleMatches s && loadGapEmpty s && shutterRule s && lightRule s &&
    lampRule s && strikeRule s && fanRule s && ceilingRule s && gateRule s && playRule s && tapeRule s.tac &&
    audioRule s && registerRule s && cueRule s && showRule s && cutRule s.shc && faultRule s && fadeRule s &&
    retainedRule s && restRule s && windRule s

/-! ## The words of the statements -/

/-- An area of the state that a frame speaks of. `linkIn`: assembler, receive holding, OVERRUN replies owed, RESET
taken. `linkOut`: reply path, answer, transmitter, report queue, lost flag, lost-reports counter. `linkErrors`: the four
counters of receiving. `shutter` stands apart from the rest of the TGC, `causes` (the last-cause set) and `reporting`
(enables, switch, pending set) from the other fault records, `dimmer` from the rest of the FE, `watch` from the rest of
the LTC. -/
inductive Area where
  | pending | pins | position | map | lampA | lampB | cues | user | response | keymap | params | power
  | linkIn | linkOut | linkErrors | faults | causes | reporting | seconds | tgc | shutter | mq | fe | dimmer | ltc
  | watch | thu | cdec | shc | tac | rrx | free
  deriving DecidableEq, Repr

/-- Whether an area of `t` is as it is in `s`. -/
def Area.same (s t : State) : Area → Bool
  | .pending => t.pending == s.pending
  | .pins => t.pins == s.pins
  | .position => t.retained.position == s.retained.position
  | .map => t.retained.map == s.retained.map
  | .lampA => t.retained.lampA == s.retained.lampA
  | .lampB => t.retained.lampB == s.retained.lampB
  | .cues => t.retained.cues == s.retained.cues
  | .user => t.retained.user == s.retained.user
  | .response => t.retained.response == s.retained.response
  | .keymap => t.retained.keymap == s.retained.keymap
  | .params => t.retained.params == s.retained.params
  | .power => t.power == s.power
  | .linkIn =>
    t.link.rx == s.link.rx && t.link.holding == s.link.holding && t.link.owed == s.link.owed &&
      t.link.resetTaken == s.link.resetTaken
  | .linkOut =>
    t.link.path == s.link.path && t.link.answer == s.link.answer && t.link.tx == s.link.tx &&
      t.link.reports == s.link.reports && t.link.lost == s.link.lost && t.link.lostReports == s.link.lostReports
  | .linkErrors =>
    t.link.framing == s.link.framing && t.link.gaps == s.link.gaps && t.link.badChecks == s.link.badChecks &&
      t.link.overruns == s.link.overruns
  | .faults =>
    t.flt.first == s.flt.first && t.flt.later == s.flt.later && t.flt.laterCount == s.flt.laterCount &&
      t.flt.sticky == s.flt.sticky
  | .causes => t.flt.opener == s.flt.opener && t.flt.causes == s.flt.causes
  | .reporting =>
    t.flt.faultOn == s.flt.faultOn && t.flt.eventOn == s.flt.eventOn && t.flt.switchOn == s.flt.switchOn &&
      t.flt.waiting == s.flt.waiting
  | .seconds => t.flt.seconds == s.flt.seconds && t.flt.timer == s.flt.timer
  | .tgc => { t.tgc with shutter := s.tgc.shutter } == s.tgc
  | .shutter => t.tgc.shutter == s.tgc.shutter
  | .mq => t.mq == s.mq
  | .fe => { t.fe with dimmer := s.fe.dimmer } == s.fe
  | .dimmer => t.fe.dimmer == s.fe.dimmer
  | .ltc => { t.ltc with watch := s.ltc.watch } == s.ltc
  | .watch => t.ltc.watch == s.ltc.watch
  | .thu => t.thu == s.thu
  | .cdec => t.cdec == s.cdec
  | .shc => t.shc == s.shc
  | .tac => t.tac == s.tac
  | .rrx => t.rrx == s.rrx
  | .free => t.free == s.free

/-- From `s` to `t` nothing changes but, perhaps, the listed areas. -/
def onlyChanges (l : List Area) (s t : State) : Prop := ∀ p : Area, p ∉ l → p.same s t = true

/-- What stands at the end of every step stands in `s`: the shutter as R5 commands it, no idle transmitter with a frame
to send. -/
abbrev settled (s : State) : Prop := settle s = s

/-- A part that runs: powered, out of reset, not in STANDBY, and at the end of a step. -/
abbrev runs (s : State) : Prop := s.running = true ∧ settled s

/-- A part that is powered and out of reset, in STANDBY or not, at the end of a step. -/
abbrev alive (s : State) : Prop := s.live = true ∧ settled s

/-- A part that takes requests for every block: it runs, and no RESET has been taken (R200, R210). -/
abbrev takes (s : State) : Prop := runs s ∧ s.link.resetTaken = false

/-- `t` shows the answer `r` to the request `i`, under the reply kind of R200. -/
def answered (i : Instr) (r : Response) (t : State) : Prop := t.link.answer = some ⟨requestKind i + 0x80, r⟩

/-- What raising an event may change. -/
def reports : List Area := [.linkOut, .reporting]

/-- What raising a fault may change while the show is STOPPED. -/
def faultReports : List Area := [.linkOut, .reporting, .faults, .causes]

/-- The fault records of `t` are those of `s` with one more raising (R186 to R189). -/
def raised (c : FaultCode) (sv : Severity) (d : Detail) (s t : State) : Prop :=
  t.flt.first = (s.flt.record c sv d).first ∧ t.flt.later = (s.flt.record c sv d).later ∧
    t.flt.laterCount = (s.flt.record c sv d).laterCount ∧ t.flt.sticky = (s.flt.record c sv d).sticky ∧
    t.flt.causes = (s.flt.record c sv d).causes

/-- `t` is jammed: the drives off, no timer of the cycle, no cycle, gate load UNKNOWN, the queue empty (R19, R41). -/
def jammed (t : State) : Prop :=
  t.tgc.phase = .jammed ∧ t.tgc.motor = none ∧ t.tgc.lift = false ∧ t.tgc.timer = none ∧ t.tgc.cycle = none ∧
    t.tgc.gateLoad = .unknown ∧ t.tgc.shutter = false ∧ t.mq = []

/-- The show is STOPPED with an empty part list and no CUT, and no entry of the queue is the show's: what the notices
of R43 and R44 leave alone. -/
abbrev showAtRest (s : State) : Prop :=
  s.shc.state = .stopped ∧ s.shc.parts = .empty ∧ s.shc.cut = none ∧ ∀ m ∈ s.mq, m.source ≠ .theShow

/-- What a show stop makes of the show's moves (R40, R149): the WAITING ones leave the queue, the ACTIVE one is cancelled
where R23 lets it be and keeps its item of the issued-move list, the oldest. -/
def showMovesDiscarded (s t : State) : Prop :=
  t.mq = s.mq.filter (fun m => m.active || m.source != .theShow) ∧
    t.shc.issued = s.shc.issued.take (s.mq.filter fun m => m.active && m.source == .theShow).length ∧
    t.tgc = { s.tgc with
      cycle := s.tgc.cycle.map fun c =>
        if c.source = .theShow ∧ c.cancel = false ∧ c.cancellable s.tgc.phase = true then
          { c with cancel := true, cancelReason := .showStop }
        else c }

/-- What a soft reset leaves of `s` in `t` (R210 and each chapter's reset section): the retained section but for
burning lamps and a position lost with a turning tray; counter, volume and trip latch; a cool-down for a lamp that
burned. -/
def softlyReset (s t : State) : Prop :=
  t.power.mode = .active ∧ t.power.step = none ∧ t.power.startKind = .soft ∧ t.power.signature = .absent ∧
    t.link = Link.start ∧ t.flt = Flt.start ∧ t.mq = [] ∧ t.shc = Shc.start ∧ t.cdec = Cdec.start ∧
    t.rrx = Rrx.start ∧ t.fe.level = 0 ∧ t.fe.applied = 0 ∧ t.fe.fade = none ∧
    t.tgc.cycle = none ∧ t.tgc.blank = false ∧ t.tgc.gateLoad = .unknown ∧ t.tgc.lift = false ∧
    t.tgc.phase = (if s.pins.gateSeated then .ready else .unseated) ∧
    t.ltc.strike.phase = .idle ∧ t.ltc.target = none ∧ t.ltc.sub = 0 ∧
    t.thu.reading = none ∧ t.thu.state = .unread ∧ t.thu.effective = 400 ∧ t.thu.latch = s.thu.latch ∧
    t.thu.cooldown =
      (if s.litLamp.isSome ∨ s.strikingLamp.isSome ∨ s.thu.cooldown.isSome then some 0 else none) ∧
    t.tac.state = .stopped ∧ t.tac.order = none ∧ t.tac.counter = s.tac.counter ∧ t.tac.volume = s.tac.volume ∧
    (∀ d, s.tac.state.direction = some d ∨ (s.tac.state = .stopped ∧ s.tac.brake = some d) →
      t.tac.brake = some d) ∧
    (s.tac.state = .paused ∨ (s.tac.state = .stopped ∧ s.tac.brake = none) → t.tac.brake = some .forward) ∧
    t.retained.lampA = s.retained.lampA.atReset ∧ t.retained.lampB = s.retained.lampB.atReset ∧
    (s.pins.trayPresent = false → t.retained.position = .unknown ∧ t.retained.map = Retained.unseenMap) ∧
    (s.pins.trayPresent = true →
      t.retained.map = s.retained.map ∧
      t.retained.position =
        (if s.tgc.cycle.isSome ∧ (s.tgc.phase = .indexing ∨ s.tgc.phase = .homing) then .unknown
         else s.retained.position))

/-- The least and the greatest value of a parameter (R204). -/
def paramRange : Nat → Option (Nat × Nat)
  | 1 => some (0, 1)
  | 2 => some (0, 3)
  | 3 => some (100, 1000)
  | 4 => some (0, 200)
  | 5 => some (0, 1)
  | 6 => some (0, 200)
  | 7 => some (1, 8)
  | 8 => some (0, 1000)
  | 9 => some (0, 1)
  | 10 => some (0, 1)
  | 11 => some (0, 1)
  | 12 => some (0, 5000)
  | 13 => some (0, 5000)
  | 14 => some (0, 2000)
  | 15 => some (0, 31)
  | 16 => some (0, 2)
  | _ => none

/-- The decoder once its detectors have decided the block of `tones` (R110). -/
def heard (tones : List Tone) (s : State) : Cdec :=
  { s.cdec with f1 := detects 18500 s.retained.params.cueSensitivity tones,
                f2 := detects 26500 s.retained.params.cueSensitivity tones }

/-- In a part that runs, with the gate OPEN, the block of `tones` decides `b` about a burst and `w` about a word. -/
abbrev hears (tones : List Tone) (b : Option BurstEnd) (w : Option WordResult) (s : State) : Prop :=
  runs s ∧ s.cdec.timer = true ∧ s.cdec.gateOpen = true ∧ (heard tones s).decode.2 = (b, w)

/-- The last step of a fade of the show's is due: the fade step timer runs and the fade ends at its next expiry. -/
abbrev showFadeEnds (r : FadeRecord) (s : State) : Prop :=
  s.fe.timer = true ∧ s.fe.fade = some r ∧ r.origin = .theShow ∧ (r.total = 0 ∨ r.index + 1 = r.total)

/-- The gate's seating will end the cycle of the queue's head, an entry of the show's, as CHANGE_DONE, and `item` is
the issued move it belongs to (R15, R134). -/
abbrev showMoveEnds (m : Motion) (rest : List Motion) (item : Issued) (more : List Issued) (s : State) : Prop :=
  s.tgc.timer = some .seat ∧ s.mq = m :: rest ∧ m.source = .theShow ∧ s.shc.issued = item :: more ∧
    ∃ c, s.tgc.cycle = some c ∧ c.source = .theShow ∧ c.seatRetried = false ∧ c.homeFirst = false ∧ c.cancel = false

/-- The gate's seating will end the cycle `c` of the queue's head, an entry of the show's, completed or cancelled, and
`item` is the issued move it belongs to (R15, R37, R134). -/
abbrev showMoveLeaves (m : Motion) (rest : List Motion) (item : Issued) (more : List Issued) (c : CycleRecord)
    (s : State) : Prop :=
  s.tgc.timer = some .seat ∧ s.mq = m :: rest ∧ m.source = .theShow ∧ s.shc.issued = item :: more ∧
    s.tgc.cycle = some c ∧ c.source = .theShow ∧ (c.homeFirst = false ∨ c.cancel = true)

/-- Whether a raw change spec is one of R123's: ADVANCE or REVERSE 1..90, GOTO 0..90. -/
def rawChangeOk (kind value : Nat) : Bool :=
  ((kind == 1 || kind == 2) && decide (1 ≤ value) && decide (value ≤ 90)) || (kind == 3 && decide (value ≤ 90))

/-- Whether a raw action of a LOAD_CUE is of a kind and with fields that R123 lists. -/
def rawInRange : RawAction → Bool
  | .change k v => rawChangeOk k v
  | .fade target duration curve => decide (target ≤ 1000) && decide (duration ≤ 30000) && decide (curve ≤ 2)
  | .cut outMs inMs k v => decide (outMs ≤ 5000) && decide (inMs ≤ 5000) && rawChangeOk k v
  | .audio volume ramp => decide (volume ≤ 63) && decide (ramp ≤ 10000)
  | .pause hold => decide (1 ≤ hold) && decide (hold ≤ 600)
  | .unknown _ _ => false

/-- Whether a raw action is a CUT. -/
def rawCut : RawAction → Bool
  | .cut .. => true
  | _ => false

/-- Whether a raw action is a PAUSE. -/
def rawPause : RawAction → Bool
  | .pause _ => true
  | _ => false

/-- Whether a raw action is a FADE. -/
def rawFade : RawAction → Bool
  | .fade .. => true
  | _ => false

/-- What a completed cycle of the head leaves of the tray and the queue (R15). -/
def seated (rest : List Motion) (s t : State) : Prop :=
  t.tgc = { s.tgc with phase := .ready, motor := none, lift := false, timer := none, cycle := none
                       shutter := !s.tgc.blank } ∧ t.mq = rest

/-- Where a lift has taken the cycle `c` of the TGC record `g`, and the position with it (R9, R11, R12, R16, R17, R21,
R23): a relift, a cancelled gate and a GOTO to the slot at the gate drop, a HOME run turns until the home sensor, a
counted move, a GOTO and the one step of a skip-empty repeat index. -/
def lifted (g : Tgc) (c : CycleRecord) (s t : State) : Prop :=
  (c.seatRetried = true ∨ (c.move ≠ .home ∧ c.homeFirst = false ∧ c.cancel = true) →
    t.tgc = { g with phase := .dropping, lift := false, motor := none, timer := some .drop } ∧
    t.retained.position = s.retained.position) ∧
  (c.seatRetried = false → c.move = .home ∨ c.homeFirst = true →
    t.tgc = { g with phase := .homing, motor := some .forward, timer := some .step,
                     cycle := some { c with pulses := 0 } } ∧
    t.retained.position = .unknown) ∧
  (c.seatRetried = false → c.homeFirst = false → c.cancel = false → c.skipping = false →
    (∀ n, c.move = .advance n →
      t.tgc = { g with phase := .indexing, motor := some .forward, timer := some .step,
                       cycle := some { c with direction := some .forward, steps := n } } ∧
      t.retained.position = s.retained.position) ∧
    (∀ n, c.move = .back n →
      t.tgc = { g with phase := .indexing, motor := some .backward, timer := some .step,
                       cycle := some { c with direction := some .backward, steps := n } } ∧
      t.retained.position = s.retained.position) ∧
    ∀ p q, c.move = .goto q → s.retained.position = .known p →
      (p ≠ q →
        t.tgc = { g with phase := .indexing, motor := some (gotoWay p q).1, timer := some .step,
                         cycle := some { c with direction := some (gotoWay p q).1, steps := (gotoWay p q).2 } } ∧
        t.retained.position = s.retained.position) ∧
      (p = q →
        t.tgc = { g with phase := .dropping, lift := false, motor := none, timer := some .drop } ∧
        t.retained.position = s.retained.position)) ∧
  ∀ d, c.seatRetried = false → c.move ≠ .home → c.homeFirst = false → c.cancel = false → c.skipping = true →
    c.direction = some d →
    t.tgc = { g with phase := .indexing, motor := some d, timer := some .step,
                     cycle := some { c with direction := some d, steps := 1 } } ∧
    t.retained.position = s.retained.position

/-- The cycle `c` drops the gate as soon as it is up, with slot `p` at the gate (R9, R12, R16, R23). -/
abbrev dropsAt (c : CycleRecord) (p : Slot) : Prop :=
  c.seatRetried = true ∨ (c.move ≠ .home ∧ c.homeFirst = false ∧ c.cancel = true) ∨
    (c.move = .goto p ∧ c.homeFirst = false ∧ c.skipping = false)

/-- `t` has entered STANDBY: nothing moves, burns or waits, and the signature is written over what `s` retained
(R207). -/
def inStandby (s t : State) : Prop :=
  t.power = { s.power with mode := .standby, step := none, signature := .agrees } ∧ t.mq = [] ∧
    t.fe.level = 0 ∧ t.fe.fade = none ∧ t.fe.timer = false ∧ t.thu.fan = 0 ∧ t.thu.timers = false ∧
    t.tgc.shutter = false ∧ t.tgc.cycle = none ∧ t.cdec.timer = false ∧ t.ltc.timer = false ∧
    t.flt.timer = false ∧ t.rrx.held = none ∧ t.rrx.digits = [] ∧ t.tac.brake = none ∧ t.tac.order = none ∧
    t.retained.cues = s.retained.cues ∧ t.retained.params = s.retained.params

/-- What an AUDIO action or a VOLUME order leaves of the transport (R163, R164): the volume, and in PLAY a ramp toward
it of one step at a time, or the volume at once where the ramp is shorter than its steps. -/
def volumed (volume ramp : Nat) (s t : State) : Prop :=
  t.tac.volume = volume ∧ t.tac.state = s.tac.state ∧
    (s.tac.state ≠ .play → t.tac = { s.tac with volume := volume }) ∧
    (s.tac.state = .play → s.tac.applied = volume → t.tac.ramp = none ∧ t.tac.applied = s.tac.applied) ∧
    ∀ n, s.tac.state = .play → s.tac.applied + n = volume ∨ volume + n = s.tac.applied → 0 < n →
      (n ≤ ramp → t.tac.applied = s.tac.applied ∧ t.tac.ramp = some ⟨volume, ramp / n⟩) ∧
      (ramp < n → t.tac.applied = volume ∧ t.tac.ramp = none)

/-- The step tracker over a run of blocks, with what it decides, in order. -/
def trackAll : List Bool → Tracker → Tracker × List BurstEnd
  | [], t => (t, [])
  | on :: rest, t =>
    let r := trackAll rest (t.next on).1
    (r.1, (t.next on).2.toList ++ r.2)

/-- The word assembler over a run of blocks, with the quiet count before the first, and the words it completes. -/
def assembleAll : List Bool → Nat → Assembly → Assembly × List WordResult
  | [], _, w => (w, [])
  | on :: rest, quiet, w =>
    let r := assembleAll rest (nextQuiet on quiet) (w.next on quiet).1
    (r.1, (w.next on quiet).2.toList ++ r.2)

/-- The twelve bits of a cue number, most significant first. -/
def cueBits (n : Nat) : List Bool := (List.range 12).map fun i => n.testBit (11 - i)

/-- The sixty-four blocks of a clean cue word (R115 to R117): a start cell that sounds, the twelve bits of the number,
a cell that makes the number of sounding bits even, and two silent cells, four blocks to a cell. -/
def wordBlocks (n : Nat) : List Bool :=
  (true :: (cueBits n ++ [decide ((cueBits n).count true % 2 = 1), false, false])).flatMap (List.replicate 4)

/-- The timed elements of a frame (R168): leader mark and space, sixteen bits from the most significant, each a mark and
a space, and the last mark; every length in the middle of its range. -/
def frameElements (word : BitVec 16) : List IrElement :=
  [⟨true, 3600⟩, ⟨false, 1800⟩] ++
    ((List.range 16).flatMap fun i => [⟨true, 450⟩, ⟨false, if word.getMsbD i then 1350 else 450⟩]) ++ [⟨true, 450⟩]

/-- The commands of a list, one after another. -/
def execAll : List Instr → State → Host.Outcome State Fault Refusal
  | [], s => .next s
  | i :: rest, s =>
    match exec i s with
    | .next t => execAll rest t
    | .fault f => .fault f
    | .refused r => .refused r

end Sys2Proof.Safety
end

