-- ==== Sys2Proof/Certificates/Slice0/Obligations.lean ====
section
/-! DEFINITION. The statements for the provers, from the numbered rules of spec/. Each docstring names the rules it
speaks of; `onlyChanges` is the frame of each. -/

open Sys2Proof Sys2Proof.Machine Sys2Proof.Safety

/-! ## One step, starts and resets -/

/-- A step runs the command at the front of the queue with the queue's rest; on an empty queue the part idles (the
model's choice, log 1). -/
def Obligations.StepRunsFrontCommand : Prop :=
  (∀ (s : State) (i : Instr) (rest : List Instr),
    s.pending = i :: rest → step s = exec i (s.updPending fun _ => rest)) ∧
  ∀ s : State, s.pending = [] → step s = .next s

/-- Every command, in every state, answers a next state and leaves the commands that wait alone: the spec gives every
row an effect, and a part without power or held in reset passes it over (the model's choice, log 32). -/
def Obligations.EveryCommandCompletes : Prop :=
  ∀ (i : Instr) (s : State), ∃ t, exec i s = .next t ∧ t.pending = s.pending

/-- POWER_ON of a part without power (R209). With no agreeing signature and the inputs at rest it is a cold power-on
and the state is `State.reset`; with an agreeing one it is warm: the retained records are kept, but for lamps that
burned, a position that the home sensor does not confirm, and a tray that is not there. Without main power the part
stands still and its retained records stay; the backup supply's loss in STANDBY turns the signature against them, and
the wake that follows is cold (R208). The levels of the inputs at rest, what a part without power holds and what a lost
backup supply leaves are the model's choice (logs 2, 15, 16). -/
def Obligations.SuppliesDecideColdOrWarm : Prop :=
  (∀ s : State, s.power.powered = false → s.power.signature ≠ .agrees → s.pins = Pins.rest →
    s.tac.state = .stopped → s.tac.brake = none → s.ltc.strike.lamp = .a →
    exec .powerOn s = .next { State.reset with pending := s.pending, free := s.free }) ∧
  (∀ s : State, s.power.powered = false → s.power.signature = .agrees → s.pins.resetPin = false →
    ∃ t, exec .powerOn s = .next t ∧
      t.power = ⟨true, .active, none, .warm, .valid, .absent⟩ ∧ t.link = Link.start ∧ t.flt = Flt.start ∧
      t.mq = [] ∧ t.shc = Shc.start ∧ t.cdec = Cdec.start ∧ t.rrx = Rrx.start ∧ t.fe.level = 0 ∧
      t.retained.lampA = s.retained.lampA.atReset ∧ t.retained.lampB = s.retained.lampB.atReset ∧
      t.tgc.present = s.pins.trayPresent ∧ t.tgc.phase = (if s.pins.gateSeated then .ready else .unseated) ∧
      (s.pins.trayPresent = false →
        t.retained.position = .unknown ∧ t.retained.map = Retained.unseenMap) ∧
      (s.pins.trayPresent = true →
        t.retained.map = s.retained.map ∧
        ∀ p : Slot, s.retained.position = .known p →
          t.retained.position = (if decide (p = 0) = s.pins.home then .known p else .unknown)) ∧
      onlyChanges [.lampA, .lampB, .position, .map, .power, .linkIn, .linkOut, .linkErrors, .faults, .causes,
        .reporting, .seconds, .tgc, .shutter, .mq, .fe, .dimmer, .ltc, .watch, .thu, .cdec, .shc, .tac, .rrx] s t) ∧
  (∀ s : State, ∃ t, exec .mainPowerLoss s = .next t ∧ t.power = { s.power with powered := false } ∧
    t.mq = [] ∧ t.link = Link.start ∧ t.shc = Shc.start ∧ t.tgc.shutter = false ∧ t.fe.dimmer = 0 ∧
    t.thu.fan = 0 ∧ t.tac.state = .stopped ∧
    t.retained.lampA = s.retained.lampA.atReset ∧ t.retained.lampB = s.retained.lampB.atReset ∧
    onlyChanges [.lampA, .lampB, .power, .linkIn, .linkOut, .linkErrors, .faults, .causes, .reporting, .seconds,
      .tgc, .shutter, .mq, .fe, .dimmer, .ltc, .watch, .thu, .cdec, .shc, .tac, .rrx] s t) ∧
  (∀ s : State, s.power.powered = true → s.power.mode ≠ .standby → exec .backupSupplyLoss s = .next s) ∧
  ∀ s : State, s.live = true → s.power.mode = .standby → s.power.signature = .agrees →
    s.link.resetTaken = false →
    ∃ t u, exec .backupSupplyLoss s = .next t ∧ t.power.signature = .disagrees ∧ exec .wake t = .next u ∧
      answered .wake (okWith (.woken .invalid)) u ∧ u.power.mode = .active ∧ u.power.startKind = .wakeCold ∧
      u.power.outcome = .invalid ∧ u.power.signature = .absent ∧ u.retained.cues = [] ∧
      u.retained.params = Params.cold ∧ u.retained.user = straightTable ∧
      u.retained.response = defaultResponse ∧ u.retained.keymap = defaultKeymap ∧
      u.retained.lampA = .cold ∧ u.retained.lampB = .cold ∧ u.retained.position = .unknown

/-- SOFT_RESET, the reset pin's active edge, and the end of a RESET's reply make a soft reset (R210); where the pin
follows the reply's end at once, and where the reply ends with the pin active, there is one reset; the release of the
reset pin reads the sensors again and changes no retained record but by a tray that is not there (log 17). The outcome
a soft reset records for the signature is free (log 14), and the direction of its brake period is the one in which the
tape still runs (log 38). That a SOFT_RESET acts whenever the part is live, asked for or not, is deduced (log 33), and
that the frame on the line is cut off, with the transmitter idle, is the model's choice (log 44). -/
def Obligations.SoftResetsKeepRetained : Prop :=
  (∀ s : State, s.live = true → ∃ t, exec .softReset s = .next t ∧ softlyReset s t ∧
    onlyChanges [.lampA, .lampB, .position, .map, .power, .linkIn, .linkOut, .linkErrors, .faults, .causes,
      .reporting, .seconds, .tgc, .shutter, .mq, .fe, .dimmer, .ltc, .watch, .thu, .cdec, .shc, .tac, .rrx,
      .free] s t) ∧
  (∀ s : State, s.power.powered = true → ∃ t, exec .resetPin s = .next t ∧ softlyReset s t ∧
    t.pins = { s.pins with resetPin := true }) ∧
  (∀ (s : State) (r : Reply) (rest : List Reply) (part : Nat), s.live = true → s.link.resetTaken = true →
    s.link.tx = .reply part → s.link.path = r :: rest → replyParts r ≤ part + 1 → r.kind = 0xD2 →
    r.response.result = .ok → ∃ t, exec .transmitDone s = .next t ∧ softlyReset s t) ∧
  (∀ s t : State, s.live = true → exec .softReset s = .next t →
    exec .resetPin t = .next { t with pins := { t.pins with resetPin := true } }) ∧
  (∀ s : State, s.pins.resetPin = true → exec .transmitDone s = .next s ∧ exec .softReset s = .next s) ∧
  ∀ s : State, s.power.powered = true → s.pins.resetPin = true → s.pins.trayPresent = true →
    ∃ t, exec .resetPinRelease s = .next t ∧ t.pins = { s.pins with resetPin := false } ∧
      t.tgc.phase = (if s.pins.gateSeated then .ready else .unseated) ∧ t.tgc.present = true ∧
      t.ltc.position = s.pins.turretPosition ∧ t.tac.beginFlag = s.pins.tapeBegin ∧
      t.tac.endFlag = s.pins.tapeEnd ∧
      onlyChanges [.pins, .tgc, .shutter, .ltc, .watch, .tac, .linkOut] s t

/-! ## The link -/

/-- R203: what a host writes for a request, the part reads as that request, with every operand at every value its
field admits. The byte that stands for each name in a list is the model's choice where R203 lists names alone (logs 6,
36). -/
def Obligations.RequestLayoutsRoundTrip : Prop :=
  ∀ (i : Instr) (kind : Byte) (payload : List Byte), i.wf = true → encodeRequest i = some (kind, payload) →
    decodeRequest kind payload = .request i ∧ 1 ≤ kind.toNat ∧ kind.toNat ≤ 0x5F ∧ payload.length ≤ 48

/-- R198, R199: lead, count, kind, payload and check, received byte by byte in HUNT, become one held frame; a byte
outside a frame that is not the lead byte is skipped; a count above 48, a missing stop bit and a
gap inside a frame drop what was being received and are counted; a complete frame joins receive holding while fewer than
four are held, and otherwise is counted as an overrun on the newest held frame, and raises N1 outside STANDBY (R195). -/
def Obligations.ReceivingHoldsFramesOrCountsErrors : Prop :=
  (∀ (s : State) (kind check : Byte) (payload : List Byte), alive s → s.link.rx = .hunt → payload.length ≤ 48 →
    s.link.holding.length < 4 →
    ∃ t, execAll ((0xC3 :: BitVec.ofNat 8 payload.length :: kind :: (payload ++ [check])).map .byteReceived) s =
        .next t ∧
      t.link.holding = s.link.holding ++ [⟨⟨kind, payload, check⟩, 0⟩] ∧ t.link.rx = .hunt ∧
      onlyChanges [.linkIn] s t) ∧
  (∀ (s : State) (b : Byte), alive s → s.link.rx = .hunt → b ≠ 0xC3 → exec (.byteReceived b) s = .next s) ∧
  (∀ (s : State) (b : Byte), alive s → s.link.rx = .count → 48 < b.toNat →
    ∃ t, exec (.byteReceived b) s = .next t ∧ t.link.rx = .hunt ∧ t.link.framing = min (s.link.framing + 1) 65535 ∧
      t.link.holding = s.link.holding ∧ t.link.gaps = s.link.gaps ∧ onlyChanges [.linkIn, .linkErrors] s t) ∧
  (∀ s : State, alive s →
    ∃ t, exec .framingError s = .next t ∧ t.link.rx = .hunt ∧ t.link.framing = min (s.link.framing + 1) 65535 ∧
      t.link.holding = s.link.holding ∧ t.link.gaps = s.link.gaps ∧ onlyChanges [.linkIn, .linkErrors] s t) ∧
  (∀ s : State, alive s → s.link.rx ≠ .hunt →
    ∃ t, exec .gapTimerExpiry s = .next t ∧ t.link.rx = .hunt ∧ t.link.gaps = min (s.link.gaps + 1) 65535 ∧
      t.link.holding = s.link.holding ∧ t.link.framing = s.link.framing ∧ onlyChanges [.linkIn, .linkErrors] s t) ∧
  (∀ s : State, alive s → s.link.rx = .hunt → exec .gapTimerExpiry s = .next s) ∧
  (∀ (s : State) (f : Frame), alive s → s.link.holding.length < 4 →
    ∃ t, exec (.frameReceived f) s = .next t ∧ t.link.holding = s.link.holding ++ [⟨f, 0⟩] ∧
      t.link.rx = s.link.rx ∧ onlyChanges [.linkIn] s t) ∧
  (∀ (s : State) (f : Frame) (older : List HeldFrame) (newest : HeldFrame), alive s → s.power.mode ≠ .standby →
    s.link.holding = older ++ [newest] → 4 ≤ s.link.holding.length →
    ∃ t, exec (.frameReceived f) s = .next t ∧
      t.link.holding = older ++ [{ newest with trailing := min (newest.trailing + 1) 255 }] ∧
      t.link.overruns = min (s.link.overruns + 1) 65535 ∧ raised .linkOverrun .note .empty s t ∧
      onlyChanges (.linkIn :: .linkErrors :: faultReports) s t) ∧
  ∀ (s : State) (f : Frame) (older : List HeldFrame) (newest : HeldFrame), alive s → s.power.mode = .standby →
    s.link.holding = older ++ [newest] → 4 ≤ s.link.holding.length →
    ∃ t, exec (.frameReceived f) s = .next t ∧
      t.link.holding = older ++ [{ newest with trailing := min (newest.trailing + 1) 255 }] ∧
      t.link.overruns = min (s.link.overruns + 1) 65535 ∧ onlyChanges [.linkIn, .linkErrors] s t

/-- R200: taking the oldest held frame is running the row of the request it carries, with the frame out of holding;
the frame's trailing overruns are then owed (none after a RESET, R210). A frame that fails a check is answered with
the failure, under kind + 0x80 or 0xFF, and nothing acts on it. So is one whose TAPE order, KEY action or REPORTS
value names nothing, with BAD_VALUE (R161, R181; of REPORTS deduced, log 26), and with WRONG_STATE in STANDBY, where
every request but WAKE, RESET and GET_STATUS is answered so and changes nothing. A reply joins the reply path while
that holds fewer than two, and an idle transmitter starts it (R201). The rows act whether or not the reply path has
room (log 4), and what an idle transmitter starts it starts at the same event (log 5). -/
def Obligations.FramesAreTakenAndAnswered : Prop :=
  (∀ (s : State) (h : HeldFrame) (rest : List HeldFrame) (i : Instr), s.live = true → s.link.mayTake = true →
    s.link.holding = h :: rest → frameAgrees h.frame = true →
    decodeRequest h.frame.kind h.frame.payload = .request i →
    ∃ u, exec i (s.updLink fun l => { l with holding := rest }) = .next u ∧
      exec .takeFrame s = .next (u.updLink fun l => { l with owed := if l.resetTaken then 0 else h.trailing })) ∧
  (∀ (s : State) (h : HeldFrame) (rest : List HeldFrame), alive s → s.link.mayTake = true →
    s.link.holding = h :: rest →
    (frameAgrees h.frame = false →
      ∃ t, exec .takeFrame s = .next t ∧
        t.link.answer = some ⟨replyKind h.frame.kind, refuse .badCheck⟩ ∧
        t.link.path = s.link.path ++ [⟨replyKind h.frame.kind, refuse .badCheck⟩] ∧
        t.link.badChecks = min (s.link.badChecks + 1) 65535 ∧ t.link.holding = rest ∧
        t.link.owed = h.trailing ∧ onlyChanges [.linkIn, .linkOut, .linkErrors] s t) ∧
    (frameAgrees h.frame = true → decodeRequest h.frame.kind h.frame.payload = .unknownKind →
      ∃ t, exec .takeFrame s = .next t ∧
        t.link.answer = some ⟨replyKind h.frame.kind, refuse .unknownKind⟩ ∧
        t.link.path = s.link.path ++ [⟨replyKind h.frame.kind, refuse .unknownKind⟩] ∧ t.link.holding = rest ∧
        t.link.owed = h.trailing ∧ onlyChanges [.linkIn, .linkOut] s t) ∧
    (frameAgrees h.frame = true → decodeRequest h.frame.kind h.frame.payload = .badLength →
      ∃ t, exec .takeFrame s = .next t ∧
        t.link.answer = some ⟨replyKind h.frame.kind, refuse .badLength⟩ ∧
        t.link.path = s.link.path ++ [⟨replyKind h.frame.kind, refuse .badLength⟩] ∧ t.link.holding = rest ∧
        t.link.owed = h.trailing ∧ onlyChanges [.linkIn, .linkOut] s t) ∧
    (frameAgrees h.frame = true → decodeRequest h.frame.kind h.frame.payload = .unspelled →
      s.power.mode ≠ .standby →
      ∃ t, exec .takeFrame s = .next t ∧
        t.link.answer = some ⟨replyKind h.frame.kind, refuse .badValue⟩ ∧
        t.link.path = s.link.path ++ [⟨replyKind h.frame.kind, refuse .badValue⟩] ∧ t.link.holding = rest ∧
        t.link.owed = h.trailing ∧ onlyChanges [.linkIn, .linkOut] s t) ∧
    (frameAgrees h.frame = true → decodeRequest h.frame.kind h.frame.payload = .unspelled →
      s.power.mode = .standby →
      ∃ t, exec .takeFrame s = .next t ∧
        t.link.answer = some ⟨replyKind h.frame.kind, refuse .wrongState⟩ ∧
        t.link.path = s.link.path ++ [⟨replyKind h.frame.kind, refuse .wrongState⟩] ∧ t.link.holding = rest ∧
        t.link.owed = h.trailing ∧ onlyChanges [.linkIn, .linkOut] s t)) ∧
  (∀ (kind : Byte) (payload : List Byte), decodeRequest kind payload = .unspelled ↔
    (kind = 0x38 ∧ ∃ v : Byte, payload = [v] ∧ 4 < v.toNat) ∨
    (kind = 0x40 ∧ ∃ c v : Byte, payload = [c, v] ∧ 2 < v.toNat) ∨
    (kind = 0x4B ∧ ∃ v : Byte, payload = [v] ∧ 1 < v.toNat)) ∧
  (∀ (s : State) (i : Instr), alive s → s.power.mode = .standby → s.link.resetTaken = false →
    (encodeRequest i).isSome → lengthOk i = true → i ≠ .wake → i ≠ .reset → i ≠ .getStatus →
    ∃ t, exec i s = .next t ∧ answered i (refuse .wrongState) t ∧ onlyChanges [.linkOut] s t) ∧
  ∀ (s : State) (i : Instr), alive s → s.link.resetTaken = false → (encodeRequest i).isSome →
    ∃ (t : State) (r : Response), exec i s = .next t ∧ answered i r t ∧
      (s.link.path.length < 2 → t.link.path = s.link.path ++ [⟨requestKind i + 0x80, r⟩]) ∧
      (2 ≤ s.link.path.length → t.link.path = s.link.path) ∧
      (s.link.tx = .idle → t.link.tx = .reply 0)

/-- R200 to R202: an owed OVERRUN reply goes to the reply path while it has room; when a frame has been sent, the next
part of the reply follows, then the oldest reply, and a report only when no reply waits. That a report leaves the report
queue, and takes the lost flag as its mark, when the transmitter starts it is the model's choice (log 5). -/
def Obligations.RepliesAreSentInOrder : Prop :=
  (∀ s : State, alive s → s.link.owed ≠ 0 → s.link.path.length < 2 →
    ∃ t, exec .placeOverrunReply s = .next t ∧ t.link.owed = s.link.owed - 1 ∧
      t.link.path = s.link.path ++ [⟨0xFF, refuse .overrun⟩] ∧ t.link.holding = s.link.holding ∧
      onlyChanges [.linkIn, .linkOut] s t) ∧
  (∀ s : State, alive s → s.link.owed = 0 ∨ 2 ≤ s.link.path.length → exec .placeOverrunReply s = .next s) ∧
  (∀ (s : State) (sent r : Report) (mark : Bool) (rest : List Report), alive s → s.link.tx = .report sent mark →
    s.link.path = [] → s.link.reports = r :: rest →
    ∃ t, exec .transmitDone s = .next t ∧ t.link.tx = .report r s.link.lost ∧ t.link.reports = rest ∧
      t.link.lost = false ∧ t.link.path = [] ∧ onlyChanges [.linkOut] s t) ∧
  (∀ (s : State) (sent : Report) (mark : Bool), alive s → s.link.tx = .report sent mark → s.link.path ≠ [] →
    ∃ t, exec .transmitDone s = .next t ∧ t.link.tx = .reply 0 ∧ t.link.path = s.link.path ∧
      t.link.reports = s.link.reports ∧ onlyChanges [.linkOut] s t) ∧
  (∀ (s : State) (part : Nat) (r : Reply) (rest : List Reply), alive s → s.link.tx = .reply part →
    s.link.path = r :: rest → part + 1 < replyParts r →
    ∃ t, exec .transmitDone s = .next t ∧ t.link.tx = .reply (part + 1) ∧ t.link.path = r :: rest ∧
      t.link.reports = s.link.reports ∧ onlyChanges [.linkOut] s t) ∧
  ∀ (s : State) (part : Nat) (r q : Reply) (rest : List Reply), alive s → s.link.resetTaken = false →
    s.link.tx = .reply part → s.link.path = r :: q :: rest → replyParts r ≤ part + 1 →
    ∃ t, exec .transmitDone s = .next t ∧ t.link.tx = .reply 0 ∧ t.link.path = q :: rest ∧
      t.link.reports = s.link.reports ∧ onlyChanges [.linkOut] s t

/-! ## Reports -/

/-- A raising of an enabled code or class is queued at once with the switch ON and kept with it OFF, one member of the
pending set for each code or class, in catalogue order (R192, R193). 39 values of 0 or 1 replace the enables and drop
what they disable from the pending set (R191); ON releases the pending set in its order (R194); a second counts to
65535 (R186). Which byte means ON is the model's choice (log 6). -/
def Obligations.ReportsAreSentKeptOrReleased : Prop :=
  (∀ (b : ReportBody) (first : Bool) (s : State), b.enabled s.flt = false → report b first s = s) ∧
  (∀ (b : ReportBody) (first : Bool) (s : State), b.enabled s.flt = true → s.flt.switchOn = true →
    report b first s =
      s.updLink fun l =>
        if l.reports.length < 16 then { l with reports := l.reports ++ [⟨b, s.flt.seconds, 1, first⟩] }
        else { l with lostReports := min (l.lostReports + 1) 65535, lost := true }) ∧
  (∀ (b : ReportBody) (first : Bool) (s : State), b.enabled s.flt = true → s.flt.switchOn = false →
    report b first s =
      s.updFlt fun f => { f with waiting := addWaiting ⟨b, f.seconds, 1, first⟩ f.waiting }) ∧
  (∀ (r : Report) (l : List Report), l.Pairwise (fun a b => a.body.key < b.body.key) →
    (addWaiting r l).Pairwise (fun a b => a.body.key < b.body.key) ∧
    ∀ w : Report, w ∈ addWaiting r l ↔
      (w ∈ l ∧ w.body.key ≠ r.body.key) ∨
      (w = r ∧ ∀ x ∈ l, x.body.key ≠ r.body.key) ∨
      ∃ x ∈ l, x.body.key = r.body.key ∧
        w = { r with raisings := min (x.raisings + 1) 255, first := x.first || r.first }) ∧
  (∀ (s : State) (values : List Nat), takes s → values.length = 39 → (∀ v ∈ values, v = 0 ∨ v = 1) →
    ∃ t, exec (.setReportEnables values) s = .next t ∧
      (∀ i : Fin 30, t.flt.faultOn[i] = (values[i.val]? == some 1)) ∧
      (∀ i : Fin 9, t.flt.eventOn[i] = (values[30 + i.val]? == some 1)) ∧
      t.flt.waiting = s.flt.waiting.filter (fun w => w.body.enabled t.flt) ∧ t.flt.switchOn = s.flt.switchOn ∧
      answered (.setReportEnables values) (okWith (.enables t.flt.faultOn t.flt.eventOn)) t ∧
      onlyChanges [.reporting, .linkOut] s t) ∧
  (∀ (s : State) (values : List Nat), takes s → values.length = 39 → (∃ v ∈ values, 1 < v) →
    ∃ t, exec (.setReportEnables values) s = .next t ∧
      answered (.setReportEnables values) (refuse .badValue) t ∧ onlyChanges [.linkOut] s t) ∧
  (∀ (s : State) (values : List Nat), takes s → values.length ≠ 39 →
    ∃ t, exec (.setReportEnables values) s = .next t ∧
      answered (.setReportEnables values) (refuse .badLength) t ∧ onlyChanges [.linkOut] s t) ∧
  (∀ s : State, takes s → ∃ t, exec .reportsOff s = .next t ∧ t.flt.switchOn = false ∧
    t.flt.waiting = s.flt.waiting ∧ t.flt.faultOn = s.flt.faultOn ∧ t.flt.eventOn = s.flt.eventOn ∧
    answered .reportsOff (okWith .nothing) t ∧ onlyChanges [.reporting, .linkOut] s t) ∧
  (∀ s : State, takes s → s.flt.switchOn = false → s.link.reports.length + s.flt.waiting.length ≤ 16 →
    ∃ t, exec .reportsOn s = .next t ∧ t.flt.switchOn = true ∧ t.flt.waiting = [] ∧
      t.flt.faultOn = s.flt.faultOn ∧ t.flt.eventOn = s.flt.eventOn ∧
      t.link.reports = s.link.reports ++ s.flt.waiting ∧ t.link.lost = s.link.lost ∧
      answered .reportsOn (okWith (.released s.flt.waiting.length)) t ∧
      onlyChanges [.reporting, .linkOut] s t) ∧
  (∀ s : State, takes s → s.flt.switchOn = true →
    ∃ t, exec .reportsOn s = .next t ∧ answered .reportsOn (okWith (.released 0)) t ∧
      onlyChanges [.linkOut] s t) ∧
  ∀ s : State, runs s → s.flt.timer = true →
    ∃ t, exec .secondsTick s = .next t ∧ t.flt.seconds = min (s.flt.seconds + 1) 65535 ∧
      t.flt.timer = true ∧ onlyChanges [.seconds] s t

/-! ## Reads -/

/-- The requests that read: each is answered OK with what it reads, as it stands, and changes nothing but the reply
(R28, R66, R88, R105, R120, R126, R151, R196, R211); a selector, a cue number and an index that name nothing are
refused. A running hold timer's reading draws a free value (log 13).
-/
def Obligations.ReadsChangeOnlyTheReply : Prop :=
  ∀ s : State, takes s →
    (∃ t, exec .getTray s = .next t ∧
      answered .getTray (okWith (.tray s.tgc s.retained.position s.retained.map)) t ∧ onlyChanges [.linkOut] s t) ∧
    (∃ t, exec (.getLight 0) s = .next t ∧
      answered (.getLight 0) (okWith (.light s.fe s.litLamp.isSome)) t ∧ onlyChanges [.linkOut] s t) ∧
    (∃ t, exec (.getLight 1) s = .next t ∧
      answered (.getLight 1) (okWith (.curve s.retained.user)) t ∧ onlyChanges [.linkOut] s t) ∧
    (∃ t, exec (.getLight 2) s = .next t ∧
      answered (.getLight 2) (okWith (.pendingCurve s.fe.pendingUser)) t ∧ onlyChanges [.linkOut] s t) ∧
    (∃ t, exec (.getLight 3) s = .next t ∧
      answered (.getLight 3) (okWith (.curve smoothTable)) t ∧ onlyChanges [.linkOut] s t) ∧
    (∃ t, exec (.getLight 4) s = .next t ∧
      answered (.getLight 4) (okWith (.response s.retained.response s.fe.pendingResponse)) t ∧
      onlyChanges [.linkOut] s t) ∧
    (∃ t, exec .getLamps s = .next t ∧
      answered .getLamps
        (okWith (.lamps s.ltc s.retained.lampA s.retained.lampB s.pins.senseA s.pins.senseB)) t ∧
      onlyChanges [.linkOut] s t) ∧
    (∃ t, exec .getThermal s = .next t ∧ answered .getThermal (okWith (.thermal s.thu)) t ∧
      onlyChanges [.linkOut] s t) ∧
    (∃ t, exec .getCueStats s = .next t ∧
      answered .getCueStats (okWith (.cueStats s.cdec s.retained.params.cueSensitivity)) t ∧
      onlyChanges [.linkOut] s t) ∧
    (∃ t, exec .getFaults s = .next t ∧ answered .getFaults (okWith (.faults s.flt)) t ∧
      onlyChanges [.linkOut] s t) ∧
    (∃ t, exec .getStatus s = .next t ∧ answered .getStatus (okWith (.status s.status)) t ∧
      onlyChanges [.linkOut] s t) ∧
    (s.shc.hold = none → ∃ t, exec .getShow s = .next t ∧
      answered .getShow
        (okWith (.showRecord s.shc s.retained.cues.length (if s.shc.held.isSome then s.obstacles else []))) t ∧
      onlyChanges [.linkOut] s t) ∧
    (∀ h, s.shc.hold = some h → ∃ (t : State) (shown : Nat), exec .getShow s = .next t ∧ shown ≤ h ∧
      answered .getShow
        (okWith (.showRecord { s.shc with hold := some shown } s.retained.cues.length
          (if s.shc.held.isSome then s.obstacles else []))) t ∧
      onlyChanges [.linkOut, .free] s t) ∧
    (∀ (index : Nat) (e : CueEntry), s.retained.cues[index]? = some e →
      ∃ t, exec (.getCue 1 index) s = .next t ∧
        answered (.getCue 1 index)
          (okWith (.cue e (cueIndex e.number s.retained.cues) s.retained.cues.length)) t ∧
        onlyChanges [.linkOut] s t) ∧
    (∀ (index : Nat) (e : CueEntry), s.retained.cues[index]? = some e →
      (∀ x ∈ s.retained.cues.take index, x.number ≠ e.number) →
      ∃ t, exec (.getCue 0 e.number) s = .next t ∧
        answered (.getCue 0 e.number) (okWith (.cue e index s.retained.cues.length)) t ∧
        onlyChanges [.linkOut] s t) ∧
    (∀ number : Nat, (∀ e ∈ s.retained.cues, e.number ≠ number) →
      ∃ t, exec (.getCue 0 number) s = .next t ∧ answered (.getCue 0 number) (refuse .badValue) t ∧
        onlyChanges [.linkOut] s t) ∧
    (∀ selector value : Nat, 2 ≤ selector ∨ (selector = 1 ∧ s.retained.cues.length ≤ value) →
      ∃ t, exec (.getCue selector value) s = .next t ∧ answered (.getCue selector value) (refuse .badValue) t ∧
        onlyChanges [.linkOut] s t) ∧
    (∀ selector : Nat, 5 ≤ selector →
      ∃ t, exec (.getLight selector) s = .next t ∧ answered (.getLight selector) (refuse .badValue) t ∧
        onlyChanges [.linkOut] s t)

/-! ## Moves and the motion queue -/

/-- MOVE (R32 to R35): counts above 90 are clamped; a counted move of the host merges into a WAITING untagged entry of
the host's with its direction at the tail, and otherwise joins behind it, or finds a queue of 8 full; GOTO and HOME join
or find it full. -/
def Obligations.MoveJoinsOrMerges : Prop :=
  (∀ (s : State) (kind n : Nat) (new : Move), takes s → 1 ≤ n → n < 256 → s.mq = [] →
    (kind = 1 ∧ new = .advance (min n 90)) ∨ (kind = 2 ∧ new = .back (min n 90)) →
    ∃ t, exec (.move kind n) s = .next t ∧ t.mq = [⟨new, .link, none, false⟩] ∧
      answered (.move kind n) (okClamped (decide (90 < n)) (.moved false 1)) t ∧
      onlyChanges [.mq, .linkOut] s t) ∧
  (∀ (s : State) (p : Slot), takes s → s.mq.length < 8 →
    ∃ t, exec (.move 3 p.val) s = .next t ∧ t.mq = s.mq ++ [⟨.goto p, .link, none, false⟩] ∧
      answered (.move 3 p.val) (okWith (.moved false (s.mq.length + 1))) t ∧ onlyChanges [.mq, .linkOut] s t) ∧
  (∀ (s : State) (arg : Nat), takes s → s.mq.length < 8 →
    ∃ t, exec (.move 4 arg) s = .next t ∧ t.mq = s.mq ++ [⟨.home, .link, none, false⟩] ∧
      answered (.move 4 arg) (okWith (.moved false (s.mq.length + 1))) t ∧ onlyChanges [.mq, .linkOut] s t) ∧
  (∀ (s : State) (before : List Motion) (kind m n : Nat) (old new : Move), takes s → 1 ≤ n → n < 256 →
    (kind = 1 ∧ old = .advance m ∧ new = .advance (min (m + min n 90) 90)) ∨
      (kind = 2 ∧ old = .back m ∧ new = .back (min (m + min n 90) 90)) →
    s.mq = before ++ [⟨old, .link, none, false⟩] →
    ∃ t, exec (.move kind n) s = .next t ∧ t.mq = before ++ [⟨new, .link, none, false⟩] ∧
      answered (.move kind n) (okClamped (decide (90 < n)) (.moved true s.mq.length)) t ∧
      onlyChanges [.mq, .linkOut] s t) ∧
  (∀ (s : State) (before : List Motion) (tail : Motion) (kind n : Nat) (new : Move), takes s → 1 ≤ n → n < 256 →
    (kind = 1 ∧ new = .advance (min n 90)) ∨ (kind = 2 ∧ new = .back (min n 90)) →
    s.mq = before ++ [tail] →
    tail.active = true ∨ tail.source ≠ .link ∨ tail.tag ≠ none ∨
      (∀ m, tail.move ≠ (if kind = 1 then .advance m else .back m)) →
    (s.mq.length < 8 →
      ∃ t, exec (.move kind n) s = .next t ∧ t.mq = s.mq ++ [⟨new, .link, none, false⟩] ∧
        answered (.move kind n) (okClamped (decide (90 < n)) (.moved false (s.mq.length + 1))) t ∧
        onlyChanges [.mq, .linkOut] s t) ∧
    (8 ≤ s.mq.length →
      ∃ t, exec (.move kind n) s = .next t ∧ answered (.move kind n) (refuse .queueFull) t ∧
        onlyChanges [.linkOut] s t)) ∧
  (∀ (s : State) (p : Slot) (arg : Nat), takes s → 8 ≤ s.mq.length →
    ∃ t u, exec (.move 3 p.val) s = .next t ∧ answered (.move 3 p.val) (refuse .queueFull) t ∧
      onlyChanges [.linkOut] s t ∧
      exec (.move 4 arg) s = .next u ∧ answered (.move 4 arg) (refuse .queueFull) u ∧ onlyChanges [.linkOut] s u) ∧
  ∀ (s : State) (kind arg : Nat), takes s → moveOperand kind arg = none →
    ∃ t, exec (.move kind arg) s = .next t ∧ answered (.move kind arg) (refuse .badValue) t ∧
      onlyChanges [.linkOut] s t

/-- HALT_MOTION (R39): the WAITING entries leave, the ACTIVE one is cancelled where R23 lets it be, and the reply says
how many left and what became of the cancel; the show's own entries take their items of the issued-move list with them
(R134). Which row of R23 a seat retry within a HOME run follows is the model's choice (log 24). -/
def Obligations.HaltMotionEmptiesTheQueue : Prop :=
  (∀ s : State, takes s → showAtRest s → (∀ m ∈ s.mq, m.active = false) → s.tgc.cycle = none →
    ∃ t, exec .haltMotion s = .next t ∧ t.mq = [] ∧
      answered .haltMotion (okWith (.halted s.mq.length .nothing)) t ∧
      onlyChanges (.mq :: reports) s t) ∧
  (∀ s : State, takes s → (∀ m ∈ s.mq, m.active = false) → s.tgc.cycle = none →
    s.shc.issued.length = (s.mq.filter fun m => m.source == .theShow).length →
    (∀ x ∈ s.shc.issued, x.purpose = .change ∨ x.purpose = .step ∨ x.purpose = .resync) →
    ∃ t, exec .haltMotion s = .next t ∧ t.mq = [] ∧ t.shc = { s.shc with issued := [] } ∧
      answered .haltMotion (okWith (.halted s.mq.length .nothing)) t ∧
      onlyChanges (.mq :: .shc :: reports) s t) ∧
  ∀ (s : State) (m : Motion) (rest : List Motion) (c : CycleRecord), takes s → showAtRest s → s.mq = m :: rest →
    m.active = true → (∀ x ∈ rest, x.active = false) → s.tgc.cycle = some c →
    ∃ t, exec .haltMotion s = .next t ∧ t.mq = [m] ∧
      t.tgc.cycle = some { c with
        cancel := c.cancel || c.cancellable s.tgc.phase
        cancelReason :=
          if c.cancel = false ∧ c.cancellable s.tgc.phase = true then .halt else c.cancelReason } ∧
      answered .haltMotion
        (okWith (.halted rest.length (if c.cancel || c.cancellable s.tgc.phase then .taken else .notTaken))) t ∧
      onlyChanges (.mq :: .tgc :: reports) s t

/-! ## Tray and gate -/

/-- BLANK toggles the blank hold and the shutter follows (R5, R6); an insertion makes the tray PRESENT (R25); a removal
in READY with no slide in the gate forgets position and map, and one with a slide in it raises T7 as a NOTE (R24). -/
def Obligations.BlankAndTrayPresence : Prop :=
  (∀ s : State, takes s → ∃ t, exec .blank s = .next t ∧ t.tgc.blank = !s.tgc.blank ∧
    t.tgc.shutter = (s.tgc.phase == .ready && s.tgc.blank) ∧
    answered .blank (okWith (.blanked (!s.tgc.blank))) t ∧ t.tgc.phase = s.tgc.phase ∧
    onlyChanges [.tgc, .shutter, .linkOut] s t) ∧
  (∀ s : State, runs s → ∃ t, exec .trayInsertion s = .next t ∧
    t.pins = { s.pins with trayPresent := true } ∧ t.tgc = { s.tgc with present := true } ∧
    onlyChanges [.pins, .tgc] s t) ∧
  (∀ s : State, runs s → s.tgc.phase = .ready → s.tgc.gateLoad ≠ .slide →
    ∃ t, exec .trayRemoval s = .next t ∧ t.pins = { s.pins with trayPresent := false } ∧
      t.tgc = { s.tgc with present := false } ∧ t.retained.position = .unknown ∧
      t.retained.map = Retained.unseenMap ∧ onlyChanges [.pins, .tgc, .position, .map] s t) ∧
  ∀ s : State, runs s → s.tgc.phase = .ready → s.tgc.gateLoad = .slide →
    ∃ t, exec .trayRemoval s = .next t ∧ t.tgc = { s.tgc with present := false } ∧
      t.retained.position = .unknown ∧ t.retained.map = Retained.unseenMap ∧
      raised .trayRemoved .note { Detail.empty with slideInGate := true } s t ∧
      onlyChanges (.pins :: .tgc :: .position :: .map :: faultReports) s t

/-- TAKE_ENTRY (R7, R36): in READY, JAMMED or UNSEATED with the tray PRESENT a WAITING head becomes ACTIVE and its cycle
begins in CLOSING, with a HOME run ahead of it where R22 asks for one and the return register filled where R147 does; a
counted move in JAMMED or UNSEATED is refused; without a tray the head waits. -/
def Obligations.TakeEntryStartsOrRefuses : Prop :=
  (∀ (s : State) (m : Motion) (rest : List Motion), runs s → s.mq = m :: rest → m.active = false →
    s.tgc.present = true → s.tgc.phase = .ready ∨ s.tgc.phase = .jammed ∨ s.tgc.phase = .unseated →
    moveRefused m.move s.tgc.phase = false →
    ∃ t, exec .takeEntry s = .next t ∧ t.mq = { m with active := true } :: rest ∧ t.tgc.phase = .closing ∧
      t.tgc.timer = some .settle ∧ t.tgc.shutter = false ∧
      t.tgc.cycle =
        some (CycleRecord.start m (moveNeedsHome m.move s.tgc.phase s.retained.position)) ∧
      t.flt.opener = some (.changeCycle m.move m.source m.tag) ∧ t.flt.causes = [] ∧
      t.shc = { s.shc with register :=
        if m.source = .remote ∧ s.shc.state = .excursion ∧ s.shc.register = .empty ∧ s.shc.returning = false then
          match s.retained.position with
          | .known p => .known p
          | .unknown => .unknown
        else s.shc.register } ∧
      onlyChanges [.mq, .tgc, .shutter, .causes, .shc] s t) ∧
  (∀ (s : State) (m : Motion) (rest : List Motion), runs s → s.mq = m :: rest → m.active = false →
    s.tgc.present = true → moveRefused m.move s.tgc.phase = true → m.source ≠ .theShow →
    ∃ t, exec .takeEntry s = .next t ∧ t.mq = rest ∧ onlyChanges (.mq :: reports) s t) ∧
  (∀ (s : State) (m : Motion) (rest : List Motion) (item : Issued) (more : List Issued), runs s →
    s.mq = m :: rest → m.active = false → s.tgc.present = true → moveRefused m.move s.tgc.phase = true →
    m.source = .theShow → s.shc.issued = item :: more →
    item.purpose = .change ∨ item.purpose = .step ∨ item.purpose = .resync →
    ∃ t, exec .takeEntry s = .next t ∧ t.mq = rest ∧ t.shc = { s.shc with issued := more } ∧
      onlyChanges (.mq :: .shc :: reports) s t) ∧
  ∀ s : State, runs s → s.tgc.present = false ∨ s.mq = [] → exec .takeEntry s = .next s

/-- Three lift attempts (R8 to R10): the settle time's end turns the lift drive on for attempt 1; a timeout before the
third attempt releases it for 200 ms; the release's end begins the next attempt; a success at attempt 2 or 3 raises
T1. The phase after a lift (R9, R11, R12, R16, R17, R21, R23): a cancelled or relifted gate drops, a HOME run turns
the tray until the home sensor, a counted move or a GOTO indexes, a skip-empty repeat takes one step, a GOTO to the
slot at the gate drops. A sensor that is active already ends its phase at its beginning: the gate-up sensor a lift,
the home sensor a HOME run, the slide-present sensor a drop at any slot but 0. An inactive edge moves only the pin. A
GOTO takes the shorter way round the ring of 91, never more than 45 steps, and arrives (R12). -/
def Obligations.LiftChoosesThePhase : Prop :=
  (∀ (s : State) (c : CycleRecord), runs s → s.tgc.phase = .closing → s.tgc.timer = some .settle →
    s.tgc.cycle = some c → s.pins.gateUp = false →
    ∃ t, exec .settleExpiry s = .next t ∧
      t.tgc = { s.tgc with phase := .lifting, lift := true, timer := some .lift,
                           cycle := some { c with attempt := 1 } } ∧ onlyChanges [.tgc] s t) ∧
  (∀ (s : State) (c : CycleRecord), runs s → s.tgc.phase = .lifting → s.tgc.timer = some .lift →
    s.tgc.cycle = some c → c.attempt < 3 →
    ∃ t, exec .liftTimeout s = .next t ∧ t.tgc = { s.tgc with lift := false, timer := some .release } ∧
      onlyChanges [.tgc] s t) ∧
  (∀ (s : State) (c : CycleRecord), runs s → s.tgc.phase = .lifting → s.tgc.timer = some .release →
    s.tgc.cycle = some c → s.pins.gateUp = false →
    ∃ t, exec .liftReleaseExpiry s = .next t ∧
      t.tgc = { s.tgc with lift := true, timer := some .lift,
                           cycle := some { c with attempt := c.attempt + 1 } } ∧ onlyChanges [.tgc] s t) ∧
  (∀ (s : State) (c : CycleRecord), runs s → s.tgc.phase = .lifting → s.tgc.timer = some .lift →
    s.tgc.cycle = some c → s.pins.home = false →
    s.pins.slidePresent = false ∨ s.retained.position = .known 0 →
    ∃ t, exec (.gateUp true) s = .next t ∧ t.pins = { s.pins with gateUp := true } ∧ lifted s.tgc c s t ∧
      (c.attempt < 2 → onlyChanges [.pins, .tgc, .position] s t) ∧
      (2 ≤ c.attempt → raised .liftRetried .note (.atSlot s.slot) s t ∧
        onlyChanges (.pins :: .tgc :: .position :: faultReports) s t)) ∧
  (∀ (s : State) (c : CycleRecord), runs s → s.tgc.phase = .closing → s.tgc.timer = some .settle →
    s.tgc.cycle = some c → s.pins.gateUp = true → s.pins.home = false →
    s.pins.slidePresent = false ∨ s.retained.position = .known 0 →
    ∃ t, exec .settleExpiry s = .next t ∧
      lifted { s.tgc with lift := true, cycle := some { c with attempt := 1 } } { c with attempt := 1 } s t ∧
      onlyChanges [.tgc, .position] s t) ∧
  (∀ (s : State) (c : CycleRecord), runs s → s.tgc.phase = .lifting → s.tgc.timer = some .release →
    s.tgc.cycle = some c → 1 ≤ c.attempt → s.pins.gateUp = true → s.pins.home = false →
    s.pins.slidePresent = false ∨ s.retained.position = .known 0 →
    ∃ t, exec .liftReleaseExpiry s = .next t ∧
      lifted { s.tgc with lift := true, cycle := some { c with attempt := c.attempt + 1 } }
        { c with attempt := c.attempt + 1 } s t ∧
      raised .liftRetried .note (.atSlot s.slot) s t ∧ onlyChanges (.tgc :: .position :: faultReports) s t) ∧
  (∀ (s : State) (c : CycleRecord), runs s → s.tgc.phase = .lifting → s.tgc.timer = some .lift →
    s.tgc.cycle = some c → c.attempt < 2 →
    (s.pins.home = true → c.seatRetried = false → c.move = .home ∨ c.homeFirst = true →
      ∃ t, exec (.gateUp true) s = .next t ∧
        t.tgc = { s.tgc with phase := .dropping, lift := false, motor := none, timer := some .drop } ∧
        t.retained.position = .known 0 ∧ onlyChanges [.pins, .tgc, .position] s t) ∧
    (∀ p : Slot, s.pins.slidePresent = true → s.pins.gateSeated = false → s.retained.position = .known p →
      p ≠ 0 → dropsAt c p →
      ∃ t, exec (.gateUp true) s = .next t ∧
        t.tgc = { s.tgc with phase := .seating, lift := false, motor := none, timer := some .seat,
                             gateLoad := .slide } ∧
        t.retained.map = s.retained.map.set p.val .occupied p.isLt ∧ onlyChanges [.pins, .tgc, .map] s t)) ∧
  (∀ s : State, runs s → ∃ t, exec (.gateUp false) s = .next t ∧ t.pins = { s.pins with gateUp := false } ∧
    onlyChanges [.pins] s t) ∧
  ∀ p q : Slot, p ≠ q →
    (gotoWay p q).2 ≤ 45 ∧ 1 ≤ (gotoWay p q).2 ∧
    ((gotoWay p q).1 = .forward ↔ (q.val + 91 - p.val) % 91 ≤ 45) ∧
    (stepSlot (gotoWay p q).1)^[(gotoWay p q).2] p = q

/-- R2, R11, R21: an index pulse in INDEXING moves a KNOWN position one slot modulo 91 in the direction of the motor,
and the last one, or a cancel, drops the gate, which finds a slide at once where the slide-present sensor is active
already (R14); in HOMING the pulse that finds the home sensor gives position 0 and drops; in any other phase a pulse
moves nothing. -/
def Obligations.IndexPulsesMoveTheTray : Prop :=
  (∀ (s : State) (c : CycleRecord) (d : Direction) (home : Bool), runs s → s.tgc.phase = .indexing →
    s.tgc.cycle = some c → c.direction = some d → s.pins.slidePresent = false →
    ∃ t, exec (.indexPulse home) s = .next t ∧ t.pins = { s.pins with home := home } ∧
      (∀ p, s.retained.position = .known p → d = .forward → t.retained.position = .known (p + 1)) ∧
      (∀ p, s.retained.position = .known p → d = .backward → t.retained.position = .known (p - 1)) ∧
      (s.retained.position = .unknown → t.retained.position = .unknown) ∧
      (c.cancel = false → 1 < c.steps →
        t.tgc = { s.tgc with cycle := some { c with steps := c.steps - 1 } }) ∧
      (c.cancel = true ∨ c.steps ≤ 1 →
        t.tgc = { s.tgc with phase := .dropping, lift := false, motor := none, timer := some .drop,
                             cycle := some { c with steps := c.steps - 1 } }) ∧
      onlyChanges [.pins, .position, .tgc] s t) ∧
  (∀ (s : State) (c : CycleRecord) (d : Direction) (home : Bool) (p : Slot), runs s → s.tgc.phase = .indexing →
    s.tgc.cycle = some c → c.direction = some d → c.cancel = true ∨ c.steps ≤ 1 →
    s.retained.position = .known p → stepSlot d p ≠ 0 → s.pins.slidePresent = true → s.pins.gateSeated = false →
    ∃ t, exec (.indexPulse home) s = .next t ∧ t.retained.position = .known (stepSlot d p) ∧
      t.tgc = { s.tgc with phase := .seating, lift := false, motor := none, timer := some .seat, gateLoad := .slide,
                           cycle := some { c with steps := c.steps - 1 } } ∧
      t.retained.map = s.retained.map.set (stepSlot d p).val .occupied (stepSlot d p).isLt ∧
      onlyChanges [.pins, .position, .map, .tgc] s t) ∧
  (∀ (s : State) (c : CycleRecord), runs s → s.tgc.phase = .homing → s.tgc.cycle = some c →
    ∃ t, exec (.indexPulse true) s = .next t ∧ t.retained.position = .known 0 ∧
      t.tgc = { s.tgc with phase := .dropping, lift := false, motor := none, timer := some .drop } ∧
      onlyChanges [.pins, .position, .tgc] s t) ∧
  (∀ (s : State) (c : CycleRecord), runs s → s.tgc.phase = .homing → s.tgc.cycle = some c → c.pulses < 91 →
    ∃ t, exec (.indexPulse false) s = .next t ∧
      t.tgc = { s.tgc with cycle := some { c with pulses := c.pulses + 1 } } ∧
      onlyChanges [.pins, .tgc] s t) ∧
  ∀ (s : State) (home : Bool), runs s → s.tgc.phase ≠ .indexing → s.tgc.phase ≠ .homing →
    ∃ t, exec (.indexPulse home) s = .next t ∧ onlyChanges [.pins] s t

/-- R14, R17, R18: a slide found while the drop timer runs marks its slot OCCUPIED; a drop that finds none marks it
EMPTY, with T8 where it was OCCUPIED, and is repeated for a counted move with SKIP_EMPTY until 90 such drops raise T9.
At slot 0 the sensor is not consulted, the map stays, and a drop that is repeated is not counted; with the position
UNKNOWN the map stays, every drop that is repeated counts, and T9 names no slot. A gate-seated sensor that is active
already ends the cycle at the drop's end (R15), and a gate-up sensor the lift of a repeat at its beginning (R9). -/
def Obligations.DropsSetTheMap : Prop :=
  (∀ (s : State) (p : Slot), runs s → s.tgc.phase = .dropping → s.tgc.timer = some .drop →
    s.retained.position = .known p → p ≠ 0 → s.pins.gateSeated = false →
    ∃ t, exec (.slidePresent true) s = .next t ∧ t.pins = { s.pins with slidePresent := true } ∧
      t.tgc = { s.tgc with phase := .seating, timer := some .seat, gateLoad := .slide } ∧
      t.retained.map = s.retained.map.set p.val .occupied p.isLt ∧ onlyChanges [.pins, .tgc, .map] s t) ∧
  (∀ s : State, runs s → s.tgc.phase = .dropping → s.tgc.timer = some .drop → s.retained.position = .unknown →
    s.pins.gateSeated = false →
    ∃ t, exec (.slidePresent true) s = .next t ∧ t.pins = { s.pins with slidePresent := true } ∧
      t.tgc = { s.tgc with phase := .seating, timer := some .seat, gateLoad := .slide } ∧
      onlyChanges [.pins, .tgc] s t) ∧
  (∀ (s : State) (c : CycleRecord) (m : Motion) (rest : List Motion) (p : Slot), runs s → s.tgc.phase = .dropping →
    s.tgc.timer = some .drop → s.tgc.cycle = some c → c.seatRetried = false → c.homeFirst = false ∨ c.cancel = true →
    c.source ≠ .theShow → s.mq = m :: rest → m.source ≠ .theShow → s.retained.position = .known p → p ≠ 0 →
    s.pins.gateSeated = true →
    (∃ t, exec (.slidePresent true) s = .next t ∧ t.mq = rest ∧
      t.tgc = { s.tgc with phase := .ready, motor := none, lift := false, timer := none, cycle := none,
                           gateLoad := .slide, shutter := !s.tgc.blank } ∧
      t.retained.map = s.retained.map.set p.val .occupied p.isLt ∧
      onlyChanges (.pins :: .tgc :: .shutter :: .map :: .mq :: reports) s t) ∧
    (c.skips s.retained.params.skipEmpty = false → s.retained.map[p] ≠ .occupied →
      ∃ t, exec .dropTimeout s = .next t ∧ t.mq = rest ∧
        t.tgc = { s.tgc with phase := .ready, motor := none, lift := false, timer := none, cycle := none,
                             gateLoad := .empty, shutter := !s.tgc.blank } ∧
        t.retained.map = s.retained.map.set p.val .empty p.isLt ∧
        onlyChanges (.tgc :: .shutter :: .map :: .mq :: reports) s t)) ∧
  (∀ s : State, runs s → s.retained.position = .known 0 →
    ∃ t, exec (.slidePresent true) s = .next t ∧ onlyChanges [.pins] s t) ∧
  (∀ s : State, runs s → ∃ t, exec (.slidePresent false) s = .next t ∧
    t.pins = { s.pins with slidePresent := false } ∧ onlyChanges [.pins] s t) ∧
  (∀ (s : State) (c : CycleRecord) (p : Slot), runs s → s.tgc.phase = .dropping → s.tgc.timer = some .drop →
    s.tgc.cycle = some c → c.skips s.retained.params.skipEmpty = false → s.retained.position = .known p →
    p ≠ 0 → s.pins.gateSeated = false →
    ∃ t, exec .dropTimeout s = .next t ∧
      t.tgc = { s.tgc with phase := .seating, timer := some .seat, gateLoad := .empty } ∧
      t.retained.map = s.retained.map.set p.val .empty p.isLt ∧
      (s.retained.map[p] = .occupied → raised .slideMissing .note (.atSlot (some p)) s t ∧
        onlyChanges (.tgc :: .map :: faultReports) s t) ∧
      (s.retained.map[p] ≠ .occupied → onlyChanges [.tgc, .map] s t)) ∧
  (∀ (s : State) (c : CycleRecord), runs s → s.tgc.phase = .dropping → s.tgc.timer = some .drop →
    s.tgc.cycle = some c → s.retained.position = .known 0 ∨ s.retained.position = .unknown →
    (c.skips s.retained.params.skipEmpty = false → s.pins.gateSeated = false →
      ∃ t, exec .dropTimeout s = .next t ∧
        t.tgc = { s.tgc with phase := .seating, timer := some .seat, gateLoad := .empty } ∧
        onlyChanges [.tgc] s t) ∧
    (c.skips s.retained.params.skipEmpty = true → s.pins.gateUp = false →
      (s.retained.position = .known 0 → c.emptyDrops < 90 →
        ∃ t, exec .dropTimeout s = .next t ∧
          t.tgc = { s.tgc with phase := .lifting, lift := true, timer := some .lift, gateLoad := .empty,
                               cycle := some { c with skipping := true, attempt := 1 } } ∧
          onlyChanges [.tgc] s t) ∧
      (s.retained.position = .unknown → c.emptyDrops < 89 →
        ∃ t, exec .dropTimeout s = .next t ∧
          t.tgc = { s.tgc with phase := .lifting, lift := true, timer := some .lift, gateLoad := .empty,
                               cycle := some { c with emptyDrops := c.emptyDrops + 1, skipping := true,
                                                      attempt := 1 } } ∧
          onlyChanges [.tgc] s t))) ∧
  (∀ (s : State) (c : CycleRecord) (p : Slot), runs s → s.tgc.phase = .dropping → s.tgc.timer = some .drop →
    s.tgc.cycle = some c → c.skips s.retained.params.skipEmpty = true → s.retained.position = .known p →
    p ≠ 0 → c.emptyDrops < 89 →
    (s.pins.gateUp = false →
      ∃ t, exec .dropTimeout s = .next t ∧
        t.tgc = { s.tgc with phase := .lifting, lift := true, timer := some .lift, gateLoad := .empty,
                             cycle := some { c with emptyDrops := c.emptyDrops + 1, skipping := true,
                                                    attempt := 1 } } ∧
        t.retained.map = s.retained.map.set p.val .empty p.isLt ∧
        (s.retained.map[p] = .occupied → raised .slideMissing .note (.atSlot (some p)) s t ∧
          onlyChanges (.tgc :: .map :: faultReports) s t) ∧
        (s.retained.map[p] ≠ .occupied → onlyChanges [.tgc, .map] s t)) ∧
    ∀ d : Direction, s.pins.gateUp = true → c.homeFirst = false → c.direction = some d →
      s.retained.map[p] ≠ .occupied →
      ∃ t, exec .dropTimeout s = .next t ∧
        t.tgc = { s.tgc with phase := .indexing, lift := true, motor := some d, timer := some .step,
                             gateLoad := .empty,
                             cycle := some { c with emptyDrops := c.emptyDrops + 1, skipping := true, attempt := 1,
                                                    direction := some d, steps := 1 } } ∧
        t.retained.map = s.retained.map.set p.val .empty p.isLt ∧ onlyChanges [.tgc, .map] s t) ∧
  (∀ (s : State) (c : CycleRecord), runs s → s.shc.state = .stopped → s.tgc.phase = .dropping →
    s.tgc.timer = some .drop → s.tgc.cycle = some c → c.skips s.retained.params.skipEmpty = true →
    s.retained.position = .unknown → 89 ≤ c.emptyDrops → s.pins.gateSeated = false →
    ∃ t, exec .dropTimeout s = .next t ∧ t.tgc.phase = .seating ∧ t.tgc.gateLoad = .empty ∧
      raised .trayEmpty .halt (.atSlot none) s t ∧ onlyChanges (.tgc :: faultReports) s t) ∧
  ∀ (s : State) (c : CycleRecord) (p : Slot), runs s → s.shc.state = .stopped → s.tgc.phase = .dropping →
    s.tgc.timer = some .drop → s.tgc.cycle = some c → c.skips s.retained.params.skipEmpty = true →
    s.retained.position = .known p → p ≠ 0 → 89 ≤ c.emptyDrops → s.pins.gateSeated = false →
    ∃ t, exec .dropTimeout s = .next t ∧ t.tgc.phase = .seating ∧ t.tgc.gateLoad = .empty ∧
      t.retained.map = s.retained.map.set p.val .empty p.isLt ∧
      onlyChanges (.tgc :: .map :: faultReports) s t ∧
      (s.retained.map[p] ≠ .occupied → raised .trayEmpty .halt (.atSlot (some p)) s t) ∧
      (s.retained.map[p] = .occupied → .slideMissing ∈ t.flt.sticky ∧ .trayEmpty ∈ t.flt.sticky)

/-- R15, R16, R22, R37: the gate seated ends the cycle in READY, with the queue's head gone and the shutter as the
blank hold lets it; a HOME run ahead of an entry goes on to CLOSING; a seat timeout lifts the gate once more, and a
success after that raises T3. A change of the show's takes the oldest item of its issued-move list with it, and the
check that the item carries is made (R134, R136): a position that does not match raises C7 and, with RESYNC on, sends
the tray to the expected slot. A cancelled change of the show's abandons its check and, where it was the start GOTO of
a show with another part OUTSTANDING, fails that part (R130); an item that a stopped show left acts on nothing while
the show stays STOPPED. That an item acts by its purpose alone, whichever show issued it, is the model's choice (log 45).
-/
def Obligations.SeatingEndsTheCycle : Prop :=
  (∀ (s : State) (c : CycleRecord) (m : Motion) (rest : List Motion), runs s → s.tgc.phase = .seating →
    s.tgc.timer = some .seat → s.tgc.cycle = some c → c.seatRetried = false →
    c.homeFirst = false ∨ c.cancel = true → c.source ≠ .theShow → s.mq = m :: rest → m.source ≠ .theShow →
    ∃ t, exec (.gateSeated true) s = .next t ∧ t.pins = { s.pins with gateSeated := true } ∧
      t.tgc.phase = .ready ∧ t.tgc.cycle = none ∧ t.tgc.timer = none ∧ t.tgc.motor = none ∧
      t.tgc.lift = false ∧ t.tgc.shutter = !s.tgc.blank ∧ t.tgc.gateLoad = s.tgc.gateLoad ∧
      t.tgc.blank = s.tgc.blank ∧ t.tgc.present = s.tgc.present ∧ t.mq = rest ∧
      onlyChanges (.pins :: .tgc :: .shutter :: .mq :: reports) s t) ∧
  (∀ (s : State) (m : Motion) (rest : List Motion) (item : Issued) (more : List Issued), runs s →
    showMoveEnds m rest item more s →
    item.purpose = .change ∨ item.purpose = .step ∨ item.purpose = .resync →
    item.check = none ∨ (s.shc.state = .stopped ∨ s.shc.state = .starting ∨ s.shc.state = .looping) ∨
      (∃ (cue : Nat) (p : Slot), item.check = some ⟨cue, p.val⟩ ∧ s.retained.position = .known p) →
    ∃ t, exec (.gateSeated true) s = .next t ∧ seated rest s t ∧ t.shc = { s.shc with issued := more } ∧
      onlyChanges (.pins :: .tgc :: .shutter :: .mq :: .shc :: reports) s t) ∧
  (∀ (s : State) (m : Motion) (rest : List Motion) (item : Issued) (more : List Issued) (cue : Nat) (p : Slot),
    runs s → showMoveEnds m rest item more s →
    item.purpose = .change ∨ item.purpose = .step ∨ item.purpose = .resync →
    s.shc.state = .running ∨ s.shc.state = .paused ∨ s.shc.state = .held ∨ s.shc.state = .excursion →
    item.check = some ⟨cue, p.val⟩ → s.retained.position ≠ .known p → rest.length < 8 →
    ∃ t, exec (.gateSeated true) s = .next t ∧
      raised .syncLost .note { Detail.empty with cue := some cue, expected := some p.val,
                                                 position := some s.retained.position } s t ∧
      (s.retained.params.resync = false → seated rest s t ∧ t.shc = { s.shc with issued := more }) ∧
      (s.retained.params.resync = true → seated (rest ++ [⟨.goto p, .theShow, some cue, false⟩]) s t ∧
        t.shc = { s.shc with issued := more ++ [⟨.resync, none⟩] }) ∧
      onlyChanges (.pins :: .tgc :: .shutter :: .mq :: .shc :: faultReports) s t) ∧
  (∀ (s : State) (m : Motion) (rest : List Motion) (item : Issued) (more : List Issued) (c : CycleRecord), runs s →
    showMoveLeaves m rest item more c s → c.cancel = true ∨ (c.seatRetried = true ∧ item.check = none) →
    item.purpose = .change ∨ item.purpose = .step ∨ item.purpose = .resync ∨
      (item.purpose = .cutChange ∧ s.shc.cut = none) ∨
      (item.purpose = .excursionReturn ∧ s.shc.state ≠ .excursion) ∨
      ((item.purpose = .start ∨ item.purpose = .loopReturn) ∧ s.shc.state = .stopped ∧ s.shc.parts = .empty) →
    ∃ t, exec (.gateSeated true) s = .next t ∧ seated rest s t ∧ t.shc = { s.shc with issued := more } ∧
      (c.seatRetried = true → raised .seatRetried .note (.atSlot s.slot) s t ∧
        onlyChanges (.pins :: .tgc :: .shutter :: .mq :: .shc :: faultReports) s t) ∧
      (c.seatRetried = false → onlyChanges (.pins :: .tgc :: .shutter :: .mq :: .shc :: reports) s t)) ∧
  (∀ (s : State) (m : Motion) (rest : List Motion) (item : Issued) (more : List Issued) (c : CycleRecord)
    (parts : Parts), runs s → showMoveLeaves m rest item more c s → c.cancel = true → c.seatRetried = false →
    item.purpose = .start ∨ item.purpose = .loopReturn → s.shc.parts.goto = some .outstanding →
    parts = { s.shc.parts with goto := some .failed } → parts.outstanding = true →
    ∃ t, exec (.gateSeated true) s = .next t ∧ seated rest s t ∧
      t.shc = { s.shc with issued := more, parts := parts } ∧
      onlyChanges (.pins :: .tgc :: .shutter :: .mq :: .shc :: reports) s t) ∧
  (∀ (s : State) (c : CycleRecord) (m : Motion) (rest : List Motion), runs s → s.tgc.timer = some .seat →
    s.tgc.cycle = some c → c.seatRetried = true → c.homeFirst = false ∨ c.cancel = true → c.source ≠ .theShow →
    s.mq = m :: rest → m.source ≠ .theShow →
    ∃ t, exec (.gateSeated true) s = .next t ∧ seated rest s t ∧
      raised .seatRetried .note (.atSlot s.slot) s t ∧
      onlyChanges (.pins :: .tgc :: .shutter :: .mq :: faultReports) s t) ∧
  (∀ (s : State) (c : CycleRecord), runs s → s.tgc.phase = .seating → s.tgc.timer = some .seat →
    s.tgc.cycle = some c → c.homeFirst = true → c.cancel = false →
    ∃ t, exec (.gateSeated true) s = .next t ∧
      t.tgc = { s.tgc with phase := .closing, timer := some .settle,
                           cycle := some { c with homeFirst := false, attempt := 1, seatRetried := false,
                                                  emptyDrops := 0, pulses := 0 } } ∧
      (c.seatRetried = true → raised .seatRetried .note (.atSlot s.slot) s t ∧
        onlyChanges (.pins :: .tgc :: faultReports) s t) ∧
      (c.seatRetried = false → onlyChanges [.pins, .tgc] s t)) ∧
  (∀ s : State, runs s → ∃ t, exec (.gateSeated false) s = .next t ∧
    t.pins = { s.pins with gateSeated := false } ∧ onlyChanges [.pins] s t) ∧
  ∀ (s : State) (c : CycleRecord), runs s → s.tgc.phase = .seating → s.tgc.timer = some .seat →
    s.tgc.cycle = some c → c.seatRetried = false → s.pins.gateUp = false →
    ∃ t, exec .seatTimeout s = .next t ∧
      t.tgc = { s.tgc with phase := .lifting, lift := true, timer := some .lift,
                           cycle := some { c with seatRetried := true, attempt := 1 } } ∧
      onlyChanges [.tgc] s t

/-- Five ways into JAMMED (R10, R13, R16, R21, R24), each with its HALT, with the show at rest: the third lift timeout
T2, a step timeout T5 with the position lost, a seat timeout after the retry T4, the 92nd pulse without the home
sensor T6, a removal in a cycle T7. Each empties the queue (R41). In a show that runs or is paused, the HALT holds it
(R144) and the changes that the jam cancels take their items with them (R134); that HELD empties the return register
and clears the returning flag from RUNNING and PAUSED too is the model's choice, deduced (log 11). The fault is raised
before the queue is emptied (the model's choice, log 8). -/
def Obligations.JamsEmptyTheQueue : Prop :=
  (∀ (s : State) (c : CycleRecord), runs s → showAtRest s → s.tgc.timer = some .lift → s.tgc.cycle = some c →
    3 ≤ c.attempt → ∃ t, exec .liftTimeout s = .next t ∧ jammed t ∧ raised .gateJam .halt (.atSlot s.slot) s t ∧
      onlyChanges (.tgc :: .shutter :: .mq :: faultReports) s t) ∧
  (∀ s : State, runs s → showAtRest s → s.tgc.timer = some .step →
    ∃ t, exec .stepTimeout s = .next t ∧ jammed t ∧ raised .trayStall .halt (.atSlot s.slot) s t ∧
      t.retained.position = .unknown ∧ onlyChanges (.tgc :: .shutter :: .mq :: .position :: faultReports) s t) ∧
  (∀ (s : State) (c : CycleRecord), runs s → showAtRest s → s.tgc.timer = some .seat → s.tgc.cycle = some c →
    c.seatRetried = true →
    ∃ t, exec .seatTimeout s = .next t ∧ jammed t ∧ raised .seatFailed .halt (.atSlot s.slot) s t ∧
      onlyChanges (.tgc :: .shutter :: .mq :: faultReports) s t) ∧
  (∀ (s : State) (c : CycleRecord), runs s → showAtRest s → s.tgc.phase = .homing → s.tgc.cycle = some c →
    91 ≤ c.pulses → ∃ t, exec (.indexPulse false) s = .next t ∧ jammed t ∧ raised .homeNotFound .halt .empty s t ∧
      onlyChanges (.pins :: .tgc :: .shutter :: .mq :: faultReports) s t) ∧
  (∀ (s : State) (c : CycleRecord), runs s → s.shc.state = .running ∨ s.shc.state = .paused →
    s.shc.issued.length = (s.mq.filter fun m => m.source == .theShow).length →
    (∀ x ∈ s.shc.issued, x.purpose = .change ∨ x.purpose = .step ∨ x.purpose = .resync) →
    s.tgc.timer = some .lift → s.tgc.cycle = some c → 3 ≤ c.attempt →
    ∃ t, exec .liftTimeout s = .next t ∧ jammed t ∧ raised .gateJam .halt (.atSlot s.slot) s t ∧
      t.shc = { s.shc with state := .held, held := some ⟨false, .gateJam, s.shc.state⟩, register := .empty,
                           returning := false, issued := [] } ∧
      t.tac.state = (if s.tac.state = .play then .paused else s.tac.state) ∧
      onlyChanges (.tgc :: .shutter :: .mq :: .shc :: .tac :: .cdec :: faultReports) s t) ∧
  ∀ s : State, runs s → showAtRest s → s.tgc.phase ≠ .ready → s.tgc.phase ≠ .jammed →
    ∃ t, exec .trayRemoval s = .next t ∧ jammed t ∧ t.tgc.present = false ∧ raised .trayRemoved .halt .empty s t ∧
      t.retained.position = .unknown ∧ t.retained.map = Retained.unseenMap ∧
      onlyChanges (.pins :: .tgc :: .shutter :: .mq :: .position :: .map :: faultReports) s t

/-! ## Light -/

/-- FADE (R45, R47, R50): target and duration are clamped, the new fade starts at the intended level of the moment with
floor(duration / 20) steps, and the fade that it replaces ends, with a waiting USER table installed (R55, R63): one of
the host's or the handset's, of the show's outside a CUT and LOOPING, of a wind-down that a WAKE turned back; where it
replaces the fade of a wind-down with nothing lit, that ends in STANDBY (R206). -/
def Obligations.FadeRequestReplacesTheFade : Prop :=
  (∀ (s : State) (target duration curve : Nat) (c : Curve), takes s → curveOperand curve = some c →
    (∀ r, s.fe.fade = some r → r.origin = .link ∨ r.origin = .remote ∨
      (r.origin = .theShow ∧ s.shc.cut = none ∧ s.shc.parts.fade ≠ some .outstanding) ∨
      (r.origin = .power ∧ s.power.mode = .active)) →
    ∃ t, exec (.fade target duration curve) s = .next t ∧
      t.fe.fade = some ⟨s.fe.level, min target 1000, min duration 30000 / 20, 0, c, .link, none⟩ ∧
      t.fe.level = s.fe.level ∧ t.fe.applied = s.fe.applied ∧ t.fe.drive = s.fe.drive ∧
      (s.fe.fade.isSome → t.fe.pendingUser = none ∧
        t.retained.user = s.fe.pendingUser.getD s.retained.user) ∧
      (s.fe.fade = none → t.retained.user = s.retained.user) ∧
      answered (.fade target duration curve)
        (okClamped (decide (1000 < target) || decide (30000 < duration))
          (.fadeStarted s.fe.level (min duration 30000 / 20))) t ∧
      onlyChanges (.fe :: .user :: reports) s t) ∧
  (∀ (s : State) (target duration curve : Nat) (c : Curve) (r : FadeRecord), takes s →
    curveOperand curve = some c → s.fe.fade = some r → r.origin = .power → s.power.mode = .windingDown →
    s.power.step = some .fading → showAtRest s → s.ltc.strike.phase = .idle → s.litLamp = none →
    s.strikingLamp = none → s.thu.cooldown = none →
    ∃ t, exec (.fade target duration curve) s = .next t ∧
      t.power = { s.power with mode := .standby, step := none, signature := .agrees } ∧ t.fe.fade = none ∧
      t.fe.level = 0 ∧ t.fe.timer = false ∧ t.mq = [] ∧
      answered (.fade target duration curve)
        (okClamped (decide (1000 < target) || decide (30000 < duration))
          (.fadeStarted s.fe.level (min duration 30000 / 20))) t) ∧
  ∀ (s : State) (target duration curve : Nat), takes s → curveOperand curve = none →
    ∃ t, exec (.fade target duration curve) s = .next t ∧
      answered (.fade target duration curve) (refuse .badValue) t ∧ onlyChanges [.linkOut] s t

/-- FADE_STEP with no fade, or one of the host's or the handset's, of the show's outside a CUT and LOOPING, or of a
wind-down that a WAKE turned back (R46, R51, R55, R64): k grows by one and I is stage 3's level, the last step gives the
target exactly and ends the fade, a waiting response table is installed, and what is applied is within the ceiling. -/
def Obligations.FadeStepAdvancesTheFade : Prop :=
  ∀ s : State, runs s → s.fe.timer = true →
    (∀ r, s.fe.fade = some r → r.origin = .link ∨ r.origin = .remote ∨
      (r.origin = .theShow ∧ s.shc.cut = none ∧ s.shc.parts.fade ≠ some .outstanding) ∨
      (r.origin = .power ∧ s.power.mode = .active)) →
    ∃ t, exec .fadeStep s = .next t ∧
      (∀ r, s.fe.fade = some r → r.total ≠ 0 → r.index + 1 ≠ r.total →
        t.fe.fade = some { r with index := r.index + 1 } ∧
        t.fe.level = levelAt s.retained.params.rounding s.retained.user r (r.index + 1)) ∧
      (∀ r, s.fe.fade = some r → r.total = 0 ∨ r.index + 1 = r.total →
        t.fe.fade = none ∧ t.fe.level = r.target ∧ t.fe.pendingUser = none ∧
        t.retained.user = s.fe.pendingUser.getD s.retained.user) ∧
      (s.fe.fade = none → t.fe.fade = none ∧ t.fe.level = s.fe.level ∧ t.retained.user = s.retained.user) ∧
      t.retained.response = s.fe.pendingResponse.getD s.retained.response ∧ t.fe.pendingResponse = none ∧
      t.fe.applied ≤ t.fe.level ∧ t.fe.applied ≤ s.thu.effective ∧
      t.fe.applied ≤ s.retained.params.maxLevel ∧ (s.litLamp = none → t.fe.applied = 0 ∧ t.fe.drive = 0) ∧
      onlyChanges (.fe :: .dimmer :: .watch :: .response :: .user :: reports) s t

/-- R52. Stage 1 is not run for a cut: the one step of a fade of no steps gives its target (R51). -/
def Obligations.FadeProgressRunsToTheEnd : Prop :=
  (∀ k total : Nat, progress k total = 4096 * k / total) ∧
  (∀ j k total : Nat, 0 < total → j ≤ k → k ≤ total →
    progress j total ≤ progress k total ∧ progress k total ≤ 4096 ∧ progress total total = 4096 ∧
    progress 0 total = 0) ∧
  (∀ (s : State) (r : FadeRecord), runs s → s.fe.timer = true → s.fe.fade = some r → 1 < r.total → r.index = 0 →
    ∃ t, exec .fadeStep s = .next t ∧ t.fe.fade = some { r with index := 1 } ∧
      t.fe.level = levelAt s.retained.params.rounding s.retained.user r 1 ∧
      onlyChanges [.fe, .dimmer, .watch, .response] s t) ∧
  ∀ (s : State) (r : FadeRecord), runs s → s.fe.timer = true → s.fe.fade = some r → r.total = 0 →
    r.origin = .link ∨ r.origin = .remote →
    ∃ t, exec .fadeStep s = .next t ∧ t.fe.fade = none ∧ t.fe.level = r.target ∧
      onlyChanges (.fe :: .dimmer :: .watch :: .response :: .user :: reports) s t

/-- R53, R54: at every step of a fade, with any curve, any rounding and any USER table that R62 lets in, the level lies
between the fade's start and target, and the last step's level is the target. Stages 4 to 6 (R56 to R58): the ceiling
bounds what is applied, a level below the floor is dark with or without the keep-warm drive, a part with no lamp LIT
applies nothing, and the drive of a level applied is read from the response table, within its points and growing with
the level. That a lamp is dark by R57 alone, never with a floor of 0, is deduced (log 46). -/
def Obligations.LightStagesStayWithinTheirBounds : Prop :=
  (∀ (mode : Rounding) (user : Vector Nat 17) (r : FadeRecord) (k : Nat), userOk user.toList = true →
    k ≤ r.total → 0 < r.total →
    min r.start r.target ≤ levelAt mode user r k ∧ levelAt mode user r k ≤ max r.start r.target) ∧
  (∀ (mode : Rounding) (user : Vector Nat 17) (r : FadeRecord), levelAt mode user r r.total = r.target) ∧
  (∀ (p : Params) (table : Vector Nat 11) (effective : Nat) (f : Fe),
    f.stages p table effective false =
      { f with ceiling := min effective p.maxLevel, applied := 0, drive := 0, dark := false }) ∧
  (∀ (p : Params) (table : Vector Nat 11) (effective : Nat) (f : Fe),
    min f.level (min effective p.maxLevel) < p.floorLevel →
    f.stages p table effective true =
      { f with ceiling := min effective p.maxLevel, applied := 0,
               drive := (if p.keepwarm then p.keepwarmDrive else 0), dark := true }) ∧
  (∀ (p : Params) (table : Vector Nat 11) (effective : Nat) (f : Fe),
    p.floorLevel ≤ min f.level (min effective p.maxLevel) →
    f.stages p table effective true =
      { f with ceiling := min effective p.maxLevel, applied := min f.level (min effective p.maxLevel),
               drive := response table (min f.level (min effective p.maxLevel)), dark := false }) ∧
  ∀ (table : Vector Nat 11) (a b : Nat), responseOk table.toList = true → a ≤ b → b ≤ 1000 →
    response table a ≤ response table b ∧ response table b ≤ 1023 ∧
    (∀ j : Fin 11, response table (100 * j.val) = table[j])

/-- SET_CURVE and SET_RESPONSE (R62 to R64): a table is checked whole and then installed at once, or kept for the end of
the USER fade, or kept for the next fade step; a table that fails is refused and nothing changes. -/
def Obligations.TablesAreCheckedWhole : Prop :=
  (∀ (s : State) (points : List Nat), takes s → points.length = 17 → userOk points = true →
    s.fe.userFade = false →
    ∃ t, exec (.setCurve points) s = .next t ∧ t.retained.user.toList = points ∧
      answered (.setCurve points) (okWith .nothing) t ∧ onlyChanges [.user, .linkOut] s t) ∧
  (∀ (s : State) (points : List Nat), takes s → points.length = 17 → userOk points = true →
    s.fe.userFade = true →
    ∃ t, exec (.setCurve points) s = .next t ∧ t.fe.pendingUser.map (·.toList) = some points ∧
      t.fe.fade = s.fe.fade ∧ t.fe.level = s.fe.level ∧
      answered (.setCurve points) ⟨.ok, false, true, .nothing⟩ t ∧ onlyChanges [.fe, .linkOut] s t) ∧
  (∀ (s : State) (points : List Nat), takes s → points.length = 17 → userOk points = false →
    ∃ t, exec (.setCurve points) s = .next t ∧ answered (.setCurve points) (refuse .badCurve) t ∧
      onlyChanges [.linkOut] s t) ∧
  (∀ (s : State) (points : List Nat), takes s → points.length = 11 → responseOk points = true →
    ∃ t, exec (.setResponse points) s = .next t ∧ t.fe.pendingResponse.map (·.toList) = some points ∧
      t.fe.fade = s.fe.fade ∧ t.fe.level = s.fe.level ∧
      answered (.setResponse points) (okWith .nothing) t ∧ onlyChanges [.fe, .linkOut] s t) ∧
  (∀ (s : State) (points : List Nat), takes s → points.length = 11 → responseOk points = false →
    ∃ t, exec (.setResponse points) s = .next t ∧ answered (.setResponse points) (refuse .badValue) t ∧
      onlyChanges [.linkOut] s t) ∧
  (∀ (s : State) (points : List Nat), takes s → points.length ≠ 17 →
    ∃ t, exec (.setCurve points) s = .next t ∧ answered (.setCurve points) (refuse .badLength) t ∧
      onlyChanges [.linkOut] s t) ∧
  ∀ (s : State) (points : List Nat), takes s → points.length ≠ 11 →
    ∃ t, exec (.setResponse points) s = .next t ∧ answered (.setResponse points) (refuse .badLength) t ∧
      onlyChanges [.linkOut] s t

/-- SET_PARAM and GET_PARAM (R204): a value within a parameter's range is stored and read back, and the other
parameters stay; a value outside it, and a number that names no parameter, is refused. Only MAX_LEVEL, FLOOR_LEVEL,
KEEPWARM and KEEPWARM_DRIVE act on the light at once (R59). -/
def Obligations.ParametersKeepTheirRanges : Prop :=
  (∀ (s : State) (number value lo hi : Nat), takes s → paramRange number = some (lo, hi) → lo ≤ value →
    value ≤ hi →
    ∃ t, exec (.setParam number value) s = .next t ∧ paramGet number t.retained.params = some value ∧
      (∀ m, m ≠ number → paramGet m t.retained.params = paramGet m s.retained.params) ∧
      answered (.setParam number value) (okWith (.param value)) t ∧
      onlyChanges [.params, .fe, .dimmer, .watch, .linkOut] s t ∧
      (number < 3 ∨ 6 < number → onlyChanges [.params, .linkOut] s t)) ∧
  (∀ (s : State) (number value lo hi : Nat), takes s → paramRange number = some (lo, hi) →
    value < lo ∨ hi < value →
    ∃ t, exec (.setParam number value) s = .next t ∧ answered (.setParam number value) (refuse .badValue) t ∧
      onlyChanges [.linkOut] s t) ∧
  (∀ (s : State) (number : Nat), takes s → paramRange number ≠ none →
    ∃ (t : State) (v : Nat), exec (.getParam number) s = .next t ∧ paramGet number s.retained.params = some v ∧
      answered (.getParam number) (okWith (.param v)) t ∧ onlyChanges [.linkOut] s t) ∧
  ∀ (s : State) (number value : Nat), takes s → paramRange number = none →
    ∃ t u, exec (.setParam number value) s = .next t ∧ exec (.getParam number) s = .next u ∧
      answered (.setParam number value) (refuse .badValue) t ∧ answered (.getParam number) (refuse .badValue) u ∧
      onlyChanges [.linkOut] s t ∧ onlyChanges [.linkOut] s u

/-! ## Lamps -/

/-- LAMP_ON in ACTIVE (R73 to R75, R82, R97): a burning lamp answers ALREADY_LIT; a barred strike and one in
WINDING_DOWN are refused; a strike under way, or a turn with no strike to follow where strikes are not barred, is
joined and answered IN_PROGRESS; otherwise the lamp of R74's table is struck at once where the turret stands at it or
its sensor is active already, and after a turret move where it does not. The order in which origins join, and that
strike to follow is clear in PREHEAT, are the model's choice (logs 6, 42). -/
def Obligations.LampOnStrikesTheSelectedLamp : Prop :=
  (∀ s : State, takes s → s.power.mode = .active → s.litLamp.isSome →
    ∃ t, exec .lampOn s = .next t ∧ answered .lampOn (okWith (.strike .alreadyLit)) t ∧
      onlyChanges [.linkOut] s t) ∧
  (∀ s : State, takes s → s.power.mode = .windingDown ∨
      (s.litLamp = none ∧ s.ltc.strike.phase = .idle ∧ s.thu.bars = true) →
    ∃ t, exec .lampOn s = .next t ∧ answered .lampOn (refuse .wrongState) t ∧ onlyChanges [.linkOut] s t) ∧
  (∀ (s : State) (l : Lamp), takes s → s.power.mode = .active → s.ltc.strike.phase = .idle →
    s.litLamp = none → s.strikingLamp = none → s.thu.bars = false →
    s.retained.lampA.state = .ready ∨ s.retained.lampB.state = .ready →
    s.selectLamp = l → s.ltc.position = .facing l ∨ s.pins.turret l = true →
    ∃ t, exec .lampOn s = .next t ∧ (t.lampRecord l).state = .striking ∧
      (s.ltc.position ≠ .facing l → t.ltc.target = none) ∧
      t.lampRecord (otherLamp l) = s.lampRecord (otherLamp l) ∧
      t.ltc.strike = { phase := .preheat, lamp := l, origins := [.link], follow := false, retried := false } ∧
      t.ltc.position = .facing l ∧ t.fe.dimmer = s.retained.params.keepwarmDrive ∧ t.fe.applied = 0 ∧
      t.thu.cooldown = none ∧ t.flt.opener = some (.strike l false) ∧ t.flt.causes = [] ∧
      answered .lampOn (okWith (.strike .started)) t ∧
      onlyChanges (.lampA :: .lampB :: .ltc :: .watch :: .fe :: .dimmer :: .thu :: .causes :: reports) s t) ∧
  (∀ (s : State) (l : Lamp), takes s → s.power.mode = .active → s.ltc.strike.phase = .idle →
    s.litLamp = none → s.strikingLamp = none → s.thu.bars = false →
    s.retained.lampA.state = .ready ∨ s.retained.lampB.state = .ready →
    s.selectLamp = l → s.ltc.position ≠ .facing l → s.pins.turret l = false →
    ∃ t, exec .lampOn s = .next t ∧
      t.ltc = { s.ltc with
        position := .moving, target := some l,
        strike := { phase := .turning, lamp := l, origins := [.link], follow := true, retried := false } } ∧
      t.flt.opener = some (.strike l false) ∧ t.flt.causes = [] ∧
      answered .lampOn (okWith (.strike .started)) t ∧ onlyChanges [.ltc, .causes, .linkOut] s t) ∧
  (∀ s : State, takes s → s.power.mode = .active → s.litLamp = none → s.ltc.strike.phase ≠ .idle →
    (s.ltc.strike.follow = true ∨ s.strikingLamp.isSome →
      ∃ t, exec .lampOn s = .next t ∧
        t.ltc = { s.ltc with strike := { s.ltc.strike with
          origins := if .link ∈ s.ltc.strike.origins then s.ltc.strike.origins
            else s.ltc.strike.origins ++ [.link] } } ∧
        answered .lampOn (okWith (.strike .inProgress)) t ∧ onlyChanges [.ltc, .linkOut] s t) ∧
    (s.ltc.strike.phase = .turning → s.ltc.strike.follow = false → s.strikingLamp = none → s.thu.bars = false →
      ∃ t, exec .lampOn s = .next t ∧
        t.ltc = { s.ltc with strike := { s.ltc.strike with
          follow := true
          origins := if .link ∈ s.ltc.strike.origins then s.ltc.strike.origins
            else s.ltc.strike.origins ++ [.link] } } ∧
        answered .lampOn (okWith (.strike .inProgress)) t ∧ onlyChanges [.ltc, .linkOut] s t) ∧
    (s.ltc.strike.phase = .turning → s.ltc.strike.follow = false → s.strikingLamp = none → s.thu.bars = true →
      ∃ t, exec .lampOn s = .next t ∧ answered .lampOn (refuse .wrongState) t ∧ onlyChanges [.linkOut] s t)) ∧
  (∀ (s : State) (l : Lamp), s.ltc.position = .facing l →
    ((s.lampRecord l).state = .ready → (s.lampRecord l).due = false → s.selectLamp = l) ∧
    ((s.lampRecord l).state = .ready → (s.lampRecord l).due = true →
      (s.lampRecord (otherLamp l)).state = .ready → (s.lampRecord (otherLamp l)).due = false →
      s.selectLamp = otherLamp l) ∧
    ((s.lampRecord l).state = .ready → (s.lampRecord (otherLamp l)).state = .failed → s.selectLamp = l) ∧
    ((s.lampRecord l).state = .ready → (s.lampRecord (otherLamp l)).due = true → s.selectLamp = l) ∧
    ((s.lampRecord l).state = .failed → s.selectLamp = otherLamp l)) ∧
  ∀ s : State, takes s → s.power.mode = .active → s.shc.state = .stopped → s.ltc.strike.phase = .idle →
    s.thu.bars = false → s.retained.lampA.state = .failed → s.retained.lampB.state = .failed →
    ∃ t, exec .lampOn s = .next t ∧ answered .lampOn (refuse .wrongState) t ∧ raised .noLamp .halt .empty s t ∧
      onlyChanges faultReports s t

/-- LAMP_OFF (R81) turns the LIT lamp off with its light and starts a cool-down, aborts a strike, lets a turn go on
with no strike to follow (R79), or finds nothing to do; SET_LAMP_RECORD (R84) installs a new lamp in place of one that
is READY or FAILED, and is refused for one that burns or is being struck. A bad lamp or life is BAD_VALUE whatever the
lamp does, before the state is looked at: the model's choice (log 34). -/
def Obligations.LampOffAndLampRecords : Prop :=
  (∀ (s : State) (l : Lamp), takes s → (s.lampRecord l).state = .lit →
    (s.lampRecord (otherLamp l)).state = .ready ∨ (s.lampRecord (otherLamp l)).state = .failed →
    s.ltc.strike.phase = .idle →
    ∃ t, exec .lampOff s = .next t ∧ t.lampRecord l = { s.lampRecord l with state := .ready } ∧
      t.lampRecord (otherLamp l) = s.lampRecord (otherLamp l) ∧
      t.fe.applied = 0 ∧ t.fe.drive = 0 ∧ t.fe.dimmer = 0 ∧ t.fe.level = s.fe.level ∧ t.fe.fade = s.fe.fade ∧
      t.ltc.watch = none ∧ t.thu.cooldown = some 0 ∧ t.thu.reading = s.thu.reading ∧
      answered .lampOff (okWith (.lampOff .turnedOff)) t ∧
      onlyChanges (.lampA :: .lampB :: .fe :: .dimmer :: .watch :: .thu :: reports) s t) ∧
  (∀ (s : State) (l : Lamp), takes s → s.ltc.strike.phase = .preheat ∨ s.ltc.strike.phase = .check ∨
      s.ltc.strike.phase = .retryWait → s.ltc.strike.lamp = l → (s.lampRecord l).state = .striking →
    s.litLamp = none →
    ∃ t, exec .lampOff s = .next t ∧ t.lampRecord l = { s.lampRecord l with state := .ready } ∧
      t.lampRecord (otherLamp l) = s.lampRecord (otherLamp l) ∧ t.ltc.strike = idleStrike s.ltc.strike ∧
      t.fe.dimmer = 0 ∧ t.thu.cooldown = some 0 ∧ answered .lampOff (okWith (.lampOff .aborted)) t ∧
      onlyChanges (.lampA :: .lampB :: .fe :: .dimmer :: .ltc :: .watch :: .thu :: reports) s t) ∧
  (∀ s : State, takes s → s.litLamp = none → s.ltc.strike.phase = .idle →
    ∃ t, exec .lampOff s = .next t ∧ answered .lampOff (okWith (.lampOff .nothing)) t ∧
      onlyChanges [.linkOut] s t) ∧
  (∀ s : State, takes s → s.litLamp = none → s.ltc.strike.phase = .turning →
    ∃ t, exec .lampOff s = .next t ∧
      t.ltc = { s.ltc with strike := { s.ltc.strike with follow := false, origins := [] } } ∧
      answered .lampOff (okWith (.lampOff .aborted)) t ∧ onlyChanges [.ltc, .linkOut] s t) ∧
  (∀ (s : State) (l : Lamp) (lamp wear life : Nat), takes s → (lamp = 0 ∧ l = .a) ∨ (lamp = 1 ∧ l = .b) →
    10 ≤ life → life ≤ 2000 → wear ≤ 4294967295 →
    ∃ t, exec (.setLampRecord lamp wear life) s = .next t ∧
      ((s.lampRecord l).state = .ready ∨ (s.lampRecord l).state = .failed →
        t.lampRecord l = ⟨.ready, wear, life, 0, 0, false⟩ ∧
        t.lampRecord (otherLamp l) = s.lampRecord (otherLamp l) ∧
        answered (.setLampRecord lamp wear life) (okWith .nothing) t) ∧
      ((s.lampRecord l).state = .ready → onlyChanges [.lampA, .lampB, .linkOut] s t) ∧
      ((s.lampRecord l).state = .failed →
        onlyChanges (.lampA :: .lampB :: .fe :: .dimmer :: .watch :: .thu :: reports) s t) ∧
      ((s.lampRecord l).state = .lit ∨ (s.lampRecord l).state = .striking →
        answered (.setLampRecord lamp wear life) (refuse .wrongState) t ∧ onlyChanges [.linkOut] s t)) ∧
  ∀ (s : State) (lamp wear life : Nat), takes s → 1 < lamp ∨ life < 10 ∨ 2000 < life →
    ∃ t, exec (.setLampRecord lamp wear life) s = .next t ∧
      answered (.setLampRecord lamp wear life) (refuse .badValue) t ∧ onlyChanges [.linkOut] s t

/-- One attempt of a strike, with the show at rest (R75 to R77): PREHEAT, CHECK, and either current and a LIT lamp,
with L1 after a retry, or none and a wait before the next; the wait's end preheats again; the third failure in a row
fails the lamp with L2. The order of the notices of one event is the model's choice (log 8), and so is that strike to
follow is clear in the PREHEAT of a retry (log 42). -/
def Obligations.StrikeAttemptsSucceedOrRetry : Prop :=
  (∀ s : State, runs s → s.ltc.strike.phase = .preheat → s.pins.sense s.ltc.strike.lamp = false →
    ∃ t, exec .preheatExpiry s = .next t ∧
      t.ltc = { s.ltc with strike := { s.ltc.strike with phase := .check } } ∧ onlyChanges [.ltc] s t) ∧
  (∀ (s : State) (l : Lamp), runs s → showAtRest s → s.ltc.strike.phase = .check → s.ltc.strike.lamp = l →
    (s.lampRecord l).state = .striking → s.litLamp = none →
    ∃ t, exec (.currentSenseActive l) s = .next t ∧
      t.lampRecord l = { s.lampRecord l with
        state := .lit, strikes := min ((s.lampRecord l).strikes + 1) 65535, failures := 0 } ∧
      t.lampRecord (otherLamp l) = s.lampRecord (otherLamp l) ∧ t.ltc.strike = idleStrike s.ltc.strike ∧
      t.ltc.position = s.ltc.position ∧ t.fe.dimmer = t.fe.drive ∧ t.fe.level = s.fe.level ∧
      (s.ltc.strike.retried = true → raised .strikeRetried .note (.ofLamp l) s t) ∧
      (s.ltc.strike.retried = false →
        onlyChanges (.pins :: .lampA :: .lampB :: .ltc :: .watch :: .fe :: .dimmer :: .thu :: reports) s t) ∧
      onlyChanges (.pins :: .lampA :: .lampB :: .ltc :: .watch :: .fe :: .dimmer :: .thu :: faultReports) s t) ∧
  (∀ (s : State) (l : Lamp), runs s → s.ltc.strike.phase ≠ .check →
    ∃ t, exec (.currentSenseActive l) s = .next t ∧ onlyChanges [.pins] s t) ∧
  (∀ (s : State) (l : Lamp), runs s → s.ltc.strike.phase = .check → s.ltc.strike.lamp = l →
    (s.lampRecord l).failures < 2 →
    ∃ t, exec .checkExpiry s = .next t ∧
      t.lampRecord l = { s.lampRecord l with failures := (s.lampRecord l).failures + 1 } ∧
      t.lampRecord (otherLamp l) = s.lampRecord (otherLamp l) ∧
      t.ltc.strike = { s.ltc.strike with phase := .retryWait, retried := true } ∧ t.fe.dimmer = 0 ∧
      onlyChanges [.lampA, .lampB, .ltc, .watch, .dimmer] s t) ∧
  (∀ (s : State) (l : Lamp), runs s → showAtRest s → s.ltc.strike.phase = .check → s.ltc.strike.lamp = l →
    (s.lampRecord l).state = .striking → 2 ≤ (s.lampRecord l).failures → s.litLamp = none →
    (s.lampRecord (otherLamp l)).state = .ready → s.pins.turret (otherLamp l) = false →
    ∃ t, exec .checkExpiry s = .next t ∧
      t.lampRecord l = { s.lampRecord l with state := .failed, failures := 3 } ∧
      t.lampRecord (otherLamp l) = s.lampRecord (otherLamp l) ∧
      t.ltc.strike.phase = .turning ∧ t.ltc.strike.lamp = otherLamp l ∧ t.ltc.target = some (otherLamp l) ∧
      t.ltc.position = .moving ∧ t.thu.cooldown = some 0 ∧ raised .lampFailed .hold (.ofLamp l) s t ∧
      onlyChanges (.lampA :: .lampB :: .ltc :: .watch :: .fe :: .dimmer :: .thu :: faultReports) s t) ∧
  ∀ s : State, runs s → s.ltc.strike.phase = .retryWait → (s.lampRecord s.ltc.strike.lamp).state = .striking →
    ∃ t, exec .retryWaitExpiry s = .next t ∧
      t.ltc.strike = { s.ltc.strike with phase := .preheat, follow := false } ∧
      t.fe.dimmer = s.retained.params.keepwarmDrive ∧ onlyChanges [.ltc, .watch, .dimmer] s t

/-- Turret moves (R69, R70): the target's sensor ends the move and the strike follows, where one does; a turret found
between positions is known again; the timer's end stops the motor between positions with L6. The burn-out watch (R80):
it begins 100 ms after the drive rose, with the current flowing, and a current lost while it runs fails the lamp with
L3 in a last-cause set of its own, starts a cool-down, and sends the turret to the other lamp to strike it (R78; log
19). That strike to follow is clear once the turret has arrived and PREHEAT begins is the model's choice (log 42). -/
def Obligations.TurretMovesAndBurnouts : Prop :=
  (∀ (s : State) (l : Lamp), runs s → s.ltc.target = some l → s.ltc.strike.follow = false →
    ∃ t, exec (.turretSensor l true) s = .next t ∧
      t.ltc = { s.ltc with position := .facing l, target := none, strike := idleStrike s.ltc.strike } ∧
      onlyChanges [.pins, .ltc] s t) ∧
  (∀ (s : State) (l : Lamp), runs s → s.ltc.target = some l → s.ltc.strike.follow = true →
    s.ltc.strike.lamp = l → (s.lampRecord l).state = .ready → s.litLamp = none →
    ∃ t, exec (.turretSensor l true) s = .next t ∧ t.ltc.position = .facing l ∧ t.ltc.target = none ∧
      t.ltc.strike = { s.ltc.strike with phase := .preheat, follow := false } ∧
      t.lampRecord l = { s.lampRecord l with state := .striking } ∧
      t.lampRecord (otherLamp l) = s.lampRecord (otherLamp l) ∧
      t.fe.dimmer = s.retained.params.keepwarmDrive ∧ t.thu.cooldown = none ∧
      onlyChanges (.pins :: .lampA :: .lampB :: .ltc :: .watch :: .fe :: .dimmer :: .thu :: reports) s t) ∧
  (∀ (s : State) (l : Lamp), runs s → s.ltc.target = none → s.ltc.position = .moving →
    ∃ t, exec (.turretSensor l true) s = .next t ∧ t.ltc = { s.ltc with position := .facing l } ∧
      onlyChanges [.pins, .ltc] s t) ∧
  (∀ (s : State) (l : Lamp), runs s → ∃ t, exec (.turretSensor l false) s = .next t ∧
    t.pins.turret l = false ∧ t.pins.turret (otherLamp l) = s.pins.turret (otherLamp l) ∧
    onlyChanges [.pins] s t) ∧
  (∀ (s : State) (l : Lamp), runs s → s.shc.state = .stopped → s.ltc.target = some l →
    ∃ t, exec .turretTimerExpiry s = .next t ∧
      t.ltc = { s.ltc with target := none, strike := idleStrike s.ltc.strike } ∧
      raised .turretStall .halt (.ofLamp l) s t ∧ onlyChanges (.ltc :: faultReports) s t) ∧
  (∀ (s : State) (l : Lamp), runs s → s.ltc.watch = some .settling → s.litLamp = some l →
    s.pins.sense l = true →
    ∃ t, exec .burnoutWatchStart s = .next t ∧ t.ltc.watch = some .running ∧ onlyChanges [.watch] s t) ∧
  (∀ s : State, runs s → s.ltc.watch ≠ some .settling → exec .burnoutWatchStart s = .next s) ∧
  (∀ (s : State) (l : Lamp), runs s → s.power.mode = .active → s.shc.state = .stopped →
    s.ltc.watch = some .running → (s.lampRecord l).state = .lit →
    (s.lampRecord (otherLamp l)).state = .ready → s.thu.bars = false → s.pins.turret (otherLamp l) = false →
    s.thu.monitor ≠ .stalled →
    ∃ t, exec (.currentSenseLost l) s = .next t ∧
      t.lampRecord l = { s.lampRecord l with state := .failed } ∧
      t.lampRecord (otherLamp l) = s.lampRecord (otherLamp l) ∧ t.fe.applied = 0 ∧ t.fe.drive = 0 ∧
      t.ltc.position = .moving ∧ t.ltc.target = some (otherLamp l) ∧ t.ltc.watch = none ∧
      t.ltc.strike = ⟨.turning, otherLamp l, [.changeover], true, false⟩ ∧
      t.thu.cooldown = some 0 ∧ t.flt.opener = some (.strike l true) ∧ t.flt.causes = [.lampBurnout] ∧
      t.flt.sticky = insertCode .lampBurnout s.flt.sticky ∧
      onlyChanges (.pins :: .lampA :: .lampB :: .ltc :: .watch :: .fe :: .dimmer :: .thu :: faultReports) s t) ∧
  ∀ (s : State) (l : Lamp), runs s → s.ltc.watch ≠ some .running →
    ∃ t, exec (.currentSenseLost l) s = .next t ∧ onlyChanges [.pins] s t

/-- LIT_TIME_EXPIRY (R85 to R87): fifty expiries make a second, and a second adds wear to the LIT lamp by the applied
level, up to the greatest value; the lamp that passes its threshold is due, with L5, and stays LIT. -/
def Obligations.WearGrowsBySeconds : Prop :=
  (∀ s : State, runs s → s.litLamp = none → exec .litTimeExpiry s = .next s) ∧
  (∀ (s : State) (l : Lamp), runs s → s.ltc.timer = true → s.litLamp = some l → s.ltc.sub < 49 →
    ∃ t, exec .litTimeExpiry s = .next t ∧ t.ltc = { s.ltc with sub := s.ltc.sub + 1 } ∧
      onlyChanges [.ltc] s t) ∧
  ∀ (s : State) (l : Lamp) (add : Nat), runs s → s.ltc.timer = true → s.litLamp = some l → 49 ≤ s.ltc.sub →
    (s.fe.applied = 0 → add = 1) → (1 ≤ s.fe.applied → s.fe.applied ≤ 499 → add = 2) →
    (500 ≤ s.fe.applied → s.fe.applied ≤ 799 → add = 3) → (800 ≤ s.fe.applied → add = 4) →
    ∃ t, exec .litTimeExpiry s = .next t ∧ t.ltc = { s.ltc with sub := 0 } ∧
      (t.lampRecord l).wear = min ((s.lampRecord l).wear + add) 4294967295 ∧
      (t.lampRecord l).state = .lit ∧ t.lampRecord (otherLamp l) = s.lampRecord (otherLamp l) ∧
      ((s.lampRecord l).due = false → (s.lampRecord l).life * 14400 ≤ (t.lampRecord l).wear →
        (t.lampRecord l).due = true ∧ raised .lampDue .note (.ofLamp l) s t) ∧
      ((s.lampRecord l).due = true ∨ (t.lampRecord l).wear < (s.lampRecord l).life * 14400 →
        (t.lampRecord l).due = (s.lampRecord l).due ∧ onlyChanges [.lampA, .lampB, .ltc] s t) ∧
      onlyChanges (.lampA :: .lampB :: .ltc :: faultReports) s t

/-! ## Heat -/

/-- TEMPERATURE with no cool-down active (R92, R95 to R99): the reading is clamped to -20..150 and decides state and
ceilings; the trip latch goes at 80 or below; HOT entered from below raises H4; TRIP entered with a lamp burning puts it
out, READY, with H2 and a cool-down, the light at 0 and the fan at 100. -/
def Obligations.TemperaturesDecideTheBand : Prop :=
  (∀ t : Int,
    (thermalBand t = .normal ↔ t ≤ 70) ∧ (thermalBand t = .warm ↔ 71 ≤ t ∧ t ≤ 89) ∧
    (thermalBand t = .hot ↔ 90 ≤ t ∧ t ≤ 99) ∧ (thermalBand t = .trip ↔ 100 ≤ t)) ∧
  (∀ (s : State) (value t : Int) (target : Nat), takes s → t = max (-20) (min value 150) → t ≤ 89 →
    s.thu.cooldown = none →
    (s.thu.seeing = false → target = 400) → (s.thu.seeing = true → t ≤ 70 → target = 1000) →
    (s.thu.seeing = true → 71 ≤ t → (target : Int) = 1000 - 30 * (t - 70)) →
    ∃ u, exec (.temperature value) s = .next u ∧ u.thu.reading = some t ∧ u.thu.window = true ∧
      u.thu.state = (if t ≤ 70 then .normal else .warm) ∧ u.thu.latch = (s.thu.latch && decide (80 < t)) ∧
      u.thu.seeing = s.thu.seeing ∧ u.thu.target = target ∧ u.thu.effective = min s.thu.effective target ∧
      u.thu.cooldown = none ∧ u.fe.level = s.fe.level ∧ u.fe.fade = s.fe.fade ∧
      answered (.temperature value)
        (okClamped (decide (t ≠ value))
          (.temperature t (if t ≤ 70 then .normal else .warm) s.thu.seeing (min s.thu.effective target))) u ∧
      onlyChanges [.thu, .fe, .dimmer, .watch, .linkOut] s u) ∧
  (∀ (s : State) (value : Int), takes s → 90 ≤ value → value ≤ 99 → s.thu.cooldown = none →
    s.thu.state = .unread ∨ s.thu.state = .normal ∨ s.thu.state = .warm →
    ∃ u, exec (.temperature value) s = .next u ∧ u.thu.state = .hot ∧ u.thu.target = 400 ∧
      u.thu.effective = min s.thu.effective 400 ∧ raised .hot .degrade (.ofTemperature (some value)) s u ∧
      onlyChanges (.thu :: .fe :: .dimmer :: .watch :: faultReports) s u) ∧
  ∀ (s : State) (value : Int) (l : Lamp), takes s → s.shc.state = .stopped → 100 ≤ value →
    s.thu.state ≠ .trip → (s.lampRecord l).state = .lit →
    (s.lampRecord (otherLamp l)).state = .ready ∨ (s.lampRecord (otherLamp l)).state = .failed →
    s.ltc.strike.phase = .idle →
    ∃ u, exec (.temperature value) s = .next u ∧ u.thu.state = .trip ∧ u.thu.reading = some (min value 150) ∧
      u.thu.latch = true ∧ u.thu.target = 0 ∧ u.thu.effective = 0 ∧ u.thu.fan = 100 ∧
      u.thu.cooldown = some 0 ∧ u.lampRecord l = { s.lampRecord l with state := .ready } ∧
      u.lampRecord (otherLamp l) = s.lampRecord (otherLamp l) ∧
      u.fe.applied = 0 ∧ u.fe.drive = 0 ∧ u.fe.dimmer = 0 ∧
      raised .overheat .shutdown (.ofTemperature (some (min value 150))) s u ∧
      onlyChanges (.thu :: .lampA :: .lampB :: .fe :: .dimmer :: .watch :: faultReports) s u

/-- WINDOW_END with no cool-down active (R93, R94): a window with a report clears the misses and one without clears the
good windows; two good windows in a row make the part SEEING, two misses make it BLIND, with H1 at the second. The
effective ceiling rises by 10 up to its target (R99); a pulse wakes a stalled monitor, and a stall raises H3 and puts
the lamp out (R101, R102); a cool-down counts its seconds and ends by R104's condition. -/
def Obligations.HeatTimersAct : Prop :=
  (∀ (s : State) (miss good : Nat) (seeing : Bool), runs s → s.thu.timers = true → s.thu.cooldown = none →
    miss = (if s.thu.window then 0 else min (s.thu.miss + 1) 2) →
    good = (if s.thu.window then min (s.thu.good + 1) 2 else 0) →
    seeing = (if s.thu.seeing then decide (miss ≠ 2) else decide (good = 2)) →
    ∃ t, exec .windowEnd s = .next t ∧ t.thu.window = false ∧ t.thu.miss = miss ∧ t.thu.good = good ∧
      t.thu.seeing = seeing ∧ t.thu.reading = s.thu.reading ∧ t.thu.state = s.thu.state ∧
      t.fe.level = s.fe.level ∧
      (seeing = false → s.thu.seeing = true → t.thu.effective ≤ 400) ∧
      (seeing = s.thu.seeing → t.thu.effective = s.thu.effective ∧ t.thu.fan = s.thu.fan) ∧
      (s.thu.miss ≠ 2 → miss = 2 → raised .thermalBlind .degrade .empty s t) ∧
      (s.thu.miss = 2 ∨ miss ≠ 2 → onlyChanges [.thu, .fe, .dimmer, .watch] s t) ∧
      onlyChanges (.thu :: .fe :: .dimmer :: .watch :: faultReports) s t) ∧
  (∀ s : State, runs s → s.thu.timers = true → s.thu.effective < s.thu.target →
    ∃ t, exec .slewExpiry s = .next t ∧
      t.thu = { s.thu with effective := min (s.thu.effective + 10) s.thu.target } ∧ t.fe.level = s.fe.level ∧
      onlyChanges [.thu, .fe, .dimmer, .watch] s t) ∧
  (∀ s : State, runs s → s.thu.target ≤ s.thu.effective → exec .slewExpiry s = .next s) ∧
  (∀ s : State, runs s → s.thu.monitor = .stalled →
    ∃ t, exec .tachoPulse s = .next t ∧ t.thu = { s.thu with monitor := .watching } ∧ onlyChanges [.thu] s t) ∧
  (∀ s : State, runs s → s.thu.monitor ≠ .stalled → exec .tachoPulse s = .next s) ∧
  (∀ s : State, runs s → s.shc.state = .stopped → s.thu.monitor = .watching → s.litLamp = none →
    s.ltc.strike.phase = .idle →
    ∃ t, exec .fanStallTimerExpiry s = .next t ∧ t.thu = { s.thu with monitor := .stalled } ∧
      raised .fanStall .shutdown (.ofTemperature s.thu.reading) s t ∧ onlyChanges (.thu :: faultReports) s t) ∧
  (∀ (s : State) (l : Lamp), runs s → s.shc.state = .stopped → s.thu.monitor = .watching →
    (s.lampRecord l).state = .lit →
    (s.lampRecord (otherLamp l)).state = .ready ∨ (s.lampRecord (otherLamp l)).state = .failed →
    s.ltc.strike.phase = .idle →
    ∃ t, exec .fanStallTimerExpiry s = .next t ∧ t.thu.monitor = .stalled ∧ t.thu.cooldown = some 0 ∧
      30 ≤ t.thu.fan ∧ t.lampRecord l = { s.lampRecord l with state := .ready } ∧
      raised .fanStall .shutdown (.ofTemperature s.thu.reading) s t ∧
      onlyChanges (.thu :: .lampA :: .lampB :: .fe :: .dimmer :: .watch :: faultReports) s t) ∧
  (∀ (s : State) (n : Nat), runs s → s.thu.cooldown = some n →
    (s.thu.seeing = true → n + 1 < 90 ∨ ∀ t, s.thu.reading = some t → 45 < t) →
    (s.thu.seeing = false → n + 1 < 300) →
    ∃ t, exec .cooldownSecondExpiry s = .next t ∧
      t.thu = { s.thu with cooldown := some (min (n + 1) 65535) } ∧ onlyChanges [.thu] s t) ∧
  ∀ (s : State) (n : Nat), runs s → s.power.mode = .active → s.thu.cooldown = some n →
    (s.thu.seeing = true ∧ 89 ≤ n ∧ ∃ t, s.thu.reading = some t ∧ t ≤ 45) ∨ (s.thu.seeing = false ∧ 299 ≤ n) →
    s.litLamp = none → s.strikingLamp = none → s.thu.state ≠ .trip →
    ∃ t, exec .cooldownSecondExpiry s = .next t ∧ t.thu.cooldown = none ∧ t.thu.reading = s.thu.reading ∧
      (s.thu.seeing = false → t.thu.fan = 0 ∧ t.thu.monitor = .idle) ∧ onlyChanges (.thu :: reports) s t

/-! ## The cue track -/

/-- BLOCK_TIMER_EXPIRY (R110, R111, R113, R117 to R119): both detectors decide at every block; with the gate CLOSED the
decisions go no further; with it OPEN the trackers take them, and what they decide is counted, recorded, and faulted,
the burst before the word where both end at one block; here with the show STOPPED, STARTING or LOOPING, which discards
an arrival (R132). That a tone at either end of the 3 percent is within them is deduced (log 27), and that a C1 of that
block is raised before the word opens its last-cause set is the model's choice (log 8). -/
def Obligations.BlocksReachTheTrackers : Prop :=
  (∀ (k : Nat) (tones : List Tone), 1 ≤ k → k ≤ 8 →
    (detects 18500 k tones = true ↔
      ∃ x ∈ tones, 17945 ≤ x.deciHertz ∧ x.deciHertz ≤ 19055 ∧ 360 ≤ x.amplitude + 40 * k) ∧
    (detects 26500 k tones = true ↔
      ∃ x ∈ tones, 25705 ≤ x.deciHertz ∧ x.deciHertz ≤ 27295 ∧ 360 ≤ x.amplitude + 40 * k)) ∧
  ∀ (s : State) (tones : List Tone) (d : Cdec), runs s → s.cdec.timer = true → d = heard tones s →
    s.shc.state = .stopped ∨ s.shc.state = .starting ∨ s.shc.state = .looping →
    ∃ t, exec (.blockTimerExpiry tones) s = .next t ∧
      (s.cdec.gateOpen = false → t.cdec = d ∧ onlyChanges [.cdec] s t) ∧
      (s.cdec.gateOpen = true → d.decode.2 = (none, none) →
        t.cdec = d.decode.1 ∧ onlyChanges [.cdec] s t) ∧
      (s.cdec.gateOpen = true → d.decode.2 = (some .noise, none) →
        t.cdec = { d.decode.1 with noise := min (d.decode.1.noise + 1) 65535 } ∧
        onlyChanges [.cdec] s t) ∧
      (s.cdec.gateOpen = true → d.decode.2 = (some .step, none) →
        t.cdec = { d.decode.1 with lastArrival := some .step } ∧ onlyChanges [.cdec] s t) ∧
      (s.cdec.gateOpen = true → d.decode.2 = (some .tapeEnd, none) →
        t.cdec = { d.decode.1 with lastArrival := some .tapeEnd } ∧ onlyChanges [.cdec] s t) ∧
      (s.cdec.gateOpen = true → d.decode.2 = (some .malformed, none) →
        t.cdec = { d.decode.1 with malformed := min (d.decode.1.malformed + 1) 65535 } ∧
        raised .cueMalformed .note .empty s t ∧ onlyChanges (.cdec :: faultReports) s t) ∧
      (∀ n, s.cdec.gateOpen = true → d.decode.2 = (none, some (.good n)) →
        t.cdec = { d.decode.1 with
          good := min (d.decode.1.good + 1) 65535, lastArrival := some (.coded n) } ∧
        t.flt.opener = some (.cueWord (.good n)) ∧ t.flt.causes = [] ∧ onlyChanges [.cdec, .causes] s t) ∧
      (∀ e, s.cdec.gateOpen = true → d.decode.2 = (none, some (.failed e)) →
        t.cdec = { d.decode.1 with
          frameErrors := min (d.decode.1.frameErrors + 1) 65535, lastError := some e } ∧
        t.flt.opener = some (.cueWord (.failed e)) ∧ t.flt.causes = [.cueFrameError] ∧
        t.flt.sticky = insertCode .cueFrameError s.flt.sticky ∧ onlyChanges (.cdec :: faultReports) s t) ∧
      ∀ (burst : BurstEnd) (w : WordResult), s.cdec.gateOpen = true → d.decode.2 = (some burst, some w) →
        t.cdec.noise = (if burst = .noise then min (d.noise + 1) 65535 else d.noise) ∧
        t.cdec.malformed = (if burst = .malformed then min (d.malformed + 1) 65535 else d.malformed) ∧
        t.flt.opener = some (.cueWord w) ∧
        (burst = .malformed → .cueMalformed ∈ t.flt.sticky) ∧
        (∀ n, w = .good n →
          t.cdec.good = min (d.good + 1) 65535 ∧ t.cdec.lastArrival = some (.coded n) ∧ t.flt.causes = []) ∧
        (∀ e, w = .failed e →
          t.cdec.frameErrors = min (d.frameErrors + 1) 65535 ∧ t.cdec.lastError = some e ∧
          t.flt.causes = [.cueFrameError] ∧ .cueFrameError ∈ t.flt.sticky ∧
          t.cdec.lastArrival = (match burst with
            | .step => some .step
            | .tapeEnd => some .tapeEnd
            | .noise | .malformed => s.cdec.lastArrival)) ∧
        onlyChanges (.cdec :: faultReports) s t

/-- A tone burst of n blocks, from IDLE, then three silent blocks (R112 to R114): noise up to 11, a step from 12 to 80,
malformed from 81 to 239, and from 240 on the end of the tape, decided once. A clean cue word of any number 0..4095,
sent after the quiet of R115, decodes to that number and to nothing else, and the assembler waits again (R115 to R117).
-/
def Obligations.BurstsAndCleanWordsDecode : Prop :=
  (∀ n : Nat, 1 ≤ n →
    trackAll (List.replicate n true ++ [false, false, false]) .idle =
      (.idle, [if n ≤ 11 then .noise else if n ≤ 80 then .step else if n ≤ 239 then .malformed else .tapeEnd])) ∧
  ∀ n : Nat, n < 4096 → assembleAll (wordBlocks n) 20 .waiting = (.waiting, [.good n])

/-- CLEAR_CUE_STATS (R121): the five counters are 0, the last arrival and last frame error absent, and gate, detector
decisions, step tracker, quiet count and word assembler as they were, in every show state and while winding down; in
STANDBY the link answers WRONG_STATE. -/
def Obligations.ClearCueStatsClearsTheCounts : Prop :=
  (∀ s : State, takes s →
    ∃ t, exec .clearCueStats s = .next t ∧
      t.cdec = { s.cdec with noise := 0, collisions := 0, malformed := 0, frameErrors := 0, good := 0,
                             lastArrival := none, lastError := none } ∧
      answered .clearCueStats (okWith .nothing) t ∧ onlyChanges [.cdec, .linkOut] s t) ∧
  ∀ s : State, alive s → s.power.mode = .standby → s.link.resetTaken = false →
    ∃ t, exec .clearCueStats s = .next t ∧ answered .clearCueStats (refuse .wrongState) t ∧
      onlyChanges [.linkOut] s t

/-! ## The show -/

/-- LOAD_CUE in STOPPED (R123, R124): an entry within its ranges takes its place in a table in ascending order, in place
of the one with its number, and nothing else moves but the pointer, to 0; a full table, a running show and a value out
of range refuse it, which is a number, slot, count, action kind or field outside R123, or a list against its limits.
DELETE_CUE and CLEAR_CUES (R125): in STOPPED an entry, or every entry, leaves the table and the
pointer is 0, whether or not the number was there; the reply carries the count after it and says ABSENT; another show
state, a number above 4095 and STANDBY refuse them. A value out of range is BAD_VALUE whatever the show does, before its
state is looked at: the model's choice (log 34). -/
def Obligations.CueTableRequestsKeepTheTable : Prop :=
  (∀ (s : State) (number slot count : Nat) (actions : List RawAction) (e : CueEntry), takes s →
    s.shc.state = .stopped → lengthOk (.loadCue number slot count actions) = true →
    cueOperand number slot count actions = some e → ascending s.retained.cues = true →
    s.retained.cues.length < 128 ∨ hasCue e.number s.retained.cues = true →
    ∃ t, exec (.loadCue number slot count actions) s = .next t ∧ e.ok = true ∧ e.number = number ∧
      ascending t.retained.cues = true ∧
      (∀ x : CueEntry, x ∈ t.retained.cues ↔ x = e ∨ (x ∈ s.retained.cues ∧ x.number ≠ number)) ∧
      t.shc = { s.shc with pointer := 0 } ∧
      answered (.loadCue number slot count actions)
        (okWith (.cueLoaded (cueIndex number t.retained.cues) t.retained.cues.length
          (hasCue number s.retained.cues))) t ∧
      onlyChanges [.cues, .shc, .linkOut] s t) ∧
  (∀ (s : State) (number slot count : Nat) (actions : List RawAction) (e : CueEntry), takes s →
    lengthOk (.loadCue number slot count actions) = true → cueOperand number slot count actions = some e →
    (s.shc.state ≠ .stopped →
      ∃ t, exec (.loadCue number slot count actions) s = .next t ∧
        answered (.loadCue number slot count actions) (refuse .wrongState) t ∧ onlyChanges [.linkOut] s t) ∧
    (s.shc.state = .stopped → 128 ≤ s.retained.cues.length → hasCue e.number s.retained.cues = false →
      ∃ t, exec (.loadCue number slot count actions) s = .next t ∧
        answered (.loadCue number slot count actions) (refuse .tableFull) t ∧ onlyChanges [.linkOut] s t)) ∧
  (∀ (number slot count : Nat) (actions : List RawAction), lengthOk (.loadCue number slot count actions) = true →
    (cueOperand number slot count actions = none ↔
      4095 < number ∨ slot = 0 ∨ (90 < slot ∧ slot ≠ 255) ∨ count = 0 ∨ 4 < count ∨
        (∃ a ∈ actions, rawInRange a = false) ∨ 1 < actions.countP rawCut ∨ 1 < actions.countP rawPause ∨
        ((∃ a ∈ actions, rawCut a = true) ∧ ∃ a ∈ actions, rawFade a = true)) ∧
    ∀ e, cueOperand number slot count actions = some e →
      e.number = number ∧ e.expected = (if slot = 255 then none else some slot) ∧ e.actions.length = count) ∧
  (∀ (s : State) (number slot count : Nat) (actions : List RawAction), takes s →
    lengthOk (.loadCue number slot count actions) = true → cueOperand number slot count actions = none →
    ∃ t, exec (.loadCue number slot count actions) s = .next t ∧
      answered (.loadCue number slot count actions) (refuse .badValue) t ∧ onlyChanges [.linkOut] s t) ∧
  (∀ (s : State) (number : Nat), takes s → number ≤ 4095 → s.shc.state = .stopped →
    ∃ t, exec (.deleteCue number) s = .next t ∧
      t.retained.cues = s.retained.cues.filter (fun e => e.number != number) ∧ t.shc.pointer = 0 ∧
      t.shc = { s.shc with pointer := 0 } ∧
      answered (.deleteCue number)
        (okWith (.cueDeleted t.retained.cues.length (s.retained.cues.all fun e => e.number != number))) t ∧
      onlyChanges [.cues, .shc, .linkOut] s t) ∧
  (∀ s : State, takes s → s.shc.state = .stopped →
    ∃ t, exec .clearCues s = .next t ∧ t.retained.cues = [] ∧ t.shc = { s.shc with pointer := 0 } ∧
      answered .clearCues (okWith (.cuesCleared 0)) t ∧ onlyChanges [.cues, .shc, .linkOut] s t) ∧
  (∀ (s : State) (number : Nat), takes s → 4095 < number →
    ∃ t, exec (.deleteCue number) s = .next t ∧ answered (.deleteCue number) (refuse .badValue) t ∧
      onlyChanges [.linkOut] s t) ∧
  (∀ (s : State) (number : Nat), takes s → number ≤ 4095 → s.shc.state ≠ .stopped →
    ∃ t u, exec (.deleteCue number) s = .next t ∧ exec .clearCues s = .next u ∧
      answered (.deleteCue number) (refuse .wrongState) t ∧ answered .clearCues (refuse .wrongState) u ∧
      onlyChanges [.linkOut] s t ∧ onlyChanges [.linkOut] s u) ∧
  ∀ (s : State) (number : Nat), alive s → s.power.mode = .standby → s.link.resetTaken = false →
    ∃ t u, exec (.deleteCue number) s = .next t ∧ exec .clearCues s = .next u ∧
      answered (.deleteCue number) (refuse .wrongState) t ∧ answered .clearCues (refuse .wrongState) u ∧
      onlyChanges [.linkOut] s t ∧ onlyChanges [.linkOut] s u

/-- SHOW_START in STOPPED (R129, R130): the record, the cut to 0 in place of any fade, the GOTO to the start slot and
the part list; the tape rewinds where REWIND_ON_START asks for it, from rest at once and from a play after its brake
period (R155); with no lamp LIT a strike is asked for, and is refused where strikes are barred; a full queue refuses the
GOTO with T10, and the show is HELD with its GOTO part FAILED (R35, R144). A slot or loop count out of range, a show
that runs and a part that winds down refuse it. A value out of range is BAD_VALUE whatever show and power state are (the
model's choice, log 34); register and returning flag are cleared by R129. -/
def Obligations.ShowStartsWithItsParts : Prop :=
  (∀ (s : State) (slot loops : Nat) (p : Slot), takes s → p.val = slot → 1 ≤ slot → loops ≤ 255 →
    s.shc.state = .stopped → s.power.mode = .active → s.litLamp.isSome →
    s.mq.length < 8 → s.tac.state = .stopped → s.tac.brake = none → s.tac.beginFlag = false →
    ∃ t, exec (.showStart slot loops) s = .next t ∧
      t.shc = { s.shc with
        state := .starting, stopReason := none, startSlot := some p, loops := loops, loopsDone := 0, pointer := 0
        cues := [], register := .empty, returning := false, issued := s.shc.issued ++ [⟨.start, none⟩]
        parts := { rewind := if s.retained.params.rewindOnStart then some .outstanding else none
                   goto := some .outstanding, strike := none, fade := none } } ∧
      t.mq = s.mq ++ [⟨.goto p, .theShow, none, false⟩] ∧
      t.fe.fade = some ⟨s.fe.level, 0, 0, 0, .linear, .theShow, none⟩ ∧ t.fe.level = s.fe.level ∧
      t.retained.user = (if s.fe.fade.isSome then s.fe.pendingUser.getD s.retained.user else s.retained.user) ∧
      t.tac.state = (if s.retained.params.rewindOnStart then .rewind else .stopped) ∧
      t.tac.counter = s.tac.counter ∧ t.tac.volume = s.tac.volume ∧
      answered (.showStart slot loops) (okWith .nothing) t ∧
      onlyChanges (.shc :: .mq :: .fe :: .user :: .tac :: reports) s t) ∧
  (∀ (s : State) (slot loops : Nat) (p : Slot) (l : Lamp), takes s → p.val = slot → 1 ≤ slot → loops ≤ 255 →
    s.shc.state = .stopped → s.power.mode = .active → s.litLamp = none → s.strikingLamp = none →
    s.ltc.strike.phase = .idle → s.retained.lampA.state = .ready ∨ s.retained.lampB.state = .ready →
    s.selectLamp = l → s.ltc.position = .facing l → s.mq.length < 8 → s.retained.params.rewindOnStart = false →
    s.tac.state = .play →
    ∃ t, exec (.showStart slot loops) s = .next t ∧
      t.shc = { s.shc with
        state := .starting, stopReason := none, startSlot := some p, loops := loops, loopsDone := 0, pointer := 0
        cues := [], register := .empty, returning := false, issued := s.shc.issued ++ [⟨.start, none⟩]
        parts := { rewind := none, goto := some .outstanding, strike := some .outstanding, fade := none } } ∧
      t.mq = s.mq ++ [⟨.goto p, .theShow, none, false⟩] ∧
      t.tac.state = .stopped ∧ t.tac.brake = some .forward ∧ t.tac.order = none ∧ t.cdec.gateOpen = false ∧
      (s.thu.bars = false → (t.lampRecord l).state = .striking ∧
        t.ltc.strike = { phase := .preheat, lamp := l, origins := [.theShow], follow := false, retried := false } ∧
        t.flt.opener = some (.strike l false)) ∧
      (s.thu.bars = true → t.ltc = s.ltc ∧ t.thu = s.thu ∧ t.retained.lampA = s.retained.lampA ∧
        t.retained.lampB = s.retained.lampB) ∧
      answered (.showStart slot loops) (okWith .nothing) t ∧
      onlyChanges (.shc :: .mq :: .fe :: .dimmer :: .user :: .tac :: .cdec :: .lampA :: .lampB :: .ltc ::
        .watch :: .thu :: .causes :: reports) s t) ∧
  (∀ (s : State) (slot loops : Nat) (p : Slot), takes s → p.val = slot → 1 ≤ slot → loops ≤ 255 →
    s.shc.state = .stopped → s.power.mode = .active → s.litLamp.isSome → 8 ≤ s.mq.length →
    s.retained.params.rewindOnStart = true → s.tac.state = .play →
    ∃ t, exec (.showStart slot loops) s = .next t ∧
      t.shc.state = .held ∧ t.shc.held = some ⟨false, .motionOverflow, .starting⟩ ∧
      t.shc.parts = { rewind := some .outstanding, goto := some .failed, strike := none, fade := none } ∧
      t.shc.issued = s.shc.issued ∧ t.mq = s.mq ∧ raised .motionOverflow .halt .empty s t ∧
      t.tac.state = .stopped ∧ t.tac.brake = some .forward ∧ t.tac.order = some ⟨.rewind, .theShow⟩ ∧
      t.cdec.gateOpen = false ∧ answered (.showStart slot loops) (okWith .nothing) t ∧
      onlyChanges (.shc :: .fe :: .user :: .tac :: .cdec :: faultReports) s t) ∧
  (∀ (s : State) (slot loops : Nat), takes s → slot = 0 ∨ 90 < slot ∨ 255 < loops →
    ∃ t, exec (.showStart slot loops) s = .next t ∧ answered (.showStart slot loops) (refuse .badValue) t ∧
      onlyChanges [.linkOut] s t) ∧
  ∀ (s : State) (slot loops : Nat), takes s → 1 ≤ slot → slot ≤ 90 → loops ≤ 255 →
    s.shc.state ≠ .stopped ∨ s.power.mode = .windingDown →
    ∃ t, exec (.showStart slot loops) s = .next t ∧ answered (.showStart slot loops) (refuse .wrongState) t ∧
      onlyChanges [.linkOut] s t

/-- SHOW_PAUSE, SHOW_RESUME and the hold timer (R128, R142, R143, R145): PAUSED stops the tape, its applied step and the
decoder's gate; RUNNING plays on, and takes the cues that wait (R141); a HELD show with an obstacle says which, and
with none returns to the state it was held from, where STARTING and LOOPING examine their parts (R131); a HOLD returns
by itself when a lamp becomes LIT and nothing is in its way (R145); the other states refuse. That the return register is
emptied and the returning flag cleared at each of these changes of state, EXCURSION's own apart, is deduced (log 11).
That the hold timer's clauses hold also where its expiry comes together with a PAUSE key is the model's choice
(log 49). -/
def Obligations.ShowPausesAndResumes : Prop :=
  (∀ s : State, takes s → s.shc.state = .running → s.tac.state = .play →
    ∃ t, exec .showPause s = .next t ∧
      t.shc = { s.shc with state := .paused, register := .empty, returning := false } ∧
      t.tac = { s.tac with state := .paused, brake := none, stallBrake := false, applied := 0, ramp := none } ∧
      t.cdec.gateOpen = false ∧ t.cdec.tracker = .idle ∧ t.cdec.word = .waiting ∧
      answered .showPause (okWith .nothing) t ∧ onlyChanges (.shc :: .tac :: .cdec :: reports) s t) ∧
  (∀ s : State, takes s → s.shc.state = .paused →
    ∃ t, exec .showPause s = .next t ∧ t.shc = { s.shc with hold := none } ∧
      answered .showPause (okWith .nothing) t ∧ onlyChanges [.shc, .linkOut] s t) ∧
  (∀ s : State, takes s → s.shc.state ≠ .running → s.shc.state ≠ .paused →
    ∃ t, exec .showPause s = .next t ∧ answered .showPause (refuse .wrongState) t ∧ onlyChanges [.linkOut] s t) ∧
  (∀ s : State, takes s → s.shc.state = .paused → s.shc.cues = [] → s.tac.state = .paused →
    s.tac.endFlag = false →
    ∃ t, exec .showResume s = .next t ∧
      t.shc = { s.shc with state := .running, hold := none, register := .empty, returning := false } ∧
      t.tac.state = .play ∧ t.tac.volume = s.tac.volume ∧ t.tac.counter = s.tac.counter ∧
      t.cdec.gateOpen = true ∧ t.cdec.tracker = .settling ∧ t.cdec.quiet = 0 ∧ t.cdec.word = .waiting ∧
      answered .showResume (okWith .nothing) t ∧ onlyChanges (.shc :: .tac :: .cdec :: reports) s t) ∧
  (∀ s : State, runs s → s.shc.state = .paused → s.shc.hold.isSome → s.shc.cues = [] → s.tac.state = .paused →
    s.tac.endFlag = false →
    ∃ t, exec .holdTimerExpiry s = .next t ∧
      t.shc = { s.shc with state := .running, hold := none, register := .empty, returning := false } ∧
      t.tac.state = .play ∧ t.cdec.gateOpen = true ∧ onlyChanges (.shc :: .tac :: .cdec :: reports) s t) ∧
  (∀ (s : State) (h : HeldRecord), runs s → s.shc.state = .held → s.shc.hold.isSome → s.shc.held = some h →
    ∃ t, exec .holdTimerExpiry s = .next t ∧
      t.shc = { s.shc with hold := none, held := some { h with resume := .running } } ∧ onlyChanges [.shc] s t) ∧
  (∀ s : State, takes s → s.shc.state = .held → s.obstacles ≠ [] →
    ∃ t, exec .showResume s = .next t ∧
      answered .showResume ⟨.wrongState, false, false, .obstacles s.obstacles⟩ t ∧ onlyChanges [.linkOut] s t) ∧
  (∀ (s : State) (h : HeldRecord), takes s → s.shc.state = .held → s.obstacles = [] → s.shc.held = some h →
    h.resume = .paused →
    ∃ t, exec .showResume s = .next t ∧
      t.shc = { s.shc with state := .paused, held := none, register := .empty, returning := false } ∧
      answered .showResume (okWith .nothing) t ∧ onlyChanges (.shc :: reports) s t) ∧
  (∀ (s : State) (h : HeldRecord), takes s → s.shc.state = .held → s.obstacles = [] → s.shc.held = some h →
    h.resume = .running → s.shc.cues = [] → s.tac.state = .paused → s.tac.endFlag = false →
    ∃ t, exec .showResume s = .next t ∧
      t.shc = { s.shc with state := .running, held := none, register := .empty, returning := false } ∧
      t.tac.state = .play ∧ t.cdec.gateOpen = true ∧ answered .showResume (okWith .nothing) t ∧
      onlyChanges (.shc :: .tac :: .cdec :: reports) s t) ∧
  (∀ (s : State) (h : HeldRecord), takes s → s.shc.state = .held → s.obstacles = [] → s.shc.held = some h →
    h.resume = .starting ∨ h.resume = .looping →
    (s.shc.parts.outstanding = true →
      ∃ t, exec .showResume s = .next t ∧
        t.shc = { s.shc with state := h.resume, held := none, register := .empty, returning := false } ∧
        answered .showResume (okWith .nothing) t ∧ onlyChanges (.shc :: reports) s t) ∧
    (s.shc.parts.outstanding = false → s.shc.parts.anyFailed = false → s.shc.cues = [] →
      s.tac.state = .stopped → s.tac.brake = none → s.tac.endFlag = false →
      ∃ t, exec .showResume s = .next t ∧
        t.shc = { s.shc with state := .running, held := none, parts := .empty, pointer := 0,
                             register := .empty, returning := false } ∧
        t.fe.fade = some ⟨s.fe.level, s.retained.params.showLevel, 50, 0, .smooth, .theShow, none⟩ ∧
        t.tac.state = .play ∧ t.cdec.gateOpen = true ∧ answered .showResume (okWith .nothing) t ∧
        onlyChanges (.shc :: .fe :: .user :: .tac :: .cdec :: reports) s t) ∧
    (∀ p, s.shc.parts.outstanding = false → s.shc.parts.goto = some .failed → s.shc.parts.rewind ≠ some .failed →
      s.shc.startSlot = some p → s.mq.length < 8 →
      ∃ t, exec .showResume s = .next t ∧ t.mq = s.mq ++ [⟨.goto p, .theShow, none, false⟩] ∧
        t.shc = { s.shc with
          state := h.resume, held := none, register := .empty, returning := false
          parts := { s.shc.parts with goto := some .outstanding }
          issued := s.shc.issued ++ [⟨if h.resume = .looping then .loopReturn else .start, none⟩] } ∧
        answered .showResume (okWith .nothing) t ∧ onlyChanges (.shc :: .mq :: reports) s t)) ∧
  (∀ (s : State) (h : HeldRecord) (l : Lamp), runs s → s.ltc.strike.phase = .check → s.ltc.strike.lamp = l →
    (s.lampRecord l).state = .striking → s.litLamp = none → s.shc.state = .held → s.shc.held = some h →
    h.resume = .paused →
    ∃ t, exec (.currentSenseActive l) s = .next t ∧ (t.lampRecord l).state = .lit ∧
      (h.hold = true → s.obstacles = [] → s.ltc.strike.retried = false →
        t.shc = { s.shc with state := .paused, held := none, register := .empty, returning := false
                             parts := s.shc.parts.finish .strike .done }) ∧
      (h.hold = false ∨ s.obstacles ≠ [] →
        t.shc = { s.shc with parts := s.shc.parts.finish .strike .done }) ∧
      onlyChanges (.pins :: .lampA :: .lampB :: .ltc :: .watch :: .fe :: .dimmer :: .thu :: .shc ::
        faultReports) s t) ∧
  (∀ (s : State) (waiting : List Arrival), takes s → s.shc.state = .paused → s.shc.cut = none →
    s.shc.cues = waiting → (∀ a ∈ waiting, a = .step) → s.retained.params.stepAction = .advance →
    s.mq.length + waiting.length ≤ 8 → s.tac.state = .paused → s.tac.endFlag = false →
    ∃ t, exec .showResume s = .next t ∧
      t.shc = { s.shc with state := .running, hold := none, register := .empty, returning := false, cues := []
                           issued := s.shc.issued ++ waiting.map fun _ => ⟨.step, none⟩ } ∧
      t.mq = s.mq ++ (waiting.map fun _ => ⟨.advance 1, .theShow, none, false⟩) ∧
      t.tac.state = .play ∧ answered .showResume (okWith .nothing) t ∧
      onlyChanges (.shc :: .mq :: .tac :: .cdec :: reports) s t) ∧
  (∀ (s : State) (p : Slot), takes s → s.shc.state = .excursion → s.shc.register = .known p → s.mq.length < 8 →
    ∃ t, exec .showResume s = .next t ∧ t.mq = s.mq ++ [⟨.goto p, .theShow, none, false⟩] ∧
      t.shc = { s.shc with register := .empty, returning := true,
                           issued := s.shc.issued ++ [⟨.excursionReturn, none⟩] } ∧
      answered .showResume (okWith .nothing) t ∧ onlyChanges [.mq, .shc, .linkOut] s t) ∧
  (∀ s : State, takes s → s.shc.state = .running →
    ∃ t, exec .showResume s = .next t ∧ answered .showResume (okWith .nothing) t ∧ onlyChanges [.linkOut] s t) ∧
  ∀ s : State, takes s → s.shc.state = .stopped ∨ s.shc.state = .starting ∨ s.shc.state = .looping →
    ∃ t, exec .showResume s = .next t ∧ answered .showResume (refuse .wrongState) t ∧ onlyChanges [.linkOut] s t

/-- SHOW_STOP in any state but STOPPED (R40, R149): the show's waiting moves leave the queue, its ACTIVE move is
cancelled where R23 lets it be and keeps its item of the issued-move list, the show's other lists and its records are
emptied, the light fades to 0 over 1000 ms in place of any fade, and the tape stops. R144: what a raised fault does to
the show, by its severity and the show's state. That HELD empties the return register and clears the returning flag
from every state, as R144 says of EXCURSION, is deduced (log 11); which row of R23 a seat retry within a HOME run follows
is the model's choice (log 24). -/
def Obligations.StopsAndSeveritiesMoveTheShow : Prop :=
  (∀ s : State, takes s → s.shc.state ≠ .stopped →
    ∃ t, exec .showStop s = .next t ∧
      t.shc.state = .stopped ∧ t.shc.stopReason = some .host ∧ t.shc.parts = .empty ∧ t.shc.cut = none ∧
      t.shc.cues = [] ∧ t.shc.hold = none ∧ t.shc.held = none ∧ t.shc.register = .empty ∧
      t.shc.returning = false ∧ t.shc.pointer = s.shc.pointer ∧
      showMovesDiscarded s t ∧
      t.fe.fade = some ⟨s.fe.level, 0, 50, 0, .smooth, .theShow, none⟩ ∧ t.fe.level = s.fe.level ∧
      t.retained.user = (if s.fe.fade.isSome then s.fe.pendingUser.getD s.retained.user else s.retained.user) ∧
      t.tac.state = .stopped ∧ t.cdec.gateOpen = (if s.tac.state = .play then false else s.cdec.gateOpen) ∧
      answered .showStop (okWith .nothing) t ∧
      onlyChanges (.shc :: .mq :: .tgc :: .fe :: .user :: .tac :: .cdec :: reports) s t) ∧
  (∀ s : State, takes s → s.shc.state = .stopped →
    ∃ t, exec .showStop s = .next t ∧ answered .showStop (refuse .wrongState) t ∧ onlyChanges [.linkOut] s t) ∧
  ∀ (code : FaultCode) (severity : Severity) (detail : Detail) (s : State),
    (s.shc.state = .stopped ∨ s.shc.state = .held ∨ severity = .note ∨ severity = .degrade →
      (raiseAs code severity detail s).shc = s.shc ∧ (raiseAs code severity detail s).tac = s.tac) ∧
    (s.shc.state ≠ .stopped → s.shc.state ≠ .held → severity = .hold ∨ severity = .halt →
      (raiseAs code severity detail s).shc = { s.shc with
        state := .held, register := .empty, returning := false
        held := some ⟨decide (severity = .hold), code,
          if s.shc.state = .excursion then .running else s.shc.state⟩ } ∧
      (raiseAs code severity detail s).tac.state = (if s.tac.state = .play then .paused else s.tac.state)) ∧
    (s.shc.state ≠ .stopped → s.shc.state ≠ .held → severity = .shutdown →
      (raiseAs code severity detail s).shc.state = .stopped ∧
      (raiseAs code severity detail s).shc.stopReason = some .shutdown ∧
      (raiseAs code severity detail s).shc.held = none ∧
      showMovesDiscarded s (raiseAs code severity detail s) ∧
      (raiseAs code severity detail s).tac.state = .stopped) ∧
    raised code severity detail s (raiseAs code severity detail s)

/-- What the show does with an arrival (R132 to R136, R141). In RUNNING, with no CUT under way, a coded cue is looked
up: C3 where the table does not have it, C4 above the pointer, C5 below it, and the pointer behind it; its actions are
issued in order, the entry's check on its last CHANGE or its CUT, or made at once where it has neither; a full queue
raises T10 and the show is HELD; CUE_TAKEN says how it was found. A STEP is a move or a CUT, by STEP_ACTION. During a
CUT, and in PAUSED, HELD and EXCURSION, an arrival joins the pending cue list, or finds four there and raises C6. That
PAUSED and HELD empty register and returning flag is deduced (log 11); the order of the notices is the model's choice
(log 8). -/
def Obligations.ArrivalsAreHandledOrKept : Prop :=
  (∀ (s : State) (tones : List Tone) (n : Nat), hears tones none (some (.good n)) s → s.shc.state = .running →
    s.shc.cut = none → (∀ e ∈ s.retained.cues, e.number ≠ n) →
    ∃ t, exec (.blockTimerExpiry tones) s = .next t ∧ t.shc = s.shc ∧
      raised .unknownCue .note (.ofCue (some n)) (openCauses (.cueWord (.good n)) s) t ∧
      onlyChanges (.cdec :: faultReports) s t) ∧
  (∀ (s : State) (tones : List Tone) (i : Nat) (e : CueEntry), hears tones none (some (.good e.number)) s →
    s.shc.state = .running → s.shc.cut = none → s.retained.cues[i]? = some e → ascending s.retained.cues = true →
    ∃ t, exec (.blockTimerExpiry tones) s = .next t ∧ t.shc.pointer = i + 1 ∧ t.retained.cues = s.retained.cues ∧
      t.cdec.good = min (s.cdec.good + 1) 65535 ∧ t.cdec.lastArrival = some (.coded e.number) ∧
      t.flt.opener = some (.cueWord (.good e.number)) ∧
      (i = s.shc.pointer → .cueSkip ∉ t.flt.causes ∧ .cueBackward ∉ t.flt.causes) ∧
      (s.shc.pointer < i → t.flt.causes.head? = some .cueSkip ∧ .cueSkip ∈ t.flt.sticky ∧
        (s.flt.first = none → t.flt.first = some ⟨.cueSkip, .note, s.flt.seconds,
          { Detail.empty with cue := some e.number, skipped := some (i - s.shc.pointer) }⟩)) ∧
      (i < s.shc.pointer → t.flt.causes.head? = some .cueBackward ∧ .cueBackward ∈ t.flt.sticky ∧
        (s.flt.first = none → t.flt.first = some ⟨.cueBackward, .note, s.flt.seconds, .ofCue (some e.number)⟩))) ∧
  (∀ (s : State) (tones : List Tone) (n : Nat) (a : CueAction) (x : Option Nat), takes s →
    hears tones none (some (.good n)) s → s.shc.state = .running → s.shc.cut = none →
    s.retained.cues[s.shc.pointer]? = some ⟨n, [a], x⟩ → ascending s.retained.cues = true →
    ∃ t, exec (.blockTimerExpiry tones) s = .next t ∧
      (∀ target duration curve, a = .fade target duration curve → x = none →
        t.shc = { s.shc with pointer := s.shc.pointer + 1 } ∧
        t.fe.fade = some ⟨s.fe.level, target, duration / 20, 0, curve, .theShow, some n⟩ ∧
        t.fe.level = s.fe.level ∧ onlyChanges (.cdec :: .causes :: .shc :: .fe :: .user :: reports) s t) ∧
      (∀ outMs inMs m, a = .cut outMs inMs m →
        t.shc = { s.shc with
          pointer := s.shc.pointer + 1
          cut := some ⟨.fadingOut, some n, s.fe.level, inMs, m, x.map fun p => ⟨n, p⟩⟩ } ∧
        t.fe.fade = some ⟨s.fe.level, 0, outMs / 20, 0, .linear, .theShow, some n⟩ ∧
        onlyChanges (.cdec :: .causes :: .shc :: .fe :: .user :: reports) s t) ∧
      (∀ m, a = .change m → s.mq.length < 8 →
        t.shc = { s.shc with
          pointer := s.shc.pointer + 1
          issued := s.shc.issued ++ [⟨.change, x.map fun p => ⟨n, p⟩⟩] } ∧
        t.mq = s.mq ++ [⟨m, .theShow, some n, false⟩] ∧
        onlyChanges (.cdec :: .causes :: .shc :: .mq :: reports) s t) ∧
      (∀ m, a = .change m → 8 ≤ s.mq.length →
        t.shc = { s.shc with
          pointer := s.shc.pointer + 1, state := .held, held := some ⟨false, .motionOverflow, .running⟩
          register := .empty, returning := false } ∧
        raised .motionOverflow .halt (.ofCue (some n)) (openCauses (.cueWord (.good n)) s) t ∧
        t.tac.state = (if s.tac.state = .play then .paused else s.tac.state) ∧
        onlyChanges (.cdec :: .shc :: .tac :: faultReports) s t) ∧
      (∀ volume ramp, a = .audio volume ramp → x = none →
        t.shc = { s.shc with pointer := s.shc.pointer + 1 } ∧ volumed volume ramp s t ∧
        onlyChanges (.cdec :: .causes :: .shc :: .tac :: reports) s t ∧
        (s.flt.switchOn = false → s.flt.eventOn[3] = true →
          t.flt.waiting = addWaiting
            ⟨.event (.cueTaken (.coded n) (some s.shc.pointer) (s.shc.pointer + 1) (some .inOrder) false),
              s.flt.seconds, 1, false⟩ s.flt.waiting)) ∧
      (∀ hold, a = .pause hold → x = none →
        t.shc = { s.shc with pointer := s.shc.pointer + 1, state := .paused, hold := some hold,
                             register := .empty, returning := false } ∧
        t.tac.state = (if s.tac.state = .play then .paused else s.tac.state) ∧
        onlyChanges (.cdec :: .causes :: .shc :: .tac :: reports) s t) ∧
      (∀ volume ramp, a = .audio volume ramp → ∀ p : Slot, x = some p.val →
        (s.retained.position = .known p → t.shc = { s.shc with pointer := s.shc.pointer + 1 } ∧
          volumed volume ramp s t ∧ t.flt.causes = [] ∧
          onlyChanges (.cdec :: .causes :: .shc :: .tac :: reports) s t) ∧
        (s.retained.position ≠ .known p → s.retained.params.resync = false ∨ s.mq.length < 8 →
          raised .syncLost .note { Detail.empty with cue := some n, expected := some p.val,
                                                     position := some s.retained.position }
            (openCauses (.cueWord (.good n)) s) t ∧
          volumed volume ramp s t ∧ onlyChanges (.cdec :: .shc :: .mq :: .tac :: faultReports) s t ∧
          (s.retained.params.resync = false → t.shc = { s.shc with pointer := s.shc.pointer + 1 } ∧ t.mq = s.mq) ∧
          (s.retained.params.resync = true →
            t.mq = s.mq ++ [⟨.goto p, .theShow, some n, false⟩] ∧
            t.shc = { s.shc with pointer := s.shc.pointer + 1,
                                 issued := s.shc.issued ++ [⟨.resync, none⟩] })))) ∧
  (∀ (s : State) (tones : List Tone) (n p : Nat) (m m' : Move) (outMs inMs : Nat),
    hears tones none (some (.good n)) s → s.shc.state = .running → s.shc.cut = none →
    ascending s.retained.cues = true → s.mq.length < 7 →
    (s.retained.cues[s.shc.pointer]? = some ⟨n, [.change m, .change m'], some p⟩ →
      ∃ t, exec (.blockTimerExpiry tones) s = .next t ∧
        t.mq = s.mq ++ [⟨m, .theShow, some n, false⟩, ⟨m', .theShow, some n, false⟩] ∧
        t.shc = { s.shc with
          pointer := s.shc.pointer + 1
          issued := s.shc.issued ++ [⟨.change, none⟩, ⟨.change, some ⟨n, p⟩⟩] } ∧
        onlyChanges (.cdec :: .causes :: .shc :: .mq :: reports) s t) ∧
    (s.retained.cues[s.shc.pointer]? = some ⟨n, [.cut outMs inMs m, .change m'], some p⟩ →
      ∃ t, exec (.blockTimerExpiry tones) s = .next t ∧ t.mq = s.mq ++ [⟨m', .theShow, some n, false⟩] ∧
        t.shc = { s.shc with
          pointer := s.shc.pointer + 1
          cut := some ⟨.fadingOut, some n, s.fe.level, inMs, m, some ⟨n, p⟩⟩
          issued := s.shc.issued ++ [⟨.change, none⟩] } ∧
        t.fe.fade = some ⟨s.fe.level, 0, outMs / 20, 0, .linear, .theShow, some n⟩ ∧
        onlyChanges (.cdec :: .causes :: .shc :: .mq :: .fe :: .user :: reports) s t)) ∧
  (∀ (s : State) (tones : List Tone), hears tones (some .step) none s → s.shc.state = .running → s.shc.cut = none →
    (s.retained.params.stepAction = .advance → s.mq.length < 8 →
      ∃ t, exec (.blockTimerExpiry tones) s = .next t ∧ t.mq = s.mq ++ [⟨.advance 1, .theShow, none, false⟩] ∧
        t.shc = { s.shc with issued := s.shc.issued ++ [⟨.step, none⟩] } ∧ t.cdec.lastArrival = some .step ∧
        onlyChanges (.cdec :: .shc :: .mq :: reports) s t) ∧
    (s.retained.params.stepAction = .cut →
      ∃ t, exec (.blockTimerExpiry tones) s = .next t ∧
        t.shc = { s.shc with
          cut := some ⟨.fadingOut, none, s.fe.level, s.retained.params.stepCutIn, .advance 1, none⟩ } ∧
        t.fe.fade = some ⟨s.fe.level, 0, s.retained.params.stepCutOut / 20, 0, .linear, .theShow, none⟩ ∧
        onlyChanges (.cdec :: .shc :: .fe :: .user :: reports) s t)) ∧
  ∀ (s : State) (tones : List Tone) (n : Nat) (a : Arrival) (burst : BurstEnd),
    (s.shc.state = .running ∧ s.shc.cut.isSome) ∨ s.shc.state = .paused ∨ s.shc.state = .held ∨
      s.shc.state = .excursion →
    (hears tones none (some (.good n)) s →
      ∃ t, exec (.blockTimerExpiry tones) s = .next t ∧
        (s.shc.cues.length < 4 → t.shc = { s.shc with cues := s.shc.cues ++ [.coded n] } ∧
          onlyChanges [.cdec, .causes, .shc] s t) ∧
        (4 ≤ s.shc.cues.length →
          raised .cueOverrun .note { Detail.empty with cue := some n, arrival := some (.coded n) }
            (openCauses (.cueWord (.good n)) s) t ∧ onlyChanges (.cdec :: faultReports) s t)) ∧
    (hears tones (some burst) none s → (burst = .step ∧ a = .step) ∨ (burst = .tapeEnd ∧ a = .tapeEnd) →
      ∃ t, exec (.blockTimerExpiry tones) s = .next t ∧
        (s.shc.cues.length < 4 → t.shc = { s.shc with cues := s.shc.cues ++ [a] } ∧
          onlyChanges [.cdec, .shc] s t) ∧
        (4 ≤ s.shc.cues.length → raised .cueOverrun .note { Detail.empty with arrival := some a } s t ∧
          onlyChanges (.cdec :: faultReports) s t))

/-- The three phases of a CUT (R139 to R141): the fade-out's end, COMPLETED or REPLACED, offers the change; a full
queue ends the CUT with T10; the change's completion orders the fade back to the level of the beginning, and its
cancellation ends the CUT with the light where it is; the fade-in's end takes the CUT away and, in RUNNING, takes the
pending cue list up to an item that begins another CUT. Which notice of one event comes first is the model's choice
(logs 8, 9), and so is, by deduction, that HELD empties the return register and clears the returning flag from RUNNING
(log 11). That a change left by a stopped show is taken for the CUT's own is the model's choice too (log 45). -/
def Obligations.CutsRunInThreePhases : Prop :=
  (∀ (s : State) (r : FadeRecord) (k : Cut), runs s → showFadeEnds r s → s.shc.parts.fade ≠ some .outstanding →
    s.shc.cut = some k → k.phase = .fadingOut →
    (s.mq.length < 8 →
      ∃ t, exec .fadeStep s = .next t ∧ t.fe.fade = none ∧ t.fe.level = r.target ∧
        t.mq = s.mq ++ [⟨k.move, .theShow, k.tag, false⟩] ∧
        t.shc = { s.shc with cut := some { k with phase := .changing, check := none },
                             issued := s.shc.issued ++ [⟨.cutChange, k.check⟩] } ∧
        onlyChanges (.fe :: .dimmer :: .watch :: .response :: .user :: .mq :: .shc :: reports) s t) ∧
    (8 ≤ s.mq.length → s.shc.state = .running →
      ∃ t, exec .fadeStep s = .next t ∧ t.fe.fade = none ∧ t.fe.level = r.target ∧
        raised .motionOverflow .halt (.ofCue k.tag) s t ∧
        t.shc = { s.shc with state := .held, cut := none, held := some ⟨false, .motionOverflow, .running⟩,
                             register := .empty, returning := false } ∧
        onlyChanges (.fe :: .dimmer :: .watch :: .response :: .user :: .shc :: .tac :: .cdec :: faultReports) s t)) ∧
  (∀ (s : State) (r : FadeRecord) (k : Cut) (target duration curve : Nat) (c : Curve), takes s →
    s.fe.fade = some r → r.origin = .theShow → s.shc.parts.fade ≠ some .outstanding → s.shc.cut = some k →
    k.phase = .fadingOut → curveOperand curve = some c → s.mq.length < 8 →
    ∃ t, exec (.fade target duration curve) s = .next t ∧
      t.fe.fade = some ⟨s.fe.level, min target 1000, min duration 30000 / 20, 0, c, .link, none⟩ ∧
      t.mq = s.mq ++ [⟨k.move, .theShow, k.tag, false⟩] ∧
      t.shc = { s.shc with cut := some { k with phase := .changing, check := none },
                           issued := s.shc.issued ++ [⟨.cutChange, k.check⟩] } ∧
      onlyChanges (.fe :: .user :: .mq :: .shc :: reports) s t) ∧
  (∀ (s : State) (m : Motion) (rest : List Motion) (item : Issued) (more : List Issued) (k : Cut) (cue : Nat)
    (p : Slot), runs s → showMoveEnds m rest item more s → item.purpose = .cutChange → s.shc.cut = some k →
    k.phase = .changing →
    item.check = none ∨ (item.check = some ⟨cue, p.val⟩ ∧ s.retained.position = .known p) →
    ∃ t, exec (.gateSeated true) s = .next t ∧ seated rest s t ∧
      t.fe.fade = some ⟨s.fe.level, k.restore, k.inMs / 20, 0, .linear, .theShow, k.tag⟩ ∧
      t.fe.level = s.fe.level ∧
      t.shc = { s.shc with cut := some { k with phase := .fadingIn }, issued := more } ∧
      onlyChanges (.pins :: .tgc :: .shutter :: .mq :: .fe :: .user :: .shc :: reports) s t) ∧
  (∀ (s : State) (m : Motion) (item : Issued) (k : Cut), takes s → s.mq = [m] → m.active = false →
    m.source = .theShow → s.tgc.cycle = none → s.shc.issued = [item] → item.purpose = .cutChange →
    s.shc.cut = some k → k.phase = .changing → s.shc.cues = [] →
    ∃ t, exec .haltMotion s = .next t ∧ t.mq = [] ∧ t.shc = { s.shc with cut := none, issued := [] } ∧
      answered .haltMotion (okWith (.halted 1 .nothing)) t ∧ onlyChanges (.mq :: .shc :: reports) s t) ∧
  (∀ (s : State) (r : FadeRecord) (k : Cut), runs s → showFadeEnds r s → s.shc.parts.fade ≠ some .outstanding →
    s.shc.cut = some k → k.phase = .fadingIn →
    (s.shc.state ≠ .running ∨ s.shc.cues = [] →
      ∃ t, exec .fadeStep s = .next t ∧ t.fe.fade = none ∧ t.fe.level = r.target ∧
        t.shc = { s.shc with cut := none } ∧
        onlyChanges (.fe :: .dimmer :: .watch :: .response :: .user :: .shc :: reports) s t) ∧
    (∀ waiting, s.shc.state = .running → s.shc.cues = waiting → (∀ a ∈ waiting, a = .step) →
      s.retained.params.stepAction = .advance → s.mq.length + waiting.length ≤ 8 →
      ∃ t, exec .fadeStep s = .next t ∧
        t.mq = s.mq ++ (waiting.map fun _ => ⟨.advance 1, .theShow, none, false⟩) ∧
        t.shc = { s.shc with cut := none, cues := [],
                             issued := s.shc.issued ++ waiting.map fun _ => ⟨.step, none⟩ } ∧
        onlyChanges (.fe :: .dimmer :: .watch :: .response :: .user :: .mq :: .shc :: reports) s t) ∧
    (∀ waiting, s.shc.state = .running → s.shc.cues = .step :: waiting → s.retained.params.stepAction = .cut →
      ∃ t, exec .fadeStep s = .next t ∧
        t.shc = { s.shc with
          cut := some ⟨.fadingOut, none, r.target, s.retained.params.stepCutIn, .advance 1, none⟩
          cues := waiting } ∧
        t.fe.fade = some ⟨r.target, 0, s.retained.params.stepCutOut / 20, 0, .linear, .theShow, none⟩ ∧
        onlyChanges (.fe :: .dimmer :: .watch :: .response :: .user :: .shc :: reports) s t)) ∧
  ∀ (s : State) (m : Motion) (rest : List Motion) (item : Issued) (more : List Issued), runs s →
    showMoveEnds m rest item more s → item.purpose = .cutChange → s.shc.cut = none → item.check = none →
    ∃ t, exec (.gateSeated true) s = .next t ∧ seated rest s t ∧ t.shc = { s.shc with issued := more } ∧
      onlyChanges (.pins :: .tgc :: .shutter :: .mq :: .shc :: reports) s t

/-- The end of the tape and the part list (R130, R131, R137, R138). An END with no CUT under way, or the tape-end
sensor, in RUNNING drops the cues that wait and counts a loop; the last loop stops the show with a fade of 2000 ms, any
other makes it LOOPING with a fade of 1000 ms and a rewind, and that fade's end offers the GOTO to the start slot. The
sensor abandons a CUT under way; an END waits for one. Parts end DONE or FAILED at their notices; when none is
OUTSTANDING a FAILED GOTO is issued again, and with all DONE the show is RUNNING with pointer 0, the fade to SHOW_LEVEL
and PLAY. The order of the notices of one event is the model's choice (logs 8 to 10), and that register and flag are
cleared at each change of state is deduced (log 11). That a start GOTO left by a stopped show is taken for the part's
own is the model's choice (log 45). -/
def Obligations.EndsLoopAndPartsStart : Prop :=
  (∀ (s : State) (tones : List Tone), hears tones (some .tapeEnd) none s → s.shc.state = .running →
    s.tac.state = .play →
    (s.shc.loops ≠ 0 → min (s.shc.loopsDone + 1) 255 = s.shc.loops → s.shc.cut = none →
      ∃ t, exec (.blockTimerExpiry tones) s = .next t ∧
        t.shc = { s.shc with state := .stopped, stopReason := some .ended, cues := [],
                             loopsDone := s.shc.loops, register := .empty, returning := false } ∧
        t.fe.fade = some ⟨s.fe.level, 0, 100, 0, .smooth, .theShow, none⟩ ∧ t.fe.level = s.fe.level ∧
        t.tac.state = .stopped ∧ t.tac.brake = some .forward ∧ t.tac.order = none ∧ t.cdec.gateOpen = false ∧
        onlyChanges (.cdec :: .shc :: .fe :: .user :: .tac :: reports) s t) ∧
    (s.shc.loops = 0 ∨ min (s.shc.loopsDone + 1) 255 ≠ s.shc.loops → s.shc.cut = none →
      ∃ t, exec (.blockTimerExpiry tones) s = .next t ∧
        t.shc = { s.shc with
          state := .looping, cues := [], loopsDone := min (s.shc.loopsDone + 1) 255
          register := .empty, returning := false
          parts := { rewind := some .outstanding, goto := none, strike := none, fade := some .outstanding } } ∧
        t.fe.fade = some ⟨s.fe.level, 0, 50, 0, .smooth, .theShow, none⟩ ∧ t.fe.level = s.fe.level ∧
        t.tac.state = .stopped ∧ t.tac.brake = some .forward ∧ t.tac.order = some ⟨.rewind, .theShow⟩ ∧
        t.cdec.gateOpen = false ∧ onlyChanges (.cdec :: .shc :: .fe :: .user :: .tac :: reports) s t) ∧
    (s.shc.cut.isSome → s.shc.cues.length < 4 →
      ∃ t, exec (.blockTimerExpiry tones) s = .next t ∧
        t.shc = { s.shc with cues := s.shc.cues ++ [.tapeEnd] } ∧ onlyChanges [.cdec, .shc] s t)) ∧
  (∀ s : State, runs s → s.shc.state = .running → s.tac.state = .play →
    ∃ t, exec (.tapeEndSensor true) s = .next t ∧ t.tac.endFlag = true ∧ t.tac.state = .stopped ∧
      t.tac.brake = some .forward ∧ t.shc.cut = none ∧ t.shc.cues = [] ∧
      t.shc.loopsDone = min (s.shc.loopsDone + 1) 255 ∧
      t.shc.issued = (if s.shc.cut.isSome then s.shc.issued.map Issued.ordinary else s.shc.issued) ∧
      (s.shc.loops ≠ 0 → min (s.shc.loopsDone + 1) 255 = s.shc.loops →
        t.shc.state = .stopped ∧ t.shc.stopReason = some .ended ∧ t.tac.order = none ∧
        t.fe.fade = some ⟨s.fe.level, 0, 100, 0, .smooth, .theShow, none⟩) ∧
      (s.shc.loops = 0 ∨ min (s.shc.loopsDone + 1) 255 ≠ s.shc.loops →
        t.shc.state = .looping ∧ t.tac.order = some ⟨.rewind, .theShow⟩ ∧
        t.fe.fade = some ⟨s.fe.level, 0, 50, 0, .smooth, .theShow, none⟩ ∧
        t.shc.parts =
          { rewind := some .outstanding, goto := none, strike := none, fade := some .outstanding }) ∧
      raised .tapeEnd .note .empty s t ∧
      onlyChanges (.pins :: .cdec :: .shc :: .fe :: .user :: .tac :: faultReports) s t) ∧
  (∀ (s : State) (r : FadeRecord) (p : Slot), runs s → showFadeEnds r s → s.shc.state = .looping →
    s.shc.parts.fade = some .outstanding → s.shc.startSlot = some p → s.mq.length < 8 →
    ∃ t, exec .fadeStep s = .next t ∧ t.fe.fade = none ∧ t.mq = s.mq ++ [⟨.goto p, .theShow, none, false⟩] ∧
      t.shc = { s.shc with
        parts := { s.shc.parts with fade := some .done, goto := some .outstanding }
        issued := s.shc.issued ++ [⟨.loopReturn, none⟩] } ∧
      onlyChanges (.fe :: .dimmer :: .watch :: .response :: .user :: .mq :: .shc :: reports) s t) ∧
  (∀ (s : State) (m : Motion) (rest : List Motion) (item : Issued) (more : List Issued) (parts : Parts), runs s →
    showMoveEnds m rest item more s → item.purpose = .start ∨ item.purpose = .loopReturn →
    s.shc.state = .starting ∨ s.shc.state = .looping → s.shc.parts.goto = some .outstanding →
    parts = { s.shc.parts with goto := some .done } →
    (parts.outstanding = true →
      ∃ t, exec (.gateSeated true) s = .next t ∧ seated rest s t ∧
        t.shc = { s.shc with issued := more, parts := parts } ∧
        onlyChanges (.pins :: .tgc :: .shutter :: .mq :: .shc :: reports) s t) ∧
    (parts.outstanding = false → parts.anyFailed = false → s.shc.cues = [] → s.tac.state = .stopped →
      s.tac.brake = none → s.tac.endFlag = false →
      ∃ t, exec (.gateSeated true) s = .next t ∧ seated rest s t ∧
        t.shc = { s.shc with state := .running, issued := more, parts := .empty, pointer := 0,
                             register := .empty, returning := false } ∧
        t.fe.fade = some ⟨s.fe.level, s.retained.params.showLevel, 50, 0, .smooth, .theShow, none⟩ ∧
        t.tac.state = .play ∧ t.cdec.gateOpen = true ∧
        onlyChanges (.pins :: .tgc :: .shutter :: .mq :: .shc :: .fe :: .user :: .tac :: .cdec :: reports) s t)) ∧
  (∀ (s : State) (parts : Parts), runs s → s.tac.state = .rewind →
    s.shc.state = .starting ∨ s.shc.state = .looping → s.shc.parts.rewind = some .outstanding →
    parts = { s.shc.parts with rewind := some .done } →
    ∃ t, exec (.tapeBeginSensor true) s = .next t ∧ t.tac.state = .stopped ∧ t.tac.brake = some .backward ∧
      t.tac.counter = 0 ∧
      (parts.outstanding = true → t.shc = { s.shc with parts := parts } ∧
        onlyChanges (.pins :: .tac :: .shc :: reports) s t) ∧
      (∀ p, parts.outstanding = false → parts.goto = some .failed → s.shc.startSlot = some p → s.mq.length < 8 →
        t.mq = s.mq ++ [⟨.goto p, .theShow, none, false⟩] ∧
        t.shc = { s.shc with
          parts := { parts with goto := some .outstanding }
          issued := s.shc.issued ++ [⟨if s.shc.state = .looping then .loopReturn else .start, none⟩] } ∧
        onlyChanges (.pins :: .tac :: .shc :: .mq :: reports) s t) ∧
      (parts.outstanding = false → parts.anyFailed = false → s.shc.cues = [] →
        t.shc = { s.shc with state := .running, parts := .empty, pointer := 0, register := .empty,
                             returning := false } ∧
        t.fe.fade = some ⟨s.fe.level, s.retained.params.showLevel, 50, 0, .smooth, .theShow, none⟩ ∧
        t.tac.order = some ⟨.play, .theShow⟩ ∧ onlyChanges (.pins :: .tac :: .shc :: .fe :: .user :: reports) s t)) ∧
  (∀ s : State, runs s → s.tac.state = .rewind → s.shc.state = .starting ∨ s.shc.state = .looping →
    s.shc.parts.rewind = some .outstanding →
    ∃ t, exec .stallTimerExpiry s = .next t ∧ t.tac.stall = true ∧ t.tac.brake = some .backward ∧
      raised .tapeStall .halt .empty s t ∧
      t.shc = { s.shc with
        state := .held, held := some ⟨false, .tapeStall, s.shc.state⟩, register := .empty, returning := false
        parts := { s.shc.parts with rewind := some .failed } } ∧
      onlyChanges (.tac :: .cdec :: .shc :: faultReports) s t) ∧
  (∀ (s : State) (m : Motion) (item : Issued), takes s → s.mq = [m] → m.active = false → m.source = .theShow →
    s.tgc.cycle = none → s.shc.issued = [item] → item.purpose = .start ∨ item.purpose = .loopReturn →
    s.shc.parts.goto = some .outstanding → { s.shc.parts with goto := some .failed }.outstanding = true →
    ∃ t, exec .haltMotion s = .next t ∧ t.mq = [] ∧
      t.shc = { s.shc with issued := [], parts := { s.shc.parts with goto := some .failed } } ∧
      onlyChanges (.mq :: .shc :: reports) s t) ∧
  ∀ (s : State) (l : Lamp) (parts : Parts), runs s → s.ltc.strike.phase = .check → s.ltc.strike.lamp = l →
    (s.lampRecord l).state = .striking → s.litLamp = none → s.shc.state = .starting →
    s.shc.parts.strike = some .outstanding → parts = { s.shc.parts with strike := some .done } →
    (parts.outstanding = true →
      ∃ t, exec (.currentSenseActive l) s = .next t ∧ (t.lampRecord l).state = .lit ∧
        t.shc = { s.shc with parts := parts } ∧
        onlyChanges (.pins :: .lampA :: .lampB :: .ltc :: .watch :: .fe :: .dimmer :: .thu :: .shc ::
          faultReports) s t) ∧
    (parts.outstanding = false → parts.anyFailed = false → s.shc.cues = [] → s.tac.state = .stopped →
      s.tac.brake = none → s.tac.endFlag = false →
      ∃ t, exec (.currentSenseActive l) s = .next t ∧ (t.lampRecord l).state = .lit ∧
        t.shc = { s.shc with state := .running, parts := .empty, pointer := 0, register := .empty,
                             returning := false } ∧
        t.fe.fade = some ⟨s.fe.level, s.retained.params.showLevel, 50, 0, .smooth, .theShow, none⟩ ∧
        t.tac.state = .play ∧ t.cdec.gateOpen = true ∧
        onlyChanges (.pins :: .lampA :: .lampB :: .ltc :: .watch :: .fe :: .dimmer :: .thu :: .shc :: .user ::
          .tac :: .cdec :: faultReports) s t)

/-- The excursion (R146 to R148). A FORWARD, REVERSE or ENTER key in RUNNING steps aside: EXCURSION, the tape paused,
and the key's move offered. RETURN, by SHOW_RESUME or the key: from a KNOWN register the GOTO back, and RUNNING with
PLAY when it completes in EXCURSION; from an UNKNOWN one RUNNING at once; from an EMPTY one RUNNING at once, with the
guide's waiting moves gone, unless the return is under way. That register and returning flag are empty and clear at
the entry to EXCURSION and back in RUNNING is the model's choice, deduced (log 11), and so is that a GOTO back left by
a stopped show is taken for the return (log 45). -/
def Obligations.ExcursionsStepAsideAndReturn : Prop :=
  (∀ (s : State) (code : Nat) (move : Move), takes s → code ≤ 127 → s.shc.state = .running →
    (s.keyFunction code = .forward ∧ move = .advance 1) ∨ (s.keyFunction code = .backward ∧ move = .back 1) ∨
      (s.keyFunction code = .enter ∧ ∃ (d : Fin 10) (p : Slot), s.rrx.digits = [d.val] ∧ p.val = d.val ∧ p ≠ 0 ∧
        move = .goto p) →
    (∀ m ∈ s.mq, m.source ≠ .remote) → s.mq.length < 8 →
    ∃ t, exec (.keyPress code) s = .next t ∧
      t.shc = { s.shc with state := .excursion, register := .empty, returning := false } ∧
      t.mq = s.mq ++ [⟨move, .remote, none, false⟩] ∧
      (s.tac.state = .play → t.cdec.gateOpen = false ∧
        t.tac = { s.tac with state := .paused, brake := none, stallBrake := false, applied := 0, ramp := none }) ∧
      (s.tac.state ≠ .play → t.tac = s.tac ∧ t.cdec = s.cdec) ∧
      answered (.keyPress code) (okWith (.key (.press .taken))) t ∧
      onlyChanges (.rrx :: .shc :: .mq :: .tac :: .cdec :: reports) s t) ∧
  (∀ (s : State) (code : Nat) (p : Slot), takes s → code ≤ 127 → s.keyFunction code = .returnShow →
    (s.shc.state ≠ .excursion ∨ (s.shc.register = .empty ∧ s.shc.returning = true) →
      ∃ t, exec (.keyPress code) s = .next t ∧ answered (.keyPress code) (okWith (.key (.press .taken))) t ∧
        onlyChanges (.rrx :: reports) s t) ∧
    (s.shc.state = .excursion → s.shc.register = .known p → s.mq.length < 8 →
      ∃ t, exec (.keyPress code) s = .next t ∧ t.mq = s.mq ++ [⟨.goto p, .theShow, none, false⟩] ∧
        t.shc = { s.shc with register := .empty, returning := true,
                             issued := s.shc.issued ++ [⟨.excursionReturn, none⟩] } ∧
        answered (.keyPress code) (okWith (.key (.press .taken))) t ∧
        onlyChanges (.rrx :: .mq :: .shc :: reports) s t)) ∧
  (∀ s : State, takes s → s.shc.state = .excursion →
    (s.shc.register = .empty → s.shc.returning = true →
      ∃ t, exec .showResume s = .next t ∧ answered .showResume (okWith .nothing) t ∧ onlyChanges [.linkOut] s t) ∧
    (s.shc.register = .unknown → s.shc.cues = [] → s.tac.state = .paused → s.tac.endFlag = false →
      ∃ t, exec .showResume s = .next t ∧
        t.shc = { s.shc with state := .running, register := .empty, returning := false } ∧
        t.tac.state = .play ∧ t.cdec.gateOpen = true ∧ answered .showResume (okWith .nothing) t ∧
        onlyChanges (.shc :: .tac :: .cdec :: reports) s t) ∧
    (s.shc.register = .empty → s.shc.returning = false → s.shc.cues = [] → s.tac.state = .paused →
      s.tac.endFlag = false →
      ∃ t, exec .showResume s = .next t ∧
        t.shc = { s.shc with state := .running, register := .empty, returning := false } ∧
        t.mq = s.mq.filter (fun m => m.active || m.source != .remote) ∧
        t.tac.state = .play ∧ t.cdec.gateOpen = true ∧ answered .showResume (okWith .nothing) t ∧
        onlyChanges (.shc :: .mq :: .tac :: .cdec :: reports) s t)) ∧
  ∀ (s : State) (m : Motion) (rest : List Motion) (item : Issued) (more : List Issued), runs s →
    showMoveEnds m rest item more s → item.purpose = .excursionReturn →
    (s.shc.state ≠ .excursion →
      ∃ t, exec (.gateSeated true) s = .next t ∧ seated rest s t ∧ t.shc = { s.shc with issued := more } ∧
        onlyChanges (.pins :: .tgc :: .shutter :: .mq :: .shc :: reports) s t) ∧
    (s.shc.state = .excursion → s.shc.cues = [] → s.tac.state = .paused → s.tac.endFlag = false →
      ∃ t, exec (.gateSeated true) s = .next t ∧ seated rest s t ∧
        t.shc = { s.shc with state := .running, issued := more, register := .empty, returning := false } ∧
        t.tac.state = .play ∧ t.cdec.gateOpen = true ∧
        onlyChanges (.pins :: .tgc :: .shutter :: .mq :: .shc :: .tac :: .cdec :: reports) s t)

/-! ## The tape -/

/-- TAPE requests with the show STOPPED in ACTIVE (R155, R156, R161, R165): from PAUSED and from rest a move begins,
unless its flag bars it; PLAY and FAST_FWD change into each other at once; the other direction, and every move ordered
in a brake period, waits for the period's end; PAUSE and STOP act by the state, and in a brake period remove the order
that waits; a request that finds its state changes nothing; while a show runs all five are refused. The outputs follow
the state and the brake period (R153). That STOP and PAUSE answer NO_CHANGE in a brake period is deduced (log 25). -/
def Obligations.TapeRequestsMoveTheTape : Prop :=
  (∀ s : State, takes s → s.shc.state = .stopped → s.power.mode = .active →
    s.tac.state = .fastFwd ∨
      ((s.tac.state = .paused ∨ (s.tac.state = .stopped ∧ s.tac.brake = none)) ∧ s.tac.endFlag = false) →
    ∃ t, exec .tapePlay s = .next t ∧ t.tac.state = .play ∧ t.tac.brake = none ∧ t.tac.volume = s.tac.volume ∧
      (s.tac.volume = 0 → t.tac.applied = 0 ∧ t.tac.ramp = none) ∧
      (0 < s.tac.volume → s.retained.params.resumeRamp < s.tac.volume →
        t.tac.applied = s.tac.volume ∧ t.tac.ramp = none) ∧
      (0 < s.tac.volume → s.tac.volume ≤ s.retained.params.resumeRamp →
        t.tac.applied = 0 ∧ t.tac.ramp = some ⟨s.tac.volume, s.retained.params.resumeRamp / s.tac.volume⟩) ∧
      t.cdec.gateOpen = true ∧ answered .tapePlay (okWith (.tape .taken t.tac)) t ∧
      onlyChanges (.tac :: .cdec :: reports) s t) ∧
  (∀ s : State, takes s → showAtRest s → s.power.mode = .active →
    s.tac.state = .paused ∨ (s.tac.state = .stopped ∧ s.tac.brake = none) → s.tac.endFlag = true →
    ∃ t, exec .tapePlay s = .next t ∧ t.tac.state = .stopped ∧ t.tac.brake = none ∧ raised .tapeEnd .note .empty s t ∧
      answered .tapePlay (okWith (.tape .atEnd t.tac)) t ∧ onlyChanges (.tac :: faultReports) s t) ∧
  (∀ s : State, takes s → s.shc.state = .stopped → s.power.mode = .active → s.tac.state = .play →
    ∃ t u, exec .tapePlay s = .next t ∧ answered .tapePlay (okWith (.tape .noChange s.tac)) t ∧
      onlyChanges [.linkOut] s t ∧
      exec .tapePause s = .next u ∧ u.tac.state = .paused ∧ u.tac.applied = 0 ∧ u.tac.ramp = none ∧
      u.cdec.gateOpen = false ∧ answered .tapePause (okWith (.tape .taken u.tac)) u ∧
      onlyChanges (.tac :: .cdec :: reports) s u) ∧
  (∀ (s : State) (d : Direction), takes s → s.shc.state = .stopped → s.power.mode = .active →
    s.tac.state.direction = some d →
    ∃ t, exec .tapeStop s = .next t ∧ t.tac.state = .stopped ∧ t.tac.brake = some d ∧ t.tac.order = none ∧
      t.tac.applied = 0 ∧ t.tac.ramp = none ∧ t.tac.counter = s.tac.counter ∧
      answered .tapeStop (okWith (.tape .taken t.tac)) t ∧ onlyChanges (.tac :: .cdec :: reports) s t) ∧
  (∀ s : State, takes s → s.shc.state = .stopped → s.power.mode = .active →
    s.tac.state = .paused ∨ (s.tac.state = .stopped ∧ s.tac.brake = none) →
    ∃ t, exec .tapeFastFwd s = .next t ∧ t.tac.brake = none ∧ t.tac.counter = s.tac.counter ∧
      (s.tac.endFlag = false → t.tac.state = .fastFwd ∧
        answered .tapeFastFwd (okWith (.tape .taken t.tac)) t) ∧
      (s.tac.endFlag = true → t.tac.state = .stopped ∧
        answered .tapeFastFwd (okWith (.tape .atEnd t.tac)) t) ∧
      onlyChanges (.tac :: reports) s t) ∧
  (∀ s : State, takes s → showAtRest s → s.power.mode = .active →
    s.tac.state = .paused ∨ (s.tac.state = .stopped ∧ s.tac.brake = none) →
    ∃ t, exec .tapeRewind s = .next t ∧ t.tac.brake = none ∧
      (s.tac.beginFlag = false → t.tac.state = .rewind ∧ t.tac.counter = s.tac.counter ∧
        answered .tapeRewind (okWith (.tape .taken t.tac)) t) ∧
      (s.tac.beginFlag = true → t.tac.state = .stopped ∧ t.tac.counter = 0 ∧
        answered .tapeRewind (okWith (.tape .atStart t.tac)) t) ∧
      onlyChanges (.tac :: reports) s t) ∧
  (∀ (s : State) (i : Instr) (o : MoveOrder), takes s → s.shc.state = .stopped → s.power.mode = .active →
    s.tac.state = .rewind → (i = .tapePlay ∧ o = .play) ∨ (i = .tapeFastFwd ∧ o = .fastFwd) →
    ∃ t, exec i s = .next t ∧ t.tac.state = .stopped ∧ t.tac.brake = some .backward ∧
      t.tac.order = some ⟨o, .link⟩ ∧ answered i (okWith (.tape .pending t.tac)) t ∧
      onlyChanges (.tac :: reports) s t) ∧
  (∀ s : State, takes s → s.shc.state = .stopped → s.power.mode = .active → s.tac.state = .fastFwd →
    ∃ t, exec .tapeRewind s = .next t ∧ t.tac.state = .stopped ∧ t.tac.brake = some .forward ∧
      t.tac.order = some ⟨.rewind, .link⟩ ∧ answered .tapeRewind (okWith (.tape .pending t.tac)) t ∧
      onlyChanges (.tac :: reports) s t) ∧
  (∀ (s : State) (i : Instr), takes s → s.shc.state = .stopped → s.power.mode = .active →
    (i = .tapeFastFwd ∧ s.tac.state = .fastFwd) ∨ (i = .tapeRewind ∧ s.tac.state = .rewind) ∨
      (i = .tapePause ∧ (s.tac.state = .paused ∨ s.tac.state = .fastFwd ∨ s.tac.state = .rewind ∨
        (s.tac.state = .stopped ∧ s.tac.brake = none))) ∨
      (i = .tapeStop ∧ s.tac.state = .stopped ∧ s.tac.brake = none) →
    ∃ t, exec i s = .next t ∧ answered i (okWith (.tape .noChange s.tac)) t ∧ onlyChanges [.linkOut] s t) ∧
  (∀ s : State, takes s → s.shc.state = .stopped → s.power.mode = .active → s.tac.state = .paused →
    ∃ t, exec .tapeStop s = .next t ∧
      t.tac = { s.tac with state := .stopped, brake := none, stallBrake := false, applied := 0, ramp := none } ∧
      answered .tapeStop (okWith (.tape .taken t.tac)) t ∧ onlyChanges (.tac :: reports) s t) ∧
  (∀ (s : State) (i : Instr), takes s → s.shc.state = .stopped → s.power.mode = .active →
    s.tac.state = .stopped → s.tac.brake.isSome → i = .tapeStop ∨ i = .tapePause →
    ∃ t, exec i s = .next t ∧ t.tac = { s.tac with order := none } ∧
      answered i (okWith (.tape .noChange t.tac)) t ∧ onlyChanges [.tac, .linkOut] s t) ∧
  (∀ (s : State) (i : Instr) (o : MoveOrder), takes s → s.shc.state = .stopped → s.power.mode = .active →
    s.tac.state = .stopped → s.tac.brake.isSome →
    (i = .tapePlay ∧ o = .play) ∨ (i = .tapeFastFwd ∧ o = .fastFwd) ∨ (i = .tapeRewind ∧ o = .rewind) →
    ∃ t, exec i s = .next t ∧ t.tac = { s.tac with order := some ⟨o, .link⟩ } ∧
      answered i (okWith (.tape .pending t.tac)) t ∧ onlyChanges [.tac, .linkOut] s t) ∧
  (∀ s : State, takes s → s.shc.state = .stopped → s.power.mode = .active → s.tac.state = .play →
    ∃ t u, exec .tapeFastFwd s = .next t ∧
      t.tac = { s.tac with state := .fastFwd, brake := none, stallBrake := false, applied := 0, ramp := none } ∧
      t.cdec.gateOpen = false ∧ answered .tapeFastFwd (okWith (.tape .taken t.tac)) t ∧
      onlyChanges (.tac :: .cdec :: reports) s t ∧
      exec .tapeRewind s = .next u ∧ u.tac.state = .stopped ∧ u.tac.brake = some .forward ∧
      u.tac.order = some ⟨.rewind, .link⟩ ∧ u.cdec.gateOpen = false ∧
      answered .tapeRewind (okWith (.tape .pending u.tac)) u ∧ onlyChanges (.tac :: .cdec :: reports) s u) ∧
  (∀ t : Tac,
    (t.outputs.play = true ↔ t.state = .play) ∧ (t.outputs.fastFwd = true ↔ t.state = .fastFwd) ∧
    (t.outputs.rewind = true ↔ t.state = .rewind) ∧
    (t.outputs.brake = true ↔ t.state = .paused ∨ (t.state = .stopped ∧ t.brake.isSome))) ∧
  ∀ (s : State) (i : Instr), takes s → s.shc.state ≠ .stopped ∨ s.power.mode = .windingDown →
    i = .tapePlay ∨ i = .tapePause ∨ i = .tapeStop ∨ i = .tapeFastFwd ∨ i = .tapeRewind →
    ∃ t, exec i s = .next t ∧ answered i (refuse .wrongState) t ∧ onlyChanges [.linkOut] s t

/-- The tape's own events with the show at rest (R156 to R160, R163, R164): the sensors set and clear the flags and stop
a tape that reaches its end or its head; a stall stops a moving tape with A1; a brake period's end carries out what
waits, a PLAY only with the show RUNNING or STOPPED; the reel counts by its direction, and a turn of it clears the stall
indication once the stall's brake period is over; the volume ramps in PLAY, one step at a time. -/
def Obligations.TapeEventsFollowTheTape : Prop :=
  (∀ s : State, runs s → showAtRest s → s.tac.state = .rewind →
    ∃ t, exec (.tapeBeginSensor true) s = .next t ∧ t.tac.beginFlag = true ∧ t.tac.state = .stopped ∧
      t.tac.brake = some .backward ∧ t.tac.counter = 0 ∧ onlyChanges (.pins :: .tac :: reports) s t) ∧
  (∀ s : State, runs s → showAtRest s → s.tac.state = .play →
    ∃ t, exec (.tapeEndSensor true) s = .next t ∧ t.tac.endFlag = true ∧ t.tac.state = .stopped ∧
      t.tac.brake = some .forward ∧ t.tac.applied = 0 ∧ t.cdec.gateOpen = false ∧
      raised .tapeEnd .note .empty s t ∧ onlyChanges (.pins :: .tac :: .cdec :: faultReports) s t) ∧
  (∀ s : State, runs s → s.tac.state = .stopped →
    ∃ t, exec (.tapeBeginSensor true) s = .next t ∧
      (s.tac.brake = some .backward → t.tac = { s.tac with beginFlag := true, counter := 0 }) ∧
      (s.tac.brake ≠ some .backward → t.tac = { s.tac with beginFlag := true }) ∧ onlyChanges [.pins, .tac] s t) ∧
  (∀ s : State, runs s → s.tac.state = .play ∨ s.tac.state = .paused ∨ s.tac.state = .fastFwd →
    ∃ t, exec (.tapeBeginSensor true) s = .next t ∧ t.tac = { s.tac with beginFlag := true } ∧
      onlyChanges [.pins, .tac] s t) ∧
  (∀ s : State, runs s → s.tac.state = .fastFwd →
    ∃ t, exec (.tapeEndSensor true) s = .next t ∧
      t.tac = { s.tac with endFlag := true, state := .stopped, brake := some .forward, stallBrake := false,
                           applied := 0, ramp := none } ∧ onlyChanges (.pins :: .tac :: reports) s t) ∧
  (∀ s : State, runs s → s.tac.state = .stopped ∨ s.tac.state = .paused ∨ s.tac.state = .rewind →
    ∃ t, exec (.tapeEndSensor true) s = .next t ∧ t.tac = { s.tac with endFlag := true } ∧
      onlyChanges [.pins, .tac] s t) ∧
  (∀ s : State, runs s → ∃ t u, exec (.tapeBeginSensor false) s = .next t ∧
    t.tac = { s.tac with beginFlag := false } ∧ onlyChanges [.pins, .tac] s t ∧
    exec (.tapeEndSensor false) s = .next u ∧ u.tac = { s.tac with endFlag := false } ∧
    onlyChanges [.pins, .tac] s u) ∧
  (∀ (s : State) (d : Direction), runs s → showAtRest s → s.tac.state.direction = some d →
    ∃ t, exec .stallTimerExpiry s = .next t ∧ t.tac.state = .stopped ∧ t.tac.brake = some d ∧
      t.tac.order = none ∧ t.tac.stall = true ∧ t.tac.applied = 0 ∧ raised .tapeStall .halt .empty s t ∧
      onlyChanges (.tac :: .cdec :: faultReports) s t) ∧
  (∀ s : State, runs s → s.tac.state.direction = none → exec .stallTimerExpiry s = .next s) ∧
  (∀ s : State, runs s → s.tac.brake.isSome → s.tac.order = none →
    ∃ t, exec .brakePeriodEnd s = .next t ∧ t.tac = { s.tac with brake := none, stallBrake := false } ∧
      onlyChanges [.tac] s t) ∧
  (∀ s : State, runs s → s.tac.state = .stopped → s.tac.brake.isSome →
    s.tac.order = some ⟨.rewind, .theShow⟩ → s.tac.beginFlag = false →
    ∃ t, exec .brakePeriodEnd s = .next t ∧ t.tac.state = .rewind ∧ t.tac.brake = none ∧ t.tac.order = none ∧
      onlyChanges (.tac :: reports) s t) ∧
  (∀ (s : State) (issuer : TapeIssuer), runs s → s.tac.state = .stopped → s.tac.brake.isSome →
    s.tac.endFlag = false →
    (s.tac.order = some ⟨.play, issuer⟩ → s.shc.state = .stopped ∨ s.shc.state = .running →
      ∃ t, exec .brakePeriodEnd s = .next t ∧ t.tac.state = .play ∧ t.tac.brake = none ∧ t.tac.order = none ∧
        t.cdec.gateOpen = true ∧ onlyChanges (.tac :: .cdec :: reports) s t) ∧
    (s.tac.order = some ⟨.play, issuer⟩ → s.shc.state ≠ .stopped → s.shc.state ≠ .running →
      ∃ t, exec .brakePeriodEnd s = .next t ∧
        t.tac = { s.tac with brake := none, stallBrake := false, order := none } ∧ onlyChanges [.tac] s t) ∧
    (s.tac.order = some ⟨.fastFwd, issuer⟩ →
      ∃ t, exec .brakePeriodEnd s = .next t ∧
        t.tac = { s.tac with state := .fastFwd, brake := none, stallBrake := false, order := none, applied := 0,
                             ramp := none } ∧ onlyChanges (.tac :: reports) s t)) ∧
  (∀ s : State, runs s → ∃ t, exec .reelPulse s = .next t ∧
    (s.tac.state = .paused ∨ (s.tac.state = .stopped ∧ s.tac.brake = none) →
      t.tac = { s.tac with stall := s.tac.stall && s.tac.stallBrake }) ∧
    (s.tac.state = .play ∨ s.tac.state = .fastFwd ∨ (s.tac.state = .stopped ∧ s.tac.brake = some .forward) →
      t.tac = { s.tac with counter := min (s.tac.counter + 1) 65535, stall := s.tac.stall && s.tac.stallBrake }) ∧
    (s.tac.state = .rewind ∨ (s.tac.state = .stopped ∧ s.tac.brake = some .backward) →
      t.tac = { s.tac with counter := s.tac.counter - 1, stall := s.tac.stall && s.tac.stallBrake }) ∧
    onlyChanges [.tac] s t) ∧
  (∀ (s : State) (volume ramp : Nat), takes s → ∃ t, exec (.volume volume ramp) s = .next t ∧
    volumed (min volume 63) (min ramp 10000) s t ∧
    answered (.volume volume ramp)
      (okClamped (decide (63 < volume) || decide (10000 < ramp)) (.volume t.tac)) t ∧
    onlyChanges [.tac, .linkOut] s t) ∧
  ∀ (s : State) (r : Ramp), runs s → s.tac.ramp = some r →
    ∃ t, exec .rampTimerExpiry s = .next t ∧
      (s.tac.applied < r.target → t.tac.applied = s.tac.applied + 1) ∧
      (r.target < s.tac.applied → t.tac.applied = s.tac.applied - 1) ∧
      (s.tac.applied ≠ r.target → t.tac.ramp = (if t.tac.applied = r.target then none else some r)) ∧
      t.tac.state = s.tac.state ∧ onlyChanges [.tac] s t

/-! ## The handset and the panel -/

/-- A panel press by the function of its code (R170, R173, R175 to R181): the old hold ends, the key is held, and the
function acts by the states of the show, the light and the lamps (R83, R142, R146): a LAMP key puts out a burning
lamp, strikes a dark one, and finds a barred strike refused; a LIGHT key fades by 50, and where its fade replaces that
of a wind-down with nothing lit, the part enters STANDBY, which ends the hold (R183, R206, R207); a move is offered
with the show STOPPED, and in EXCURSION with no return under way, and REFUSED where R146 says; ENTER with a slot of
1..90 is such a move, and with any other number clears the digits. A code above 127 is refused. That a PAUSE key's
change of state empties the return register and clears the returning flag is the model's choice, deduced (log 11), and
so is, as a design choice, that its clauses hold also where it comes together with the hold timer's expiry (log 49). -/
def Obligations.PanelKeysAct : Prop :=
  (∀ (s : State) (code : Nat) (f : KeyFunction), takes s → code ≤ 127 → s.keyFunction code = f →
    (f = .lightUp ∨ f = .lightDown →
      s.power.mode = .active ∨ ∀ r, s.fe.fade = some r → r.origin ≠ .power) →
    ∃ t, exec (.keyPress code) s = .next t ∧ t.rrx.held = some ⟨.panel, code, f, true⟩ ∧ t.rrx.state = .held ∧
      (f = .nothing → t.rrx.focus = .off ∧ t.rrx.repeatTimer = none ∧ t.rrx.digits = s.rrx.digits ∧
        answered (.keyPress code) (okWith (.key (.press .nothing))) t ∧ onlyChanges (.rrx :: reports) s t) ∧
      (f = .focusNear → t.rrx.focus = .near ∧ t.rrx.spent = false ∧ t.rrx.repeatTimer = none ∧
        answered (.keyPress code) (okWith (.key (.press .taken))) t ∧ onlyChanges (.rrx :: reports) s t) ∧
      (f = .focusFar → t.rrx.focus = .far ∧ t.rrx.spent = false ∧ t.rrx.repeatTimer = none ∧
        answered (.keyPress code) (okWith (.key (.press .taken))) t ∧ onlyChanges (.rrx :: reports) s t) ∧
      (f = .blank → t.tgc = { s.tgc with blank := !s.tgc.blank, shutter := t.tgc.shutter } ∧
        answered (.keyPress code) (okWith (.key (.press .taken))) t ∧
        onlyChanges (.rrx :: .tgc :: .shutter :: reports) s t) ∧
      (∀ d, f = .digit d →
        (s.rrx.digits = [] → t.rrx.digits = [d.val]) ∧
        (∀ a, s.rrx.digits = [a] → t.rrx.digits = [a, d.val]) ∧
        (∀ a b, s.rrx.digits = [a, b] → t.rrx.digits = [b, d.val]) ∧
        answered (.keyPress code) (okWith (.key (.press .taken))) t ∧ onlyChanges (.rrx :: reports) s t)) ∧
  (∀ (s : State) (code : Nat) (up : Bool), takes s → code ≤ 127 →
    s.keyFunction code = (if up then .lightUp else .lightDown) →
    (∀ r, s.fe.fade = some r → r.origin = .link ∨ r.origin = .remote ∨
      (r.origin = .theShow ∧ s.shc.cut = none ∧ s.shc.parts.fade ≠ some .outstanding) ∨
      (r.origin = .power ∧ s.power.mode = .active)) →
    ∃ t, exec (.keyPress code) s = .next t ∧
      t.fe.fade =
        some ⟨s.fe.level, if up then min (s.fe.level + 50) 1000 else s.fe.level - 50, 5, 0, .linear, .remote, none⟩ ∧
      t.fe.level = s.fe.level ∧ answered (.keyPress code) (okWith (.key (.press .taken))) t ∧
      onlyChanges (.rrx :: .fe :: .user :: reports) s t) ∧
  (∀ (s : State) (code : Nat) (up : Bool) (r : FadeRecord), takes s → code ≤ 127 →
    s.keyFunction code = (if up then .lightUp else .lightDown) → s.fe.fade = some r → r.origin = .power →
    s.power.mode = .windingDown → s.power.step = some .fading → showAtRest s → s.ltc.strike.phase = .idle →
    s.litLamp = none → s.strikingLamp = none → s.thu.cooldown = none →
    ∃ t, exec (.keyPress code) s = .next t ∧ inStandby s t ∧ t.rrx.state = .idle ∧
      answered (.keyPress code) (okWith (.key (.press .taken))) t) ∧
  (∀ (s : State) (code : Nat), takes s → code ≤ 127 → s.keyFunction code = .pause →
    (s.shc.state ≠ .running → s.shc.state ≠ .paused →
      ∃ t, exec (.keyPress code) s = .next t ∧ answered (.keyPress code) (okWith (.key (.press .taken))) t ∧
        onlyChanges (.rrx :: reports) s t) ∧
    (s.shc.state = .running →
      ∃ t, exec (.keyPress code) s = .next t ∧
        t.shc = { s.shc with state := .paused, register := .empty, returning := false } ∧
        t.tac.state = (if s.tac.state = .play then .paused else s.tac.state) ∧
        answered (.keyPress code) (okWith (.key (.press .taken))) t ∧
        onlyChanges (.rrx :: .shc :: .tac :: .cdec :: reports) s t) ∧
    (s.shc.state = .paused → s.shc.cues = [] → s.tac.state = .paused → s.tac.endFlag = false →
      ∃ t, exec (.keyPress code) s = .next t ∧
        t.shc = { s.shc with state := .running, hold := none, register := .empty, returning := false } ∧
        t.tac.state = .play ∧ answered (.keyPress code) (okWith (.key (.press .taken))) t ∧
        onlyChanges (.rrx :: .shc :: .tac :: .cdec :: reports) s t)) ∧
  (∀ (s : State) (code : Nat), takes s → code ≤ 127 → s.keyFunction code = .lamp →
    (s.litLamp = none → s.strikingLamp = none → s.ltc.strike.phase = .idle → s.thu.bars = true →
      ∃ t, exec (.keyPress code) s = .next t ∧ answered (.keyPress code) (okWith (.key (.press .taken))) t ∧
        onlyChanges (.rrx :: reports) s t) ∧
    (∀ l, (s.lampRecord l).state = .lit →
      (s.lampRecord (otherLamp l)).state = .ready ∨ (s.lampRecord (otherLamp l)).state = .failed →
      s.ltc.strike.phase = .idle →
      ∃ t, exec (.keyPress code) s = .next t ∧ t.lampRecord l = { s.lampRecord l with state := .ready } ∧
        t.lampRecord (otherLamp l) = s.lampRecord (otherLamp l) ∧ t.fe.applied = 0 ∧ t.fe.drive = 0 ∧
        t.thu.cooldown = some 0 ∧ answered (.keyPress code) (okWith (.key (.press .taken))) t ∧
        onlyChanges (.rrx :: .lampA :: .lampB :: .fe :: .dimmer :: .watch :: .thu :: reports) s t) ∧
    (∀ l, s.litLamp = none → s.strikingLamp = none → s.ltc.strike.phase = .idle → s.thu.bars = false →
      s.power.mode = .active → s.selectLamp = l → s.ltc.position = .facing l →
      s.retained.lampA.state = .ready ∨ s.retained.lampB.state = .ready →
      ∃ t, exec (.keyPress code) s = .next t ∧ (t.lampRecord l).state = .striking ∧
        t.lampRecord (otherLamp l) = s.lampRecord (otherLamp l) ∧
        t.ltc.strike = { phase := .preheat, lamp := l, origins := [.remote], follow := false, retried := false } ∧
        t.thu.cooldown = none ∧ answered (.keyPress code) (okWith (.key (.press .taken))) t ∧
        onlyChanges (.rrx :: .lampA :: .lampB :: .ltc :: .watch :: .fe :: .dimmer :: .thu :: .causes ::
          reports) s t)) ∧
  (∀ (s : State) (code : Nat) (move : Move), takes s → code ≤ 127 →
    (s.keyFunction code = .forward ∧ move = .advance 1) ∨ (s.keyFunction code = .backward ∧ move = .back 1) →
    ∃ t, exec (.keyPress code) s = .next t ∧ t.rrx.repeatTimer = some .first ∧
      (s.shc.state = .stopped ∨ (s.shc.state = .excursion ∧ s.shc.returning = false) →
        (∀ m ∈ s.mq, m.source ≠ .remote) →
        (s.mq.length < 8 → t.mq = s.mq ++ [⟨move, .remote, none, false⟩] ∧ t.rrx.dropped = s.rrx.dropped ∧
          answered (.keyPress code) (okWith (.key (.press .taken))) t ∧ onlyChanges (.rrx :: .mq :: reports) s t) ∧
        (8 ≤ s.mq.length → t.rrx.dropped = min (s.rrx.dropped + 1) 65535 ∧
          answered (.keyPress code) (okWith (.key (.press .dropped))) t ∧ onlyChanges (.rrx :: reports) s t)) ∧
      (∀ before, s.shc.state = .stopped → s.mq = before ++ [⟨move, .remote, none, false⟩] →
        t.mq = before ++ [⟨if move = .advance 1 then .advance 2 else .back 2, .remote, none, false⟩] ∧
        answered (.keyPress code) (okWith (.key (.press .taken))) t ∧ onlyChanges (.rrx :: .mq :: reports) s t) ∧
      (s.shc.state = .starting ∨ s.shc.state = .paused ∨ s.shc.state = .held ∨ s.shc.state = .looping ∨
          (s.shc.state = .excursion ∧ s.shc.returning = true) →
        answered (.keyPress code) (okWith (.key (.press .refused))) t ∧ onlyChanges (.rrx :: reports) s t)) ∧
  (∀ (s : State) (code n : Nat), takes s → code ≤ 127 → s.keyFunction code = .enter → s.shc.state = .stopped →
    s.rrx.digits = [n] ∨ (∃ a b, s.rrx.digits = [a, b] ∧ n = 10 * a + b) ∨ (s.rrx.digits = [] ∧ n = 0) →
    ∃ t, exec (.keyPress code) s = .next t ∧ t.rrx.digits = [] ∧
      (∀ p : Slot, p.val = n → p ≠ 0 → s.mq.length < 8 →
        t.mq = s.mq ++ [⟨.goto p, .remote, none, false⟩] ∧
        answered (.keyPress code) (okWith (.key (.press .taken))) t ∧ onlyChanges (.rrx :: .mq :: reports) s t) ∧
      (n = 0 ∨ 90 < n → answered (.keyPress code) (okWith (.key (.press .cleared))) t ∧
        onlyChanges (.rrx :: reports) s t)) ∧
  ∀ (s : State) (code : Nat), takes s → 127 < code →
    ∃ t, exec (.keyPress code) s = .next t ∧ answered (.keyPress code) (refuse .badValue) t ∧
      onlyChanges [.linkOut] s t

/-- KEY HOLD and RELEASE of the panel key held, and of any other (R172, R181); SET_KEYMAP writes functions from a start
code upward, and all of them or none (R173). The receiver's timers (R172, R175, R176, R178): the release ends the hold
and the focus motor; an auto-repeat moves again and runs on; the focus timer stops the motor for the rest of the hold;
the clear timer empties the digits. A repeat's trailing mark is timed no more once the hold has ended (log 28). -/
def Obligations.HoldsReleasesAndTheKeyMap : Prop :=
  (∀ (s : State) (code : Nat) (k : HeldKey), takes s → code ≤ 127 → s.rrx.held = some k → k.source = .panel →
    k.code = code →
    ∃ u, exec (.keyRelease code) s = .next u ∧ u.rrx.held = none ∧ u.rrx.repeatTimer = none ∧
      u.rrx.focus = .off ∧ (s.rrx.state ≠ .frame → u.rrx.state = .idle) ∧ u.rrx.digits = s.rrx.digits ∧
      answered (.keyRelease code) (okWith (.key .held)) u ∧ onlyChanges [.rrx, .linkOut] s u) ∧
  (∀ (s : State) (code : Nat) (k : HeldKey), takes s → code ≤ 127 → s.rrx.held = some k → k.source = .panel →
    k.code = code → k.function ≠ .lightUp → k.function ≠ .lightDown →
    ∃ t, exec (.keyHold code) s = .next t ∧ answered (.keyHold code) (okWith (.key .held)) t ∧
      onlyChanges [.linkOut] s t) ∧
  (∀ (s : State) (code : Nat) (k : HeldKey), takes s → code ≤ 127 → s.rrx.held = some k → k.source = .panel →
    k.code = code → k.function = .lightUp → k.permitted = true → s.fe.fade = none →
    ∃ t, exec (.keyHold code) s = .next t ∧
      t.fe.fade = some ⟨s.fe.level, min (s.fe.level + 50) 1000, 5, 0, .linear, .remote, none⟩ ∧
      answered (.keyHold code) (okWith (.key .held)) t ∧ onlyChanges [.fe, .linkOut] s t) ∧
  (∀ (s : State) (code : Nat), takes s → code ≤ 127 →
    (∀ k, s.rrx.held = some k → k.source = .handset ∨ k.code ≠ code) →
    ∃ t u, exec (.keyHold code) s = .next t ∧ exec (.keyRelease code) s = .next u ∧
      answered (.keyHold code) (okWith (.key .notHeld)) t ∧ answered (.keyRelease code) (okWith (.key .notHeld)) u ∧
      onlyChanges [.linkOut] s t ∧ onlyChanges [.linkOut] s u) ∧
  (∀ (s : State) (start : Nat) (numbers : List Nat) (functions : List KeyFunction), takes s →
    numbers.length ≤ 16 → functionsOperand numbers = some functions → start + numbers.length ≤ 128 → start ≤ 127 →
    ∃ t, exec (.setKeymap start numbers) s = .next t ∧
      (∀ i, t.retained.keymap[i]? =
        if start ≤ i ∧ i < start + numbers.length then functions[i - start]? else s.retained.keymap[i]?) ∧
      answered (.setKeymap start numbers)
        (okWith (.keymap ((t.retained.keymap.toList.drop start).take 16) s.rrx s.retained.params.remoteChannel
          s.retained.params.lockLevel)) t ∧
      onlyChanges [.keymap, .linkOut] s t) ∧
  (∀ (s : State) (start : Nat) (numbers : List Nat), takes s → numbers.length ≤ 16 →
    (∃ n ∈ numbers, 21 < n) ∨ 127 < start ∨ 128 < start + numbers.length →
    ∃ t, exec (.setKeymap start numbers) s = .next t ∧ answered (.setKeymap start numbers) (refuse .badValue) t ∧
      onlyChanges [.linkOut] s t) ∧
  (∀ (s : State) (k : HeldKey), alive s → s.rrx.held = some k → s.rrx.state ≠ .frame →
    ∃ t, exec .releaseTimerExpiry s = .next t ∧
      t.rrx = { s.rrx with
        held := none, repeatTimer := none, focus := .off, state := .idle
        measure := if s.rrx.measure = .repeatMark then .none else s.rrx.measure } ∧
      onlyChanges [.rrx] s t) ∧
  (∀ (s : State) (k : HeldKey), runs s → s.rrx.held = some k → k.function = .forward →
    s.rrx.repeatTimer.isSome → s.shc.state = .stopped → s.mq = [] →
    ∃ t, exec .autoRepeatExpiry s = .next t ∧ t.mq = [⟨.advance 1, .remote, none, false⟩] ∧
      t.rrx = { s.rrx with repeatTimer := some .next } ∧ onlyChanges [.mq, .rrx] s t) ∧
  (∀ s : State, runs s → s.rrx.focus ≠ .off →
    ∃ t, exec .focusTimerExpiry s = .next t ∧ t.rrx = { s.rrx with focus := .off, spent := true } ∧
      onlyChanges [.rrx] s t) ∧
  ∀ s : State, runs s → ∃ t, exec .clearTimerExpiry s = .next t ∧ t.rrx = { s.rrx with digits := [] } ∧
    onlyChanges [.rrx] s t

/-- The handset's frames (R168 to R172, R174, R182): the timed elements of a frame are the frame; a check that fails,
a timing fault and a foreign channel end a hold and are counted; a valid focus press turns the motor; a press the lock
refuses is counted and does nothing; a known key wakes a part in STANDBY; a repeat outside HELD is a stray, and one in
HELD repeats a LIGHT key. The automaton of the elements is the model's choice where R169 leaves it open (log 28), and so
is that a handset's repeat acts on a hold of a panel key too (log 48). -/
def Obligations.HandsetFramesAct : Prop :=
  (∀ (s : State) (word : BitVec 16), s.rrx.measure = .none →
    exec (.irFrame (.elements (frameElements word))) s = exec (.irFrame (.bits word)) s) ∧
  (∀ (s : State) (word : BitVec 16), alive s → word.toNat % 16 ≠ irCheck (irChannel word) (irKey word) →
    ∃ t, exec (.irFrame (.bits word)) s = .next t ∧ exec .irTimingFault s = .next t ∧
      t.rrx = { s.rrx with state := .idle, measure := .none, held := none, repeatTimer := none, focus := .off,
                           bad := min (s.rrx.bad + 1) 65535 } ∧ onlyChanges [.rrx] s t) ∧
  (∀ (s : State) (word : BitVec 16), alive s → word.toNat % 16 = irCheck (irChannel word) (irKey word) →
    s.retained.params.remoteChannel ≠ 0 → s.retained.params.remoteChannel ≠ irChannel word →
    ∃ t, exec (.irFrame (.bits word)) s = .next t ∧
      t.rrx = { s.rrx with state := .idle, measure := .none, held := none, repeatTimer := none, focus := .off,
                           foreign := min (s.rrx.foreign + 1) 65535 } ∧ onlyChanges [.rrx] s t) ∧
  (∀ (s : State) (word : BitVec 16), runs s → word.toNat % 16 = irCheck (irChannel word) (irKey word) →
    s.retained.params.remoteChannel = 0 ∨ s.retained.params.remoteChannel = irChannel word →
    (s.keyFunction (irKey word) = .focusFar →
      ∃ t, exec (.irFrame (.bits word)) s = .next t ∧ t.rrx.held = some ⟨.handset, irKey word, .focusFar, true⟩ ∧
        t.rrx.focus = .far ∧ t.rrx.state = .held ∧ onlyChanges (.rrx :: reports) s t) ∧
    (s.keyFunction (irKey word) = .lamp → s.retained.params.lockLevel = .showLock → s.shc.state ≠ .stopped →
      ∃ t, exec (.irFrame (.bits word)) s = .next t ∧ t.rrx.held = some ⟨.handset, irKey word, .lamp, false⟩ ∧
        t.rrx.refused = min (s.rrx.refused + 1) 65535 ∧ onlyChanges (.rrx :: reports) s t)) ∧
  (∀ (s : State) (word : BitVec 16), alive s → s.power.mode = .standby → s.power.signature = .agrees →
    word.toNat % 16 = irCheck (irChannel word) (irKey word) → s.retained.params.remoteChannel = 0 →
    s.keyFunction (irKey word) ≠ .nothing →
    ∃ t, exec (.irFrame (.bits word)) s = .next t ∧
      t.power = ⟨true, .active, none, .wake, .valid, .absent⟩ ∧
      t.rrx.held = some ⟨.handset, irKey word, .nothing, true⟩ ∧ t.rrx.state = .held ∧ t.mq = s.mq ∧
      t.shc = s.shc) ∧
  (∀ s : State, alive s → s.rrx.state ≠ .held → exec .irRepeat s = .next s) ∧
  ∀ (s : State) (k : HeldKey), runs s → s.rrx.state = .held → s.rrx.held = some k → k.permitted = true →
    k.function = .lightDown → s.fe.fade = none →
    ∃ t, exec .irRepeat s = .next t ∧
      t.fe.fade = some ⟨s.fe.level, s.fe.level - 50, 5, 0, .linear, .remote, none⟩ ∧
      t.rrx.held = some k ∧ onlyChanges [.fe, .rrx] s t

/-! ## Faults and the report switch -/

/-- CLEAR_FAULTS (R190): first-fault record, later-fault set, its count and the sticky set are emptied, the reply
carries them as they stood, nothing else changes, and the next raising fills the first-fault record; in STANDBY the
link answers WRONG_STATE. -/
def Obligations.ClearFaultsEmptiesTheRecords : Prop :=
  (∀ s : State, takes s →
    ∃ t, exec .clearFaults s = .next t ∧ t.flt.first = none ∧ t.flt.later = [] ∧ t.flt.laterCount = 0 ∧
      t.flt.sticky = [] ∧
      answered .clearFaults (okWith (.cleared s.flt.first s.flt.later s.flt.laterCount s.flt.sticky)) t ∧
      onlyChanges [.faults, .linkOut] s t ∧
      ∀ (code : FaultCode) (severity : Severity) (detail : Detail),
        (raiseAs code severity detail t).flt.first = some ⟨code, severity, t.flt.seconds, detail⟩ ∧
        (raiseAs code severity detail t).flt.later = [] ∧ (raiseAs code severity detail t).flt.laterCount = 0) ∧
  ∀ s : State, alive s → s.power.mode = .standby → s.link.resetTaken = false →
    ∃ t, exec .clearFaults s = .next t ∧ answered .clearFaults (refuse .wrongState) t ∧
      onlyChanges [.linkOut] s t

/-! ## Power states -/

/-- STANDBY, WAKE and RESET (R205 to R208, R210): a wind-down stops a show that runs and a tape that moves, and begins
with a fade to 0 of the power-state logic's in place of any fade. Its last step ends it in STANDBY, with the signature
written, where nothing burns or cools, and in COOLING where a lamp burned; there the cool-down's end, at a second of
it or at a reading (R104), is the entry to STANDBY. A WAKE turns a wind-down back, and wakes a part in STANDBY whose
signature agrees; a RESET is answered first and takes the link's last request. Which row of R23 a seat retry within a
HOME run follows, when the show's stop cancels it, is the model's choice (log 24). -/
def Obligations.StandbyAndWake : Prop :=
  (∀ s : State, takes s → s.power.mode = .active → s.shc.state = .stopped → s.fe.fade = none →
    s.tac.state = .stopped → s.tac.brake = none →
    ∃ t, exec .standby s = .next t ∧
      t.power = { s.power with mode := .windingDown, step := some .fading } ∧
      t.fe.fade = some ⟨s.fe.level, 0, 50, 0, .smooth, .power, none⟩ ∧ t.fe.level = s.fe.level ∧
      answered .standby (okWith .nothing) t ∧ onlyChanges [.power, .fe, .linkOut] s t) ∧
  (∀ s : State, takes s → s.power.mode = .active → s.shc.state ≠ .stopped →
    ∃ t, exec .standby s = .next t ∧ t.power = { s.power with mode := .windingDown, step := some .fading } ∧
      t.shc.state = .stopped ∧ t.shc.stopReason = some .power ∧ t.shc.parts = .empty ∧ t.shc.cut = none ∧
      t.shc.cues = [] ∧ t.shc.hold = none ∧ t.shc.held = none ∧ t.shc.register = .empty ∧
      t.shc.returning = false ∧ t.shc.pointer = s.shc.pointer ∧
      showMovesDiscarded s t ∧
      t.fe.fade = some ⟨s.fe.level, 0, 50, 0, .smooth, .power, none⟩ ∧ t.fe.level = s.fe.level ∧
      (s.fe.fade.isSome ∨ s.fe.pendingUser = none →
        t.retained.user = s.fe.pendingUser.getD s.retained.user) ∧
      t.tac.state = .stopped ∧
      (∀ d, s.tac.state.direction = some d → t.tac.brake = some d ∧ t.tac.order = none) ∧
      t.cdec.gateOpen = (if s.tac.state = .play then false else s.cdec.gateOpen) ∧
      answered .standby (okWith .nothing) t ∧
      onlyChanges (.power :: .shc :: .mq :: .tgc :: .fe :: .user :: .tac :: .cdec :: reports) s t) ∧
  (∀ s : State, takes s → s.power.mode = .active → s.shc.state = .stopped →
    (∀ r, s.fe.fade = some r → r.origin = .theShow →
      s.shc.cut = none ∧ s.shc.parts.fade ≠ some .outstanding) →
    ∃ t, exec .standby s = .next t ∧ t.power = { s.power with mode := .windingDown, step := some .fading } ∧
      t.fe.fade = some ⟨s.fe.level, 0, 50, 0, .smooth, .power, none⟩ ∧ t.fe.level = s.fe.level ∧
      t.retained.user = (if s.fe.fade.isSome then s.fe.pendingUser.getD s.retained.user else s.retained.user) ∧
      (∀ d, s.tac.state.direction = some d →
        t.tac = { s.tac with state := .stopped, brake := some d, stallBrake := false, order := none, applied := 0,
                             ramp := none }) ∧
      (s.tac.state = .paused →
        t.tac = { s.tac with state := .stopped, brake := none, stallBrake := false, applied := 0, ramp := none }) ∧
      (s.tac.state = .stopped →
        t.tac = if s.tac.brake.isSome then { s.tac with order := none } else s.tac) ∧
      t.cdec.gateOpen = (if s.tac.state = .play then false else s.cdec.gateOpen) ∧
      answered .standby (okWith .nothing) t ∧
      onlyChanges (.power :: .fe :: .user :: .tac :: .cdec :: reports) s t) ∧
  (∀ s : State, takes s → s.power.mode = .windingDown →
    ∃ t u, exec .standby s = .next t ∧ answered .standby (okWith .nothing) t ∧ onlyChanges [.linkOut] s t ∧
      exec .wake s = .next u ∧ u.power = { s.power with mode := .active, step := none } ∧
      answered .wake (okWith .nothing) u ∧ onlyChanges [.power, .linkOut] s u) ∧
  (∀ (s : State) (r : FadeRecord), runs s → s.power.mode = .windingDown → s.power.step = some .fading →
    showAtRest s → s.fe.timer = true → s.fe.fade = some r → r.origin = .power → r.index + 1 = r.total →
    s.ltc.strike.phase = .idle → s.thu.cooldown = none → s.litLamp = none → s.strikingLamp = none →
    ∃ t, exec .fadeStep s = .next t ∧
      inStandby s t) ∧
  (∀ (s : State) (n : Nat), runs s → s.power.mode = .windingDown → s.power.step = some .cooling →
    s.shc.state = .stopped → s.thu.cooldown = some n →
    ((s.thu.seeing = true ∧ 90 ≤ n + 1 ∧ ∃ d, s.thu.reading = some d ∧ d ≤ 45) ∨
        (s.thu.seeing = false ∧ 300 ≤ n + 1) →
      ∃ t, exec .cooldownSecondExpiry s = .next t ∧ inStandby s t ∧ t.thu.cooldown = none) ∧
    (s.thu.seeing = true → n + 1 < 90 →
      ∃ t, exec .cooldownSecondExpiry s = .next t ∧ t.thu = { s.thu with cooldown := some (n + 1) } ∧
        onlyChanges [.thu] s t) ∧
    ∀ d : Int, s.link.resetTaken = false → s.thu.seeing = true → 90 ≤ n → d ≤ 45 →
      ∃ t, exec (.temperature d) s = .next t ∧ inStandby s t ∧ t.thu.cooldown = none ∧
        ∃ e, answered (.temperature d)
          (okClamped (decide (d < -20)) (.temperature (max d (-20)) .normal true e)) t) ∧
  (∀ (s : State) (r : FadeRecord) (l : Lamp), runs s → s.power.mode = .windingDown →
    s.power.step = some .fading → s.fe.timer = true → s.fe.fade = some r → r.origin = .power →
    r.index + 1 = r.total → (s.lampRecord l).state = .lit →
    (s.lampRecord (otherLamp l)).state = .ready ∨ (s.lampRecord (otherLamp l)).state = .failed →
    ∃ t, exec .fadeStep s = .next t ∧ t.power = { s.power with step := some .cooling } ∧
      t.lampRecord l = { s.lampRecord l with state := .ready } ∧ t.thu.cooldown = some 0 ∧ t.fe.fade = none) ∧
  (∀ s : State, alive s → s.power.mode = .standby → s.power.signature = .agrees → s.link.resetTaken = false →
    ∃ t, exec .wake s = .next t ∧ answered .wake (okWith (.woken .valid)) t ∧
      t.power = ⟨true, .active, none, .wake, .valid, .absent⟩ ∧
      t.tgc.phase = (if s.pins.gateSeated then .ready else .unseated) ∧ t.tgc.present = s.pins.trayPresent ∧
      t.tgc.blank = s.tgc.blank ∧ t.tgc.gateLoad = s.tgc.gateLoad ∧ t.fe.level = 0 ∧ t.fe.fade = none ∧
      t.fe.timer = true ∧ t.thu.reading = none ∧ t.thu.latch = s.thu.latch ∧ t.flt.seconds = 0 ∧
      t.flt.timer = true ∧ t.tac.state = .stopped ∧ t.tac.volume = s.tac.volume ∧ t.rrx.held = none ∧
      t.ltc.sub = s.ltc.sub ∧
      onlyChanges [.power, .linkOut, .position, .map, .tgc, .shutter, .fe, .dimmer, .ltc, .watch, .thu, .cdec,
        .tac, .seconds, .rrx] s t) ∧
  ∀ s : State, alive s → s.link.resetTaken = false →
    ∃ t, exec .reset s = .next t ∧ t.link.resetTaken = true ∧ t.link.holding = s.link.holding ∧
      t.link.owed = s.link.owed ∧ answered .reset (okWith .nothing) t ∧ onlyChanges [.linkIn, .linkOut] s t

/-! ## Rules that every step keeps -/

/-- R109, R147, R153 to R155, R165: at every step the decoder's gate is open exactly in PLAY, the tape plays only with
the show RUNNING or STOPPED, a brake period runs in STOPPED alone and an order waits for one alone, the program sounds
only in PLAY, and the return register is occupied only in EXCURSION. That the returning flag is SET only in EXCURSION
too is deduced (log 11), and that a part without power holds the records of a power-on is the model's choice (log 16).
-/
def Obligations.StepKeepsPlayAndExcursionRules : Prop :=
  ∀ s t : State, gateRule s = true → playRule s = true → tapeRule s.tac = true → audioRule s = true →
    registerRule s = true → step s = .next t →
    gateRule t = true ∧ playRule t = true ∧ tapeRule t.tac = true ∧ audioRule t = true ∧ registerRule t = true

/-- R7, R29, R30, R127, R134, R141, R144: at every step an entry of the motion queue is ACTIVE exactly while the cycle
record is its own, and it is the head; the issued-move list has an item for each entry of the show's, the pending cue
list four arrivals at most, HELD a record of a state it can return to, and STOPPED a reason. `restRule` and `windRule`
are kept by the statement below. That an entry which leaves takes the oldest item with it is deduced (log 12), and that
a part without power holds the records of a power-on is the model's choice (log 16). -/
def Obligations.StepKeepsQueueAndShowInStep : Prop :=
  ∀ s t : State, queueShape s.mq = true → cycleMatches s = true → showRule s = true → restRule s = true →
    windRule s = true → step s = .next t →
    queueShape t.mq = true ∧ cycleMatches t = true ∧ showRule t = true

/-- R56, R57, R70, R97, R100, R101, R205 to R207, R210: at every step at most one lamp is LIT or STRIKING, in the light
path and not in TRIP; the strike sequence, the turret's target and the lamp records stand together; no strike follows a
turret move while strikes are barred, and strike to follow is clear in PREHEAT, CHECK and RETRY_WAIT (the model's choice,
log 42); the light applied is within the ceiling, and 0 with no lamp LIT; the fan turns
while a lamp burns or cools, at 100 when BLIND; a wind-down has stopped show and tape, and COOLING lights nothing; and
in STANDBY, without power and in reset nothing burns, moves or plays. That a part held in reset or without power stands
as a reset leaves it, and that no lamp burns among the contents that a lost backup supply leaves, is the model's choice
(logs 15 to 17). -/
def Obligations.StepKeepsLampsFanAndRest : Prop :=
  ∀ s t : State, lampRule s = true → strikeRule s = true → lightRule s = true → fanRule s = true →
    windRule s = true → restRule s = true → tapeRule s.tac = true → step s = .next t →
    lampRule t = true ∧ strikeRule t = true ∧ lightRule t = true ∧ fanRule t = true ∧ windRule t = true ∧
      restRule t = true

/-- R45, R51, R54, R62 to R64, R139, R204: at every step a fade in flight has a step to come, its ends within 0..1000
and the intended level between them; the tables, installed or waiting, and the parameters are within their ranges; and
a CUT restores a level of 0..1000 with a change that a cue entry can carry. That the tables and parameters which a lost
backup supply leaves are within their ranges is the model's choice, and unsafe (log 15). -/
def Obligations.StepKeepsFadesTablesAndCuts : Prop :=
  ∀ s t : State, fadeRule s = true → retainedRule s = true → cueRule s = true → cutRule s.shc = true →
    step s = .next t → fadeRule t = true ∧ retainedRule t = true ∧ cutRule t.shc = true

/-- R123: at every step the cue table holds at most 128 entries within their ranges in strictly ascending order, and the
sequence pointer lies within them. That this holds of the table that a lost backup supply leaves is the model's choice,
and unsafe (log 15). -/
def Obligations.StepKeepsTheCueTable : Prop :=
  ∀ s t : State, cueRule s = true → step s = .next t → cueRule t = true

/-- R188: the sticky set is a set in catalogue order, made of the first fault's code and the later-fault set, at every
step; a CLEAR_FAULTS and every reset empty it. That it is empty without power is the model's choice (log
16); that a SOFT_RESET acts whenever the part is live is deduced (log 33). -/
def Obligations.StickySetHoldsFirstAndLater : Prop :=
  (∀ s t : State, faultSets s.flt → step s = .next t → faultSets t.flt) ∧
  (∀ (code : FaultCode) (severity : Severity) (detail : Detail) (s : State),
    ∀ c, c ∈ (raiseAs code severity detail s).flt.sticky ↔ c = code ∨ c ∈ s.flt.sticky) ∧
  (∀ s : State, takes s → ∃ t, exec .clearFaults s = .next t ∧ t.flt.sticky = []) ∧
  (∀ s : State, s.pins.resetPin = false → ∃ t, exec .powerOn s = .next t ∧ t.flt.sticky = []) ∧
  (∀ s : State, s.power.powered = true → ∃ t, exec .resetPin s = .next t ∧ t.flt.sticky = []) ∧
  (∀ s : State, s.live = true → ∃ t, exec .softReset s = .next t ∧ t.flt.sticky = []) ∧
  ∀ (s : State) (r : Reply) (rest : List Reply) (part : Nat), s.live = true → s.link.resetTaken = true →
    s.link.tx = .reply part → s.link.path = r :: rest → replyParts r ≤ part + 1 → r.kind = 0xD2 →
    r.response.result = .ok → ∃ t, exec .transmitDone s = .next t ∧ t.flt.sticky = []

/-- R3, R29, R186, R187, R193, R199 to R202, R210: at every step the motion queue holds at most 8 entries with none but
the head ACTIVE, map entry 0 is EMPTY, the link's stores and counters are within their bounds, and the fault records
are: no later fault without a first one, and a pending set of one member for a code or class in the order of the
release. That map entry 0 is EMPTY in what a lost backup supply leaves, and that a part without power holds the records
of a power-on, is the model's choice (logs 15, 16). -/
def Obligations.StepKeepsTheStoresBounded : Prop :=
  ∀ s t : State, queueShape s.mq = true → loadGapEmpty s = true → linkBounds s.link = true → faultRule s = true →
    step s = .next t →
    queueShape t.mq = true ∧ loadGapEmpty t = true ∧ linkBounds t.link = true ∧ faultRule t = true

/-- R56, R95, R98, R99: at every step the thermal state is the band of the reading, the effective ceiling is at most the
target, at most 400 when BLIND or HOT and 0 in TRIP, and the light applied is within it. That a part without power holds
the records of a power-on, and the target of a SEEING unit without a reading, which no run reaches, are the model's
choice (logs 16, 35). -/
def Obligations.StepKeepsTheLightWithinTheCeiling : Prop :=
  ∀ s t : State, bandRule s.thu = true → ceilingRule s = true → decide (s.fe.applied ≤ s.thu.effective) = true →
    step s = .next t →
    bandRule t.thu = true ∧ ceilingRule t = true ∧ decide (t.fe.applied ≤ t.thu.effective) = true

/-- R5, R201, R202: the premise `settled` of the statements is kept by every step: the shutter is commanded by the phase
and the blank hold, closed in every phase but READY and with the hold set, and the transmitter is not idle while a frame
waits. That this stands at the end of every step is the model's choice (log 5); that the shutter is closed in STANDBY
and without power is deduced (log 18). -/
def Obligations.StepsEndSettled : Prop :=
  ∀ s t : State, settled s → step s = .next t →
    settled t ∧ (t.tgc.phase ≠ .ready ∨ t.tgc.blank = true → t.tgc.shutter = false) ∧
    (t.live = true → t.power.mode ≠ .standby → t.tgc.phase = .ready → t.tgc.blank = false → t.tgc.shutter = true) ∧
    (t.link.tx = .idle → t.link.path = [] ∧ t.link.reports = [])

/-- `State.reset` meets every rule of Safety, so that the rules that every step keeps hold of every run from it. The levels
of its inputs and the values that no rule gives are the model's choice (log 2). -/
def Obligations.ResetMeetsTheRules : Prop :=
  inv State.reset = true ∧ faultSets State.reset.flt ∧ bandRule State.reset.thu = true ∧ settled State.reset
end

