-- ==== Sys2Proof/Laws/State.lean ====
section
/-! SUPPORT. For each block update and each field of State, what the field is after the update. -/

namespace Sys2Proof.Machine

variable (s : State)

@[simp] theorem State.updPending_pending (f : List Instr → List Instr) : (s.updPending f).pending = f s.pending := rfl
@[simp] theorem State.updPending_pins (f : List Instr → List Instr) : (s.updPending f).pins = s.pins := rfl
@[simp] theorem State.updPending_retained (f : List Instr → List Instr) : (s.updPending f).retained = s.retained := rfl
@[simp] theorem State.updPending_power (f : List Instr → List Instr) : (s.updPending f).power = s.power := rfl
@[simp] theorem State.updPending_link (f : List Instr → List Instr) : (s.updPending f).link = s.link := rfl
@[simp] theorem State.updPending_flt (f : List Instr → List Instr) : (s.updPending f).flt = s.flt := rfl
@[simp] theorem State.updPending_tgc (f : List Instr → List Instr) : (s.updPending f).tgc = s.tgc := rfl
@[simp] theorem State.updPending_mq (f : List Instr → List Instr) : (s.updPending f).mq = s.mq := rfl
@[simp] theorem State.updPending_fe (f : List Instr → List Instr) : (s.updPending f).fe = s.fe := rfl
@[simp] theorem State.updPending_ltc (f : List Instr → List Instr) : (s.updPending f).ltc = s.ltc := rfl
@[simp] theorem State.updPending_thu (f : List Instr → List Instr) : (s.updPending f).thu = s.thu := rfl
@[simp] theorem State.updPending_cdec (f : List Instr → List Instr) : (s.updPending f).cdec = s.cdec := rfl
@[simp] theorem State.updPending_shc (f : List Instr → List Instr) : (s.updPending f).shc = s.shc := rfl
@[simp] theorem State.updPending_tac (f : List Instr → List Instr) : (s.updPending f).tac = s.tac := rfl
@[simp] theorem State.updPending_rrx (f : List Instr → List Instr) : (s.updPending f).rrx = s.rrx := rfl
@[simp] theorem State.updPending_free (f : List Instr → List Instr) : (s.updPending f).free = s.free := rfl
@[simp] theorem State.updPins_pending (f : Pins → Pins) : (s.updPins f).pending = s.pending := rfl
@[simp] theorem State.updPins_pins (f : Pins → Pins) : (s.updPins f).pins = f s.pins := rfl
@[simp] theorem State.updPins_retained (f : Pins → Pins) : (s.updPins f).retained = s.retained := rfl
@[simp] theorem State.updPins_power (f : Pins → Pins) : (s.updPins f).power = s.power := rfl
@[simp] theorem State.updPins_link (f : Pins → Pins) : (s.updPins f).link = s.link := rfl
@[simp] theorem State.updPins_flt (f : Pins → Pins) : (s.updPins f).flt = s.flt := rfl
@[simp] theorem State.updPins_tgc (f : Pins → Pins) : (s.updPins f).tgc = s.tgc := rfl
@[simp] theorem State.updPins_mq (f : Pins → Pins) : (s.updPins f).mq = s.mq := rfl
@[simp] theorem State.updPins_fe (f : Pins → Pins) : (s.updPins f).fe = s.fe := rfl
@[simp] theorem State.updPins_ltc (f : Pins → Pins) : (s.updPins f).ltc = s.ltc := rfl
@[simp] theorem State.updPins_thu (f : Pins → Pins) : (s.updPins f).thu = s.thu := rfl
@[simp] theorem State.updPins_cdec (f : Pins → Pins) : (s.updPins f).cdec = s.cdec := rfl
@[simp] theorem State.updPins_shc (f : Pins → Pins) : (s.updPins f).shc = s.shc := rfl
@[simp] theorem State.updPins_tac (f : Pins → Pins) : (s.updPins f).tac = s.tac := rfl
@[simp] theorem State.updPins_rrx (f : Pins → Pins) : (s.updPins f).rrx = s.rrx := rfl
@[simp] theorem State.updPins_free (f : Pins → Pins) : (s.updPins f).free = s.free := rfl
@[simp] theorem State.updRetained_pending (f : Retained → Retained) : (s.updRetained f).pending = s.pending := rfl
@[simp] theorem State.updRetained_pins (f : Retained → Retained) : (s.updRetained f).pins = s.pins := rfl
@[simp] theorem State.updRetained_retained (f : Retained → Retained) : (s.updRetained f).retained = f s.retained := rfl
@[simp] theorem State.updRetained_power (f : Retained → Retained) : (s.updRetained f).power = s.power := rfl
@[simp] theorem State.updRetained_link (f : Retained → Retained) : (s.updRetained f).link = s.link := rfl
@[simp] theorem State.updRetained_flt (f : Retained → Retained) : (s.updRetained f).flt = s.flt := rfl
@[simp] theorem State.updRetained_tgc (f : Retained → Retained) : (s.updRetained f).tgc = s.tgc := rfl
@[simp] theorem State.updRetained_mq (f : Retained → Retained) : (s.updRetained f).mq = s.mq := rfl
@[simp] theorem State.updRetained_fe (f : Retained → Retained) : (s.updRetained f).fe = s.fe := rfl
@[simp] theorem State.updRetained_ltc (f : Retained → Retained) : (s.updRetained f).ltc = s.ltc := rfl
@[simp] theorem State.updRetained_thu (f : Retained → Retained) : (s.updRetained f).thu = s.thu := rfl
@[simp] theorem State.updRetained_cdec (f : Retained → Retained) : (s.updRetained f).cdec = s.cdec := rfl
@[simp] theorem State.updRetained_shc (f : Retained → Retained) : (s.updRetained f).shc = s.shc := rfl
@[simp] theorem State.updRetained_tac (f : Retained → Retained) : (s.updRetained f).tac = s.tac := rfl
@[simp] theorem State.updRetained_rrx (f : Retained → Retained) : (s.updRetained f).rrx = s.rrx := rfl
@[simp] theorem State.updRetained_free (f : Retained → Retained) : (s.updRetained f).free = s.free := rfl
@[simp] theorem State.updPower_pending (f : Power → Power) : (s.updPower f).pending = s.pending := rfl
@[simp] theorem State.updPower_pins (f : Power → Power) : (s.updPower f).pins = s.pins := rfl
@[simp] theorem State.updPower_retained (f : Power → Power) : (s.updPower f).retained = s.retained := rfl
@[simp] theorem State.updPower_power (f : Power → Power) : (s.updPower f).power = f s.power := rfl
@[simp] theorem State.updPower_link (f : Power → Power) : (s.updPower f).link = s.link := rfl
@[simp] theorem State.updPower_flt (f : Power → Power) : (s.updPower f).flt = s.flt := rfl
@[simp] theorem State.updPower_tgc (f : Power → Power) : (s.updPower f).tgc = s.tgc := rfl
@[simp] theorem State.updPower_mq (f : Power → Power) : (s.updPower f).mq = s.mq := rfl
@[simp] theorem State.updPower_fe (f : Power → Power) : (s.updPower f).fe = s.fe := rfl
@[simp] theorem State.updPower_ltc (f : Power → Power) : (s.updPower f).ltc = s.ltc := rfl
@[simp] theorem State.updPower_thu (f : Power → Power) : (s.updPower f).thu = s.thu := rfl
@[simp] theorem State.updPower_cdec (f : Power → Power) : (s.updPower f).cdec = s.cdec := rfl
@[simp] theorem State.updPower_shc (f : Power → Power) : (s.updPower f).shc = s.shc := rfl
@[simp] theorem State.updPower_tac (f : Power → Power) : (s.updPower f).tac = s.tac := rfl
@[simp] theorem State.updPower_rrx (f : Power → Power) : (s.updPower f).rrx = s.rrx := rfl
@[simp] theorem State.updPower_free (f : Power → Power) : (s.updPower f).free = s.free := rfl
@[simp] theorem State.updLink_pending (f : Link → Link) : (s.updLink f).pending = s.pending := rfl
@[simp] theorem State.updLink_pins (f : Link → Link) : (s.updLink f).pins = s.pins := rfl
@[simp] theorem State.updLink_retained (f : Link → Link) : (s.updLink f).retained = s.retained := rfl
@[simp] theorem State.updLink_power (f : Link → Link) : (s.updLink f).power = s.power := rfl
@[simp] theorem State.updLink_link (f : Link → Link) : (s.updLink f).link = f s.link := rfl
@[simp] theorem State.updLink_flt (f : Link → Link) : (s.updLink f).flt = s.flt := rfl
@[simp] theorem State.updLink_tgc (f : Link → Link) : (s.updLink f).tgc = s.tgc := rfl
@[simp] theorem State.updLink_mq (f : Link → Link) : (s.updLink f).mq = s.mq := rfl
@[simp] theorem State.updLink_fe (f : Link → Link) : (s.updLink f).fe = s.fe := rfl
@[simp] theorem State.updLink_ltc (f : Link → Link) : (s.updLink f).ltc = s.ltc := rfl
@[simp] theorem State.updLink_thu (f : Link → Link) : (s.updLink f).thu = s.thu := rfl
@[simp] theorem State.updLink_cdec (f : Link → Link) : (s.updLink f).cdec = s.cdec := rfl
@[simp] theorem State.updLink_shc (f : Link → Link) : (s.updLink f).shc = s.shc := rfl
@[simp] theorem State.updLink_tac (f : Link → Link) : (s.updLink f).tac = s.tac := rfl
@[simp] theorem State.updLink_rrx (f : Link → Link) : (s.updLink f).rrx = s.rrx := rfl
@[simp] theorem State.updLink_free (f : Link → Link) : (s.updLink f).free = s.free := rfl
@[simp] theorem State.updFlt_pending (f : Flt → Flt) : (s.updFlt f).pending = s.pending := rfl
@[simp] theorem State.updFlt_pins (f : Flt → Flt) : (s.updFlt f).pins = s.pins := rfl
@[simp] theorem State.updFlt_retained (f : Flt → Flt) : (s.updFlt f).retained = s.retained := rfl
@[simp] theorem State.updFlt_power (f : Flt → Flt) : (s.updFlt f).power = s.power := rfl
@[simp] theorem State.updFlt_link (f : Flt → Flt) : (s.updFlt f).link = s.link := rfl
@[simp] theorem State.updFlt_flt (f : Flt → Flt) : (s.updFlt f).flt = f s.flt := rfl
@[simp] theorem State.updFlt_tgc (f : Flt → Flt) : (s.updFlt f).tgc = s.tgc := rfl
@[simp] theorem State.updFlt_mq (f : Flt → Flt) : (s.updFlt f).mq = s.mq := rfl
@[simp] theorem State.updFlt_fe (f : Flt → Flt) : (s.updFlt f).fe = s.fe := rfl
@[simp] theorem State.updFlt_ltc (f : Flt → Flt) : (s.updFlt f).ltc = s.ltc := rfl
@[simp] theorem State.updFlt_thu (f : Flt → Flt) : (s.updFlt f).thu = s.thu := rfl
@[simp] theorem State.updFlt_cdec (f : Flt → Flt) : (s.updFlt f).cdec = s.cdec := rfl
@[simp] theorem State.updFlt_shc (f : Flt → Flt) : (s.updFlt f).shc = s.shc := rfl
@[simp] theorem State.updFlt_tac (f : Flt → Flt) : (s.updFlt f).tac = s.tac := rfl
@[simp] theorem State.updFlt_rrx (f : Flt → Flt) : (s.updFlt f).rrx = s.rrx := rfl
@[simp] theorem State.updFlt_free (f : Flt → Flt) : (s.updFlt f).free = s.free := rfl
@[simp] theorem State.updTgc_pending (f : Tgc → Tgc) : (s.updTgc f).pending = s.pending := rfl
@[simp] theorem State.updTgc_pins (f : Tgc → Tgc) : (s.updTgc f).pins = s.pins := rfl
@[simp] theorem State.updTgc_retained (f : Tgc → Tgc) : (s.updTgc f).retained = s.retained := rfl
@[simp] theorem State.updTgc_power (f : Tgc → Tgc) : (s.updTgc f).power = s.power := rfl
@[simp] theorem State.updTgc_link (f : Tgc → Tgc) : (s.updTgc f).link = s.link := rfl
@[simp] theorem State.updTgc_flt (f : Tgc → Tgc) : (s.updTgc f).flt = s.flt := rfl
@[simp] theorem State.updTgc_tgc (f : Tgc → Tgc) : (s.updTgc f).tgc = f s.tgc := rfl
@[simp] theorem State.updTgc_mq (f : Tgc → Tgc) : (s.updTgc f).mq = s.mq := rfl
@[simp] theorem State.updTgc_fe (f : Tgc → Tgc) : (s.updTgc f).fe = s.fe := rfl
@[simp] theorem State.updTgc_ltc (f : Tgc → Tgc) : (s.updTgc f).ltc = s.ltc := rfl
@[simp] theorem State.updTgc_thu (f : Tgc → Tgc) : (s.updTgc f).thu = s.thu := rfl
@[simp] theorem State.updTgc_cdec (f : Tgc → Tgc) : (s.updTgc f).cdec = s.cdec := rfl
@[simp] theorem State.updTgc_shc (f : Tgc → Tgc) : (s.updTgc f).shc = s.shc := rfl
@[simp] theorem State.updTgc_tac (f : Tgc → Tgc) : (s.updTgc f).tac = s.tac := rfl
@[simp] theorem State.updTgc_rrx (f : Tgc → Tgc) : (s.updTgc f).rrx = s.rrx := rfl
@[simp] theorem State.updTgc_free (f : Tgc → Tgc) : (s.updTgc f).free = s.free := rfl
@[simp] theorem State.updMq_pending (f : List Motion → List Motion) : (s.updMq f).pending = s.pending := rfl
@[simp] theorem State.updMq_pins (f : List Motion → List Motion) : (s.updMq f).pins = s.pins := rfl
@[simp] theorem State.updMq_retained (f : List Motion → List Motion) : (s.updMq f).retained = s.retained := rfl
@[simp] theorem State.updMq_power (f : List Motion → List Motion) : (s.updMq f).power = s.power := rfl
@[simp] theorem State.updMq_link (f : List Motion → List Motion) : (s.updMq f).link = s.link := rfl
@[simp] theorem State.updMq_flt (f : List Motion → List Motion) : (s.updMq f).flt = s.flt := rfl
@[simp] theorem State.updMq_tgc (f : List Motion → List Motion) : (s.updMq f).tgc = s.tgc := rfl
@[simp] theorem State.updMq_mq (f : List Motion → List Motion) : (s.updMq f).mq = f s.mq := rfl
@[simp] theorem State.updMq_fe (f : List Motion → List Motion) : (s.updMq f).fe = s.fe := rfl
@[simp] theorem State.updMq_ltc (f : List Motion → List Motion) : (s.updMq f).ltc = s.ltc := rfl
@[simp] theorem State.updMq_thu (f : List Motion → List Motion) : (s.updMq f).thu = s.thu := rfl
@[simp] theorem State.updMq_cdec (f : List Motion → List Motion) : (s.updMq f).cdec = s.cdec := rfl
@[simp] theorem State.updMq_shc (f : List Motion → List Motion) : (s.updMq f).shc = s.shc := rfl
@[simp] theorem State.updMq_tac (f : List Motion → List Motion) : (s.updMq f).tac = s.tac := rfl
@[simp] theorem State.updMq_rrx (f : List Motion → List Motion) : (s.updMq f).rrx = s.rrx := rfl
@[simp] theorem State.updMq_free (f : List Motion → List Motion) : (s.updMq f).free = s.free := rfl
@[simp] theorem State.updFe_pending (f : Fe → Fe) : (s.updFe f).pending = s.pending := rfl
@[simp] theorem State.updFe_pins (f : Fe → Fe) : (s.updFe f).pins = s.pins := rfl
@[simp] theorem State.updFe_retained (f : Fe → Fe) : (s.updFe f).retained = s.retained := rfl
@[simp] theorem State.updFe_power (f : Fe → Fe) : (s.updFe f).power = s.power := rfl
@[simp] theorem State.updFe_link (f : Fe → Fe) : (s.updFe f).link = s.link := rfl
@[simp] theorem State.updFe_flt (f : Fe → Fe) : (s.updFe f).flt = s.flt := rfl
@[simp] theorem State.updFe_tgc (f : Fe → Fe) : (s.updFe f).tgc = s.tgc := rfl
@[simp] theorem State.updFe_mq (f : Fe → Fe) : (s.updFe f).mq = s.mq := rfl
@[simp] theorem State.updFe_fe (f : Fe → Fe) : (s.updFe f).fe = f s.fe := rfl
@[simp] theorem State.updFe_ltc (f : Fe → Fe) : (s.updFe f).ltc = s.ltc := rfl
@[simp] theorem State.updFe_thu (f : Fe → Fe) : (s.updFe f).thu = s.thu := rfl
@[simp] theorem State.updFe_cdec (f : Fe → Fe) : (s.updFe f).cdec = s.cdec := rfl
@[simp] theorem State.updFe_shc (f : Fe → Fe) : (s.updFe f).shc = s.shc := rfl
@[simp] theorem State.updFe_tac (f : Fe → Fe) : (s.updFe f).tac = s.tac := rfl
@[simp] theorem State.updFe_rrx (f : Fe → Fe) : (s.updFe f).rrx = s.rrx := rfl
@[simp] theorem State.updFe_free (f : Fe → Fe) : (s.updFe f).free = s.free := rfl
@[simp] theorem State.updLtc_pending (f : Ltc → Ltc) : (s.updLtc f).pending = s.pending := rfl
@[simp] theorem State.updLtc_pins (f : Ltc → Ltc) : (s.updLtc f).pins = s.pins := rfl
@[simp] theorem State.updLtc_retained (f : Ltc → Ltc) : (s.updLtc f).retained = s.retained := rfl
@[simp] theorem State.updLtc_power (f : Ltc → Ltc) : (s.updLtc f).power = s.power := rfl
@[simp] theorem State.updLtc_link (f : Ltc → Ltc) : (s.updLtc f).link = s.link := rfl
@[simp] theorem State.updLtc_flt (f : Ltc → Ltc) : (s.updLtc f).flt = s.flt := rfl
@[simp] theorem State.updLtc_tgc (f : Ltc → Ltc) : (s.updLtc f).tgc = s.tgc := rfl
@[simp] theorem State.updLtc_mq (f : Ltc → Ltc) : (s.updLtc f).mq = s.mq := rfl
@[simp] theorem State.updLtc_fe (f : Ltc → Ltc) : (s.updLtc f).fe = s.fe := rfl
@[simp] theorem State.updLtc_ltc (f : Ltc → Ltc) : (s.updLtc f).ltc = f s.ltc := rfl
@[simp] theorem State.updLtc_thu (f : Ltc → Ltc) : (s.updLtc f).thu = s.thu := rfl
@[simp] theorem State.updLtc_cdec (f : Ltc → Ltc) : (s.updLtc f).cdec = s.cdec := rfl
@[simp] theorem State.updLtc_shc (f : Ltc → Ltc) : (s.updLtc f).shc = s.shc := rfl
@[simp] theorem State.updLtc_tac (f : Ltc → Ltc) : (s.updLtc f).tac = s.tac := rfl
@[simp] theorem State.updLtc_rrx (f : Ltc → Ltc) : (s.updLtc f).rrx = s.rrx := rfl
@[simp] theorem State.updLtc_free (f : Ltc → Ltc) : (s.updLtc f).free = s.free := rfl
@[simp] theorem State.updThu_pending (f : Thu → Thu) : (s.updThu f).pending = s.pending := rfl
@[simp] theorem State.updThu_pins (f : Thu → Thu) : (s.updThu f).pins = s.pins := rfl
@[simp] theorem State.updThu_retained (f : Thu → Thu) : (s.updThu f).retained = s.retained := rfl
@[simp] theorem State.updThu_power (f : Thu → Thu) : (s.updThu f).power = s.power := rfl
@[simp] theorem State.updThu_link (f : Thu → Thu) : (s.updThu f).link = s.link := rfl
@[simp] theorem State.updThu_flt (f : Thu → Thu) : (s.updThu f).flt = s.flt := rfl
@[simp] theorem State.updThu_tgc (f : Thu → Thu) : (s.updThu f).tgc = s.tgc := rfl
@[simp] theorem State.updThu_mq (f : Thu → Thu) : (s.updThu f).mq = s.mq := rfl
@[simp] theorem State.updThu_fe (f : Thu → Thu) : (s.updThu f).fe = s.fe := rfl
@[simp] theorem State.updThu_ltc (f : Thu → Thu) : (s.updThu f).ltc = s.ltc := rfl
@[simp] theorem State.updThu_thu (f : Thu → Thu) : (s.updThu f).thu = f s.thu := rfl
@[simp] theorem State.updThu_cdec (f : Thu → Thu) : (s.updThu f).cdec = s.cdec := rfl
@[simp] theorem State.updThu_shc (f : Thu → Thu) : (s.updThu f).shc = s.shc := rfl
@[simp] theorem State.updThu_tac (f : Thu → Thu) : (s.updThu f).tac = s.tac := rfl
@[simp] theorem State.updThu_rrx (f : Thu → Thu) : (s.updThu f).rrx = s.rrx := rfl
@[simp] theorem State.updThu_free (f : Thu → Thu) : (s.updThu f).free = s.free := rfl
@[simp] theorem State.updCdec_pending (f : Cdec → Cdec) : (s.updCdec f).pending = s.pending := rfl
@[simp] theorem State.updCdec_pins (f : Cdec → Cdec) : (s.updCdec f).pins = s.pins := rfl
@[simp] theorem State.updCdec_retained (f : Cdec → Cdec) : (s.updCdec f).retained = s.retained := rfl
@[simp] theorem State.updCdec_power (f : Cdec → Cdec) : (s.updCdec f).power = s.power := rfl
@[simp] theorem State.updCdec_link (f : Cdec → Cdec) : (s.updCdec f).link = s.link := rfl
@[simp] theorem State.updCdec_flt (f : Cdec → Cdec) : (s.updCdec f).flt = s.flt := rfl
@[simp] theorem State.updCdec_tgc (f : Cdec → Cdec) : (s.updCdec f).tgc = s.tgc := rfl
@[simp] theorem State.updCdec_mq (f : Cdec → Cdec) : (s.updCdec f).mq = s.mq := rfl
@[simp] theorem State.updCdec_fe (f : Cdec → Cdec) : (s.updCdec f).fe = s.fe := rfl
@[simp] theorem State.updCdec_ltc (f : Cdec → Cdec) : (s.updCdec f).ltc = s.ltc := rfl
@[simp] theorem State.updCdec_thu (f : Cdec → Cdec) : (s.updCdec f).thu = s.thu := rfl
@[simp] theorem State.updCdec_cdec (f : Cdec → Cdec) : (s.updCdec f).cdec = f s.cdec := rfl
@[simp] theorem State.updCdec_shc (f : Cdec → Cdec) : (s.updCdec f).shc = s.shc := rfl
@[simp] theorem State.updCdec_tac (f : Cdec → Cdec) : (s.updCdec f).tac = s.tac := rfl
@[simp] theorem State.updCdec_rrx (f : Cdec → Cdec) : (s.updCdec f).rrx = s.rrx := rfl
@[simp] theorem State.updCdec_free (f : Cdec → Cdec) : (s.updCdec f).free = s.free := rfl
@[simp] theorem State.updShc_pending (f : Shc → Shc) : (s.updShc f).pending = s.pending := rfl
@[simp] theorem State.updShc_pins (f : Shc → Shc) : (s.updShc f).pins = s.pins := rfl
@[simp] theorem State.updShc_retained (f : Shc → Shc) : (s.updShc f).retained = s.retained := rfl
@[simp] theorem State.updShc_power (f : Shc → Shc) : (s.updShc f).power = s.power := rfl
@[simp] theorem State.updShc_link (f : Shc → Shc) : (s.updShc f).link = s.link := rfl
@[simp] theorem State.updShc_flt (f : Shc → Shc) : (s.updShc f).flt = s.flt := rfl
@[simp] theorem State.updShc_tgc (f : Shc → Shc) : (s.updShc f).tgc = s.tgc := rfl
@[simp] theorem State.updShc_mq (f : Shc → Shc) : (s.updShc f).mq = s.mq := rfl
@[simp] theorem State.updShc_fe (f : Shc → Shc) : (s.updShc f).fe = s.fe := rfl
@[simp] theorem State.updShc_ltc (f : Shc → Shc) : (s.updShc f).ltc = s.ltc := rfl
@[simp] theorem State.updShc_thu (f : Shc → Shc) : (s.updShc f).thu = s.thu := rfl
@[simp] theorem State.updShc_cdec (f : Shc → Shc) : (s.updShc f).cdec = s.cdec := rfl
@[simp] theorem State.updShc_shc (f : Shc → Shc) : (s.updShc f).shc = f s.shc := rfl
@[simp] theorem State.updShc_tac (f : Shc → Shc) : (s.updShc f).tac = s.tac := rfl
@[simp] theorem State.updShc_rrx (f : Shc → Shc) : (s.updShc f).rrx = s.rrx := rfl
@[simp] theorem State.updShc_free (f : Shc → Shc) : (s.updShc f).free = s.free := rfl
@[simp] theorem State.updTac_pending (f : Tac → Tac) : (s.updTac f).pending = s.pending := rfl
@[simp] theorem State.updTac_pins (f : Tac → Tac) : (s.updTac f).pins = s.pins := rfl
@[simp] theorem State.updTac_retained (f : Tac → Tac) : (s.updTac f).retained = s.retained := rfl
@[simp] theorem State.updTac_power (f : Tac → Tac) : (s.updTac f).power = s.power := rfl
@[simp] theorem State.updTac_link (f : Tac → Tac) : (s.updTac f).link = s.link := rfl
@[simp] theorem State.updTac_flt (f : Tac → Tac) : (s.updTac f).flt = s.flt := rfl
@[simp] theorem State.updTac_tgc (f : Tac → Tac) : (s.updTac f).tgc = s.tgc := rfl
@[simp] theorem State.updTac_mq (f : Tac → Tac) : (s.updTac f).mq = s.mq := rfl
@[simp] theorem State.updTac_fe (f : Tac → Tac) : (s.updTac f).fe = s.fe := rfl
@[simp] theorem State.updTac_ltc (f : Tac → Tac) : (s.updTac f).ltc = s.ltc := rfl
@[simp] theorem State.updTac_thu (f : Tac → Tac) : (s.updTac f).thu = s.thu := rfl
@[simp] theorem State.updTac_cdec (f : Tac → Tac) : (s.updTac f).cdec = s.cdec := rfl
@[simp] theorem State.updTac_shc (f : Tac → Tac) : (s.updTac f).shc = s.shc := rfl
@[simp] theorem State.updTac_tac (f : Tac → Tac) : (s.updTac f).tac = f s.tac := rfl
@[simp] theorem State.updTac_rrx (f : Tac → Tac) : (s.updTac f).rrx = s.rrx := rfl
@[simp] theorem State.updTac_free (f : Tac → Tac) : (s.updTac f).free = s.free := rfl
@[simp] theorem State.updRrx_pending (f : Rrx → Rrx) : (s.updRrx f).pending = s.pending := rfl
@[simp] theorem State.updRrx_pins (f : Rrx → Rrx) : (s.updRrx f).pins = s.pins := rfl
@[simp] theorem State.updRrx_retained (f : Rrx → Rrx) : (s.updRrx f).retained = s.retained := rfl
@[simp] theorem State.updRrx_power (f : Rrx → Rrx) : (s.updRrx f).power = s.power := rfl
@[simp] theorem State.updRrx_link (f : Rrx → Rrx) : (s.updRrx f).link = s.link := rfl
@[simp] theorem State.updRrx_flt (f : Rrx → Rrx) : (s.updRrx f).flt = s.flt := rfl
@[simp] theorem State.updRrx_tgc (f : Rrx → Rrx) : (s.updRrx f).tgc = s.tgc := rfl
@[simp] theorem State.updRrx_mq (f : Rrx → Rrx) : (s.updRrx f).mq = s.mq := rfl
@[simp] theorem State.updRrx_fe (f : Rrx → Rrx) : (s.updRrx f).fe = s.fe := rfl
@[simp] theorem State.updRrx_ltc (f : Rrx → Rrx) : (s.updRrx f).ltc = s.ltc := rfl
@[simp] theorem State.updRrx_thu (f : Rrx → Rrx) : (s.updRrx f).thu = s.thu := rfl
@[simp] theorem State.updRrx_cdec (f : Rrx → Rrx) : (s.updRrx f).cdec = s.cdec := rfl
@[simp] theorem State.updRrx_shc (f : Rrx → Rrx) : (s.updRrx f).shc = s.shc := rfl
@[simp] theorem State.updRrx_tac (f : Rrx → Rrx) : (s.updRrx f).tac = s.tac := rfl
@[simp] theorem State.updRrx_rrx (f : Rrx → Rrx) : (s.updRrx f).rrx = f s.rrx := rfl
@[simp] theorem State.updRrx_free (f : Rrx → Rrx) : (s.updRrx f).free = s.free := rfl
@[simp] theorem State.updFree_pending (f : Nat → Nat) : (s.updFree f).pending = s.pending := rfl
@[simp] theorem State.updFree_pins (f : Nat → Nat) : (s.updFree f).pins = s.pins := rfl
@[simp] theorem State.updFree_retained (f : Nat → Nat) : (s.updFree f).retained = s.retained := rfl
@[simp] theorem State.updFree_power (f : Nat → Nat) : (s.updFree f).power = s.power := rfl
@[simp] theorem State.updFree_link (f : Nat → Nat) : (s.updFree f).link = s.link := rfl
@[simp] theorem State.updFree_flt (f : Nat → Nat) : (s.updFree f).flt = s.flt := rfl
@[simp] theorem State.updFree_tgc (f : Nat → Nat) : (s.updFree f).tgc = s.tgc := rfl
@[simp] theorem State.updFree_mq (f : Nat → Nat) : (s.updFree f).mq = s.mq := rfl
@[simp] theorem State.updFree_fe (f : Nat → Nat) : (s.updFree f).fe = s.fe := rfl
@[simp] theorem State.updFree_ltc (f : Nat → Nat) : (s.updFree f).ltc = s.ltc := rfl
@[simp] theorem State.updFree_thu (f : Nat → Nat) : (s.updFree f).thu = s.thu := rfl
@[simp] theorem State.updFree_cdec (f : Nat → Nat) : (s.updFree f).cdec = s.cdec := rfl
@[simp] theorem State.updFree_shc (f : Nat → Nat) : (s.updFree f).shc = s.shc := rfl
@[simp] theorem State.updFree_tac (f : Nat → Nat) : (s.updFree f).tac = s.tac := rfl
@[simp] theorem State.updFree_rrx (f : Nat → Nat) : (s.updFree f).rrx = s.rrx := rfl
@[simp] theorem State.updFree_free (f : Nat → Nat) : (s.updFree f).free = f s.free := rfl

end Sys2Proof.Machine
end

