-- ==== Sys2Proof/Laws/Frames.lean ====
section
/-! SUPPORT. For each shared operation, what it never changes. -/

namespace Sys2Proof.Machine

/-- What each turn of a fold keeps, the fold keeps. -/
theorem foldl_keeps {α β γ : Type} (g : β → γ) (f : β → α → β) (h : ∀ b a, g (f b a) = g b) (l : List α) (b : β) :
    g (l.foldl f b) = g b := by
  induction l generalizing b with
  | nil => rfl
  | cons a l ih => exact (ih _).trans (h b a)

/-- What changing a lamp's record leaves alone. -/
@[simp] theorem updLamp_frame (s : State) (l : Lamp) (f : LampRecord → LampRecord) :
    (s.updLamp l f).pending = s.pending ∧ (s.updLamp l f).pins = s.pins ∧ (s.updLamp l f).power = s.power ∧
    (s.updLamp l f).link = s.link ∧ (s.updLamp l f).flt = s.flt ∧ (s.updLamp l f).tgc = s.tgc ∧
    (s.updLamp l f).mq = s.mq ∧ (s.updLamp l f).fe = s.fe ∧ (s.updLamp l f).ltc = s.ltc ∧
    (s.updLamp l f).thu = s.thu ∧ (s.updLamp l f).cdec = s.cdec ∧ (s.updLamp l f).shc = s.shc ∧
    (s.updLamp l f).tac = s.tac ∧ (s.updLamp l f).rrx = s.rrx ∧ (s.updLamp l f).free = s.free ∧
    (s.updLamp l f).retained.position = s.retained.position ∧ (s.updLamp l f).retained.map = s.retained.map ∧
    (s.updLamp l f).retained.cues = s.retained.cues ∧ (s.updLamp l f).retained.user = s.retained.user ∧
    (s.updLamp l f).retained.response = s.retained.response ∧
    (s.updLamp l f).retained.keymap = s.retained.keymap ∧ (s.updLamp l f).retained.params = s.retained.params := by
  cases l <;> simp [State.updLamp]

/-- A lamp's record after a change of it, and the other lamp's. -/
@[simp] theorem updLamp_lampRecord (s : State) (l : Lamp) (f : LampRecord → LampRecord) :
    (s.updLamp l f).lampRecord l = f (s.lampRecord l) ∧
    (s.updLamp l f).lampRecord (otherLamp l) = s.lampRecord (otherLamp l) := by
  cases l <;> simp [State.updLamp, State.lampRecord, otherLamp]

@[simp] theorem queueReport_frame (r : Report) (s : State) :
    (queueReport r s).pending = s.pending ∧ (queueReport r s).pins = s.pins ∧ (queueReport r s).power = s.power ∧
    (queueReport r s).free = s.free ∧ (queueReport r s).mq = s.mq ∧ (queueReport r s).tgc = s.tgc ∧
    (queueReport r s).ltc = s.ltc ∧ (queueReport r s).thu = s.thu ∧ (queueReport r s).cdec = s.cdec ∧
    (queueReport r s).shc = s.shc ∧ (queueReport r s).tac = s.tac ∧ (queueReport r s).rrx = s.rrx ∧
    (queueReport r s).fe = s.fe ∧ (queueReport r s).retained = s.retained ∧ (queueReport r s).flt = s.flt := by
  simp [queueReport]

@[simp] theorem report_frame (b : ReportBody) (first : Bool) (s : State) :
    (report b first s).pending = s.pending ∧ (report b first s).pins = s.pins ∧ (report b first s).power = s.power ∧
    (report b first s).free = s.free ∧ (report b first s).mq = s.mq ∧ (report b first s).tgc = s.tgc ∧
    (report b first s).ltc = s.ltc ∧ (report b first s).thu = s.thu ∧ (report b first s).cdec = s.cdec ∧
    (report b first s).shc = s.shc ∧ (report b first s).tac = s.tac ∧ (report b first s).rrx = s.rrx ∧
    (report b first s).fe = s.fe ∧ (report b first s).retained = s.retained ∧
    (report b first s).flt.faultOn = s.flt.faultOn ∧ (report b first s).flt.eventOn = s.flt.eventOn ∧
    (report b first s).flt.switchOn = s.flt.switchOn ∧ (report b first s).flt.seconds = s.flt.seconds ∧
    (report b first s).flt.timer = s.flt.timer ∧ (report b first s).flt.first = s.flt.first ∧
    (report b first s).flt.opener = s.flt.opener ∧ (report b first s).flt.causes = s.flt.causes := by
  simp only [report]; repeat' split
  all_goals first | rfl | simp

@[simp] theorem raiseEvent_frame (e : Event) (s : State) :
    (raiseEvent e s).pending = s.pending ∧ (raiseEvent e s).pins = s.pins ∧ (raiseEvent e s).power = s.power ∧
    (raiseEvent e s).free = s.free ∧ (raiseEvent e s).mq = s.mq ∧ (raiseEvent e s).tgc = s.tgc ∧
    (raiseEvent e s).ltc = s.ltc ∧ (raiseEvent e s).thu = s.thu ∧ (raiseEvent e s).cdec = s.cdec ∧
    (raiseEvent e s).shc = s.shc ∧ (raiseEvent e s).tac = s.tac ∧ (raiseEvent e s).rrx = s.rrx ∧
    (raiseEvent e s).fe = s.fe ∧ (raiseEvent e s).retained = s.retained ∧
    (raiseEvent e s).flt.faultOn = s.flt.faultOn ∧ (raiseEvent e s).flt.eventOn = s.flt.eventOn ∧
    (raiseEvent e s).flt.switchOn = s.flt.switchOn ∧ (raiseEvent e s).flt.seconds = s.flt.seconds ∧
    (raiseEvent e s).flt.timer = s.flt.timer ∧ (raiseEvent e s).flt.first = s.flt.first ∧
    (raiseEvent e s).flt.opener = s.flt.opener ∧ (raiseEvent e s).flt.causes = s.flt.causes := by
  simp [raiseEvent]

@[simp] theorem recordFault_frame (c : FaultCode) (sv : Severity) (d : Detail) (s : State) :
    (recordFault c sv d s).pending = s.pending ∧ (recordFault c sv d s).pins = s.pins ∧
    (recordFault c sv d s).power = s.power ∧ (recordFault c sv d s).free = s.free ∧
    (recordFault c sv d s).mq = s.mq ∧ (recordFault c sv d s).tgc = s.tgc ∧ (recordFault c sv d s).ltc = s.ltc ∧
    (recordFault c sv d s).thu = s.thu ∧ (recordFault c sv d s).cdec = s.cdec ∧ (recordFault c sv d s).shc = s.shc ∧
    (recordFault c sv d s).tac = s.tac ∧ (recordFault c sv d s).rrx = s.rrx ∧ (recordFault c sv d s).fe = s.fe ∧
    (recordFault c sv d s).retained = s.retained := by
  simp [recordFault]

@[simp] theorem openCauses_frame (o : Opener) (s : State) :
    (openCauses o s).pending = s.pending ∧ (openCauses o s).pins = s.pins ∧ (openCauses o s).power = s.power ∧
    (openCauses o s).free = s.free ∧ (openCauses o s).mq = s.mq ∧ (openCauses o s).tgc = s.tgc ∧
    (openCauses o s).ltc = s.ltc ∧ (openCauses o s).thu = s.thu ∧ (openCauses o s).cdec = s.cdec ∧
    (openCauses o s).shc = s.shc ∧ (openCauses o s).tac = s.tac ∧ (openCauses o s).rrx = s.rrx ∧
    (openCauses o s).fe = s.fe ∧ (openCauses o s).retained = s.retained ∧ (openCauses o s).link = s.link ∧
    (openCauses o s).flt.faultOn = s.flt.faultOn ∧ (openCauses o s).flt.eventOn = s.flt.eventOn ∧
    (openCauses o s).flt.switchOn = s.flt.switchOn ∧ (openCauses o s).flt.seconds = s.flt.seconds ∧
    (openCauses o s).flt.timer = s.flt.timer ∧ (openCauses o s).flt.first = s.flt.first := by
  simp [openCauses]

@[simp] theorem releaseWaiting_frame (s : State) :
    (releaseWaiting s).pending = s.pending ∧ (releaseWaiting s).pins = s.pins ∧ (releaseWaiting s).power = s.power ∧
    (releaseWaiting s).free = s.free ∧ (releaseWaiting s).mq = s.mq ∧ (releaseWaiting s).tgc = s.tgc ∧
    (releaseWaiting s).ltc = s.ltc ∧ (releaseWaiting s).thu = s.thu ∧ (releaseWaiting s).cdec = s.cdec ∧
    (releaseWaiting s).shc = s.shc ∧ (releaseWaiting s).tac = s.tac ∧ (releaseWaiting s).rrx = s.rrx ∧
    (releaseWaiting s).fe = s.fe ∧ (releaseWaiting s).retained = s.retained ∧
    (releaseWaiting s).flt.faultOn = s.flt.faultOn ∧ (releaseWaiting s).flt.eventOn = s.flt.eventOn ∧
    (releaseWaiting s).flt.switchOn = s.flt.switchOn ∧ (releaseWaiting s).flt.seconds = s.flt.seconds ∧
    (releaseWaiting s).flt.timer = s.flt.timer ∧ (releaseWaiting s).flt.first = s.flt.first ∧
    (releaseWaiting s).flt.opener = s.flt.opener ∧ (releaseWaiting s).flt.causes = s.flt.causes := by
  refine ⟨?_, ?_, ?_, ?_, ?_, ?_, ?_, ?_, ?_, ?_, ?_, ?_, ?_, ?_, ?_, ?_, ?_, ?_, ?_, ?_, ?_, ?_⟩
  · exact (foldl_keeps (fun s : State => s.pending) _ (by intros; simp) _ _)
  · exact (foldl_keeps (fun s : State => s.pins) _ (by intros; simp) _ _)
  · exact (foldl_keeps (fun s : State => s.power) _ (by intros; simp) _ _)
  · exact (foldl_keeps (fun s : State => s.free) _ (by intros; simp) _ _)
  · exact (foldl_keeps (fun s : State => s.mq) _ (by intros; simp) _ _)
  · exact (foldl_keeps (fun s : State => s.tgc) _ (by intros; simp) _ _)
  · exact (foldl_keeps (fun s : State => s.ltc) _ (by intros; simp) _ _)
  · exact (foldl_keeps (fun s : State => s.thu) _ (by intros; simp) _ _)
  · exact (foldl_keeps (fun s : State => s.cdec) _ (by intros; simp) _ _)
  · exact (foldl_keeps (fun s : State => s.shc) _ (by intros; simp) _ _)
  · exact (foldl_keeps (fun s : State => s.tac) _ (by intros; simp) _ _)
  · exact (foldl_keeps (fun s : State => s.rrx) _ (by intros; simp) _ _)
  · exact (foldl_keeps (fun s : State => s.fe) _ (by intros; simp) _ _)
  · exact (foldl_keeps (fun s : State => s.retained) _ (by intros; simp) _ _)
  · exact (foldl_keeps (fun s : State => s.flt.faultOn) _ (by intros; simp) _ _)
  · exact (foldl_keeps (fun s : State => s.flt.eventOn) _ (by intros; simp) _ _)
  · exact (foldl_keeps (fun s : State => s.flt.switchOn) _ (by intros; simp) _ _)
  · exact (foldl_keeps (fun s : State => s.flt.seconds) _ (by intros; simp) _ _)
  · exact (foldl_keeps (fun s : State => s.flt.timer) _ (by intros; simp) _ _)
  · exact (foldl_keeps (fun s : State => s.flt.first) _ (by intros; simp) _ _)
  · exact (foldl_keeps (fun s : State => s.flt.opener) _ (by intros; simp) _ _)
  · exact (foldl_keeps (fun s : State => s.flt.causes) _ (by intros; simp) _ _)

@[simp] theorem enterTransport_frame (new : Transport) (brake : Option Direction) (cause : TapeCause) (s : State) :
    (enterTransport new brake cause s).pending = s.pending ∧ (enterTransport new brake cause s).pins = s.pins ∧
    (enterTransport new brake cause s).power = s.power ∧ (enterTransport new brake cause s).free = s.free ∧
    (enterTransport new brake cause s).mq = s.mq ∧ (enterTransport new brake cause s).tgc = s.tgc ∧
    (enterTransport new brake cause s).ltc = s.ltc ∧ (enterTransport new brake cause s).thu = s.thu ∧
    (enterTransport new brake cause s).shc = s.shc ∧ (enterTransport new brake cause s).rrx = s.rrx ∧
    (enterTransport new brake cause s).fe = s.fe ∧ (enterTransport new brake cause s).retained = s.retained ∧
    (enterTransport new brake cause s).flt.faultOn = s.flt.faultOn ∧
    (enterTransport new brake cause s).flt.eventOn = s.flt.eventOn ∧
    (enterTransport new brake cause s).flt.switchOn = s.flt.switchOn ∧
    (enterTransport new brake cause s).flt.seconds = s.flt.seconds ∧
    (enterTransport new brake cause s).flt.timer = s.flt.timer ∧
    (enterTransport new brake cause s).flt.first = s.flt.first ∧
    (enterTransport new brake cause s).flt.opener = s.flt.opener ∧
    (enterTransport new brake cause s).flt.causes = s.flt.causes := by
  unfold enterTransport; dsimp only; split <;> simp

@[simp] theorem dropOrder_frame (s : State) :
    (dropOrder s).pending = s.pending ∧ (dropOrder s).pins = s.pins ∧ (dropOrder s).power = s.power ∧
    (dropOrder s).free = s.free ∧ (dropOrder s).mq = s.mq ∧ (dropOrder s).tgc = s.tgc ∧ (dropOrder s).ltc = s.ltc ∧
    (dropOrder s).thu = s.thu ∧ (dropOrder s).cdec = s.cdec ∧ (dropOrder s).shc = s.shc ∧ (dropOrder s).rrx = s.rrx ∧
    (dropOrder s).fe = s.fe ∧ (dropOrder s).retained = s.retained ∧ (dropOrder s).link = s.link ∧
    (dropOrder s).flt = s.flt ∧ (dropOrder s).tac.volume = s.tac.volume ∧ (dropOrder s).tac.counter = s.tac.counter ∧
    (dropOrder s).tac.beginFlag = s.tac.beginFlag ∧ (dropOrder s).tac.endFlag = s.tac.endFlag ∧
    (dropOrder s).tac.stall = s.tac.stall := by
  simp [dropOrder]

@[simp] theorem tapePauseOrder_frame (cause : TapeCause) (s : State) :
    (tapePauseOrder cause s).pending = s.pending ∧ (tapePauseOrder cause s).pins = s.pins ∧
    (tapePauseOrder cause s).power = s.power ∧ (tapePauseOrder cause s).free = s.free ∧
    (tapePauseOrder cause s).mq = s.mq ∧ (tapePauseOrder cause s).tgc = s.tgc ∧
    (tapePauseOrder cause s).ltc = s.ltc ∧ (tapePauseOrder cause s).thu = s.thu ∧
    (tapePauseOrder cause s).shc = s.shc ∧ (tapePauseOrder cause s).rrx = s.rrx ∧
    (tapePauseOrder cause s).fe = s.fe ∧ (tapePauseOrder cause s).retained = s.retained ∧
    (tapePauseOrder cause s).flt.faultOn = s.flt.faultOn ∧ (tapePauseOrder cause s).flt.eventOn = s.flt.eventOn ∧
    (tapePauseOrder cause s).flt.switchOn = s.flt.switchOn ∧ (tapePauseOrder cause s).flt.seconds = s.flt.seconds ∧
    (tapePauseOrder cause s).flt.timer = s.flt.timer ∧ (tapePauseOrder cause s).flt.first = s.flt.first ∧
    (tapePauseOrder cause s).flt.opener = s.flt.opener ∧ (tapePauseOrder cause s).flt.causes = s.flt.causes := by
  simp only [tapePauseOrder]; repeat' split
  all_goals first | rfl | simp

@[simp] theorem tapeStopOrder_frame (cause : TapeCause) (s : State) :
    (tapeStopOrder cause s).pending = s.pending ∧ (tapeStopOrder cause s).pins = s.pins ∧
    (tapeStopOrder cause s).power = s.power ∧ (tapeStopOrder cause s).free = s.free ∧
    (tapeStopOrder cause s).mq = s.mq ∧ (tapeStopOrder cause s).tgc = s.tgc ∧ (tapeStopOrder cause s).ltc = s.ltc ∧
    (tapeStopOrder cause s).thu = s.thu ∧ (tapeStopOrder cause s).shc = s.shc ∧ (tapeStopOrder cause s).rrx = s.rrx ∧
    (tapeStopOrder cause s).fe = s.fe ∧ (tapeStopOrder cause s).retained = s.retained ∧
    (tapeStopOrder cause s).flt.faultOn = s.flt.faultOn ∧ (tapeStopOrder cause s).flt.eventOn = s.flt.eventOn ∧
    (tapeStopOrder cause s).flt.switchOn = s.flt.switchOn ∧ (tapeStopOrder cause s).flt.seconds = s.flt.seconds ∧
    (tapeStopOrder cause s).flt.timer = s.flt.timer ∧ (tapeStopOrder cause s).flt.first = s.flt.first ∧
    (tapeStopOrder cause s).flt.opener = s.flt.opener ∧ (tapeStopOrder cause s).flt.causes = s.flt.causes := by
  simp only [tapeStopOrder]; repeat' split
  all_goals first | rfl | simp

@[simp] theorem createFade_frame (target duration : Nat) (curve : Curve) (origin : FadeOrigin) (tag : Option Nat) (s : State) :
    (createFade target duration curve origin tag s).pending = s.pending ∧
    (createFade target duration curve origin tag s).pins = s.pins ∧
    (createFade target duration curve origin tag s).power = s.power ∧
    (createFade target duration curve origin tag s).free = s.free ∧
    (createFade target duration curve origin tag s).mq = s.mq ∧
    (createFade target duration curve origin tag s).tgc = s.tgc ∧
    (createFade target duration curve origin tag s).ltc = s.ltc ∧
    (createFade target duration curve origin tag s).thu = s.thu ∧
    (createFade target duration curve origin tag s).cdec = s.cdec ∧
    (createFade target duration curve origin tag s).shc = s.shc ∧
    (createFade target duration curve origin tag s).tac = s.tac ∧
    (createFade target duration curve origin tag s).rrx = s.rrx ∧
    (createFade target duration curve origin tag s).retained = s.retained ∧
    (createFade target duration curve origin tag s).link = s.link ∧
    (createFade target duration curve origin tag s).flt = s.flt ∧
    (createFade target duration curve origin tag s).fe.level = s.fe.level ∧
    (createFade target duration curve origin tag s).fe.timer = s.fe.timer ∧
    (createFade target duration curve origin tag s).fe.pendingResponse = s.fe.pendingResponse ∧
    (createFade target duration curve origin tag s).fe.applied = s.fe.applied ∧
    (createFade target duration curve origin tag s).fe.dimmer = s.fe.dimmer := by
  simp [createFade]

@[simp] theorem endFade_frame (completed : Bool) (s : State) :
    (endFade completed s).pending = s.pending ∧ (endFade completed s).pins = s.pins ∧
    (endFade completed s).power = s.power ∧ (endFade completed s).free = s.free ∧ (endFade completed s).mq = s.mq ∧
    (endFade completed s).tgc = s.tgc ∧ (endFade completed s).ltc = s.ltc ∧ (endFade completed s).thu = s.thu ∧
    (endFade completed s).cdec = s.cdec ∧ (endFade completed s).shc = s.shc ∧ (endFade completed s).tac = s.tac ∧
    (endFade completed s).rrx = s.rrx ∧ (endFade completed s).retained.position = s.retained.position ∧
    (endFade completed s).retained.map = s.retained.map ∧ (endFade completed s).retained.lampA = s.retained.lampA ∧
    (endFade completed s).retained.lampB = s.retained.lampB ∧ (endFade completed s).retained.cues = s.retained.cues ∧
    (endFade completed s).retained.response = s.retained.response ∧
    (endFade completed s).retained.keymap = s.retained.keymap ∧
    (endFade completed s).retained.params = s.retained.params ∧ (endFade completed s).flt.faultOn = s.flt.faultOn ∧
    (endFade completed s).flt.eventOn = s.flt.eventOn ∧ (endFade completed s).flt.switchOn = s.flt.switchOn ∧
    (endFade completed s).flt.seconds = s.flt.seconds ∧ (endFade completed s).flt.timer = s.flt.timer ∧
    (endFade completed s).flt.first = s.flt.first ∧ (endFade completed s).flt.opener = s.flt.opener ∧
    (endFade completed s).flt.causes = s.flt.causes ∧ (endFade completed s).fe.level = s.fe.level ∧
    (endFade completed s).fe.timer = s.fe.timer ∧ (endFade completed s).fe.pendingResponse = s.fe.pendingResponse ∧
    (endFade completed s).fe.applied = s.fe.applied ∧ (endFade completed s).fe.dimmer = s.fe.dimmer := by
  unfold endFade; dsimp only; repeat' split
  all_goals first | rfl | simp

@[simp] theorem showFade_frame (target duration : Nat) (curve : Curve) (tag : Option Nat) (s : State) :
    (showFade target duration curve tag s).pending = s.pending ∧
    (showFade target duration curve tag s).pins = s.pins ∧ (showFade target duration curve tag s).power = s.power ∧
    (showFade target duration curve tag s).free = s.free ∧ (showFade target duration curve tag s).mq = s.mq ∧
    (showFade target duration curve tag s).tgc = s.tgc ∧ (showFade target duration curve tag s).ltc = s.ltc ∧
    (showFade target duration curve tag s).thu = s.thu ∧ (showFade target duration curve tag s).cdec = s.cdec ∧
    (showFade target duration curve tag s).shc = s.shc ∧ (showFade target duration curve tag s).tac = s.tac ∧
    (showFade target duration curve tag s).rrx = s.rrx ∧
    (showFade target duration curve tag s).retained.position = s.retained.position ∧
    (showFade target duration curve tag s).retained.map = s.retained.map ∧
    (showFade target duration curve tag s).retained.lampA = s.retained.lampA ∧
    (showFade target duration curve tag s).retained.lampB = s.retained.lampB ∧
    (showFade target duration curve tag s).retained.cues = s.retained.cues ∧
    (showFade target duration curve tag s).retained.response = s.retained.response ∧
    (showFade target duration curve tag s).retained.keymap = s.retained.keymap ∧
    (showFade target duration curve tag s).retained.params = s.retained.params ∧
    (showFade target duration curve tag s).flt.faultOn = s.flt.faultOn ∧
    (showFade target duration curve tag s).flt.eventOn = s.flt.eventOn ∧
    (showFade target duration curve tag s).flt.switchOn = s.flt.switchOn ∧
    (showFade target duration curve tag s).flt.seconds = s.flt.seconds ∧
    (showFade target duration curve tag s).flt.timer = s.flt.timer ∧
    (showFade target duration curve tag s).flt.first = s.flt.first ∧
    (showFade target duration curve tag s).flt.opener = s.flt.opener ∧
    (showFade target duration curve tag s).flt.causes = s.flt.causes ∧
    (showFade target duration curve tag s).fe.level = s.fe.level ∧
    (showFade target duration curve tag s).fe.timer = s.fe.timer ∧
    (showFade target duration curve tag s).fe.pendingResponse = s.fe.pendingResponse ∧
    (showFade target duration curve tag s).fe.applied = s.fe.applied ∧
    (showFade target duration curve tag s).fe.dimmer = s.fe.dimmer := by
  simp [showFade]

@[simp] theorem waitingCancelled_frame (reason : CancelReason) (s : State) (m : Motion) :
    (waitingCancelled reason s m).pending = s.pending ∧ (waitingCancelled reason s m).pins = s.pins ∧
    (waitingCancelled reason s m).power = s.power ∧ (waitingCancelled reason s m).free = s.free ∧
    (waitingCancelled reason s m).mq = s.mq ∧ (waitingCancelled reason s m).tgc = s.tgc ∧
    (waitingCancelled reason s m).ltc = s.ltc ∧ (waitingCancelled reason s m).thu = s.thu ∧
    (waitingCancelled reason s m).cdec = s.cdec ∧ (waitingCancelled reason s m).shc = s.shc ∧
    (waitingCancelled reason s m).tac = s.tac ∧ (waitingCancelled reason s m).rrx = s.rrx ∧
    (waitingCancelled reason s m).fe = s.fe ∧ (waitingCancelled reason s m).retained = s.retained ∧
    (waitingCancelled reason s m).flt.faultOn = s.flt.faultOn ∧
    (waitingCancelled reason s m).flt.eventOn = s.flt.eventOn ∧
    (waitingCancelled reason s m).flt.switchOn = s.flt.switchOn ∧
    (waitingCancelled reason s m).flt.seconds = s.flt.seconds ∧
    (waitingCancelled reason s m).flt.timer = s.flt.timer ∧ (waitingCancelled reason s m).flt.first = s.flt.first ∧
    (waitingCancelled reason s m).flt.opener = s.flt.opener ∧
    (waitingCancelled reason s m).flt.causes = s.flt.causes := by
  simp [waitingCancelled]

@[simp] theorem discardWaiting_frame (p : Motion → Bool) (reason : CancelReason) (s : State) :
    (discardWaiting p reason s).pending = s.pending ∧ (discardWaiting p reason s).pins = s.pins ∧
    (discardWaiting p reason s).power = s.power ∧ (discardWaiting p reason s).free = s.free ∧
    (discardWaiting p reason s).tgc = s.tgc ∧ (discardWaiting p reason s).ltc = s.ltc ∧
    (discardWaiting p reason s).thu = s.thu ∧ (discardWaiting p reason s).cdec = s.cdec ∧
    (discardWaiting p reason s).shc = s.shc ∧ (discardWaiting p reason s).tac = s.tac ∧
    (discardWaiting p reason s).rrx = s.rrx ∧ (discardWaiting p reason s).fe = s.fe ∧
    (discardWaiting p reason s).retained = s.retained ∧ (discardWaiting p reason s).flt.faultOn = s.flt.faultOn ∧
    (discardWaiting p reason s).flt.eventOn = s.flt.eventOn ∧
    (discardWaiting p reason s).flt.switchOn = s.flt.switchOn ∧
    (discardWaiting p reason s).flt.seconds = s.flt.seconds ∧ (discardWaiting p reason s).flt.timer = s.flt.timer ∧
    (discardWaiting p reason s).flt.first = s.flt.first ∧ (discardWaiting p reason s).flt.opener = s.flt.opener ∧
    (discardWaiting p reason s).flt.causes = s.flt.causes := by
  refine ⟨?_, ?_, ?_, ?_, ?_, ?_, ?_, ?_, ?_, ?_, ?_, ?_, ?_, ?_, ?_, ?_, ?_, ?_, ?_, ?_, ?_⟩
  · exact (foldl_keeps (fun s : State => s.pending) _ (by intros; simp) _ _).trans (by simp)
  · exact (foldl_keeps (fun s : State => s.pins) _ (by intros; simp) _ _).trans (by simp)
  · exact (foldl_keeps (fun s : State => s.power) _ (by intros; simp) _ _).trans (by simp)
  · exact (foldl_keeps (fun s : State => s.free) _ (by intros; simp) _ _).trans (by simp)
  · exact (foldl_keeps (fun s : State => s.tgc) _ (by intros; simp) _ _).trans (by simp)
  · exact (foldl_keeps (fun s : State => s.ltc) _ (by intros; simp) _ _).trans (by simp)
  · exact (foldl_keeps (fun s : State => s.thu) _ (by intros; simp) _ _).trans (by simp)
  · exact (foldl_keeps (fun s : State => s.cdec) _ (by intros; simp) _ _).trans (by simp)
  · exact (foldl_keeps (fun s : State => s.shc) _ (by intros; simp) _ _).trans (by simp)
  · exact (foldl_keeps (fun s : State => s.tac) _ (by intros; simp) _ _).trans (by simp)
  · exact (foldl_keeps (fun s : State => s.rrx) _ (by intros; simp) _ _).trans (by simp)
  · exact (foldl_keeps (fun s : State => s.fe) _ (by intros; simp) _ _).trans (by simp)
  · exact (foldl_keeps (fun s : State => s.retained) _ (by intros; simp) _ _).trans (by simp)
  · exact (foldl_keeps (fun s : State => s.flt.faultOn) _ (by intros; simp) _ _).trans (by simp)
  · exact (foldl_keeps (fun s : State => s.flt.eventOn) _ (by intros; simp) _ _).trans (by simp)
  · exact (foldl_keeps (fun s : State => s.flt.switchOn) _ (by intros; simp) _ _).trans (by simp)
  · exact (foldl_keeps (fun s : State => s.flt.seconds) _ (by intros; simp) _ _).trans (by simp)
  · exact (foldl_keeps (fun s : State => s.flt.timer) _ (by intros; simp) _ _).trans (by simp)
  · exact (foldl_keeps (fun s : State => s.flt.first) _ (by intros; simp) _ _).trans (by simp)
  · exact (foldl_keeps (fun s : State => s.flt.opener) _ (by intros; simp) _ _).trans (by simp)
  · exact (foldl_keeps (fun s : State => s.flt.causes) _ (by intros; simp) _ _).trans (by simp)

@[simp] theorem cancelActive_frame (reason : CancelReason) (s : State) :
    (cancelActive reason s).pending = s.pending ∧ (cancelActive reason s).pins = s.pins ∧
    (cancelActive reason s).power = s.power ∧ (cancelActive reason s).free = s.free ∧
    (cancelActive reason s).mq = s.mq ∧ (cancelActive reason s).ltc = s.ltc ∧ (cancelActive reason s).thu = s.thu ∧
    (cancelActive reason s).cdec = s.cdec ∧ (cancelActive reason s).shc = s.shc ∧
    (cancelActive reason s).tac = s.tac ∧ (cancelActive reason s).rrx = s.rrx ∧ (cancelActive reason s).fe = s.fe ∧
    (cancelActive reason s).retained = s.retained ∧ (cancelActive reason s).link = s.link ∧
    (cancelActive reason s).flt = s.flt ∧ (cancelActive reason s).tgc.present = s.tgc.present ∧
    (cancelActive reason s).tgc.phase = s.tgc.phase ∧ (cancelActive reason s).tgc.gateLoad = s.tgc.gateLoad ∧
    (cancelActive reason s).tgc.blank = s.tgc.blank ∧ (cancelActive reason s).tgc.lift = s.tgc.lift ∧
    (cancelActive reason s).tgc.motor = s.tgc.motor ∧ (cancelActive reason s).tgc.timer = s.tgc.timer := by
  simp [cancelActive]

@[simp] theorem setShow_frame (new : ShowState) (reason : ShowReason) (s : State) :
    (setShow new reason s).pending = s.pending ∧ (setShow new reason s).pins = s.pins ∧
    (setShow new reason s).power = s.power ∧ (setShow new reason s).free = s.free ∧
    (setShow new reason s).mq = s.mq ∧ (setShow new reason s).tgc = s.tgc ∧ (setShow new reason s).ltc = s.ltc ∧
    (setShow new reason s).thu = s.thu ∧ (setShow new reason s).cdec = s.cdec ∧ (setShow new reason s).tac = s.tac ∧
    (setShow new reason s).rrx = s.rrx ∧ (setShow new reason s).fe = s.fe ∧
    (setShow new reason s).retained = s.retained ∧ (setShow new reason s).flt.faultOn = s.flt.faultOn ∧
    (setShow new reason s).flt.eventOn = s.flt.eventOn ∧ (setShow new reason s).flt.switchOn = s.flt.switchOn ∧
    (setShow new reason s).flt.seconds = s.flt.seconds ∧ (setShow new reason s).flt.timer = s.flt.timer ∧
    (setShow new reason s).flt.first = s.flt.first ∧ (setShow new reason s).flt.opener = s.flt.opener ∧
    (setShow new reason s).flt.causes = s.flt.causes ∧ (setShow new reason s).shc.pointer = s.shc.pointer ∧
    (setShow new reason s).shc.startSlot = s.shc.startSlot := by
  simp [setShow]

@[simp] theorem enterStopped_frame (reason : StopReason) (s : State) :
    (enterStopped reason s).pending = s.pending ∧ (enterStopped reason s).pins = s.pins ∧
    (enterStopped reason s).power = s.power ∧ (enterStopped reason s).free = s.free ∧
    (enterStopped reason s).mq = s.mq ∧ (enterStopped reason s).tgc = s.tgc ∧ (enterStopped reason s).ltc = s.ltc ∧
    (enterStopped reason s).thu = s.thu ∧ (enterStopped reason s).rrx = s.rrx ∧ (enterStopped reason s).fe = s.fe ∧
    (enterStopped reason s).retained = s.retained ∧ (enterStopped reason s).flt.faultOn = s.flt.faultOn ∧
    (enterStopped reason s).flt.eventOn = s.flt.eventOn ∧ (enterStopped reason s).flt.switchOn = s.flt.switchOn ∧
    (enterStopped reason s).flt.seconds = s.flt.seconds ∧ (enterStopped reason s).flt.timer = s.flt.timer ∧
    (enterStopped reason s).flt.first = s.flt.first ∧ (enterStopped reason s).flt.opener = s.flt.opener ∧
    (enterStopped reason s).flt.causes = s.flt.causes ∧ (enterStopped reason s).shc.pointer = s.shc.pointer ∧
    (enterStopped reason s).shc.startSlot = s.shc.startSlot := by
  simp [enterStopped]

@[simp] theorem discardShowMoves_frame (s : State) :
    (discardShowMoves s).pending = s.pending ∧ (discardShowMoves s).pins = s.pins ∧
    (discardShowMoves s).power = s.power ∧ (discardShowMoves s).free = s.free ∧ (discardShowMoves s).ltc = s.ltc ∧
    (discardShowMoves s).thu = s.thu ∧ (discardShowMoves s).cdec = s.cdec ∧ (discardShowMoves s).tac = s.tac ∧
    (discardShowMoves s).rrx = s.rrx ∧ (discardShowMoves s).fe = s.fe ∧ (discardShowMoves s).retained = s.retained ∧
    (discardShowMoves s).flt.faultOn = s.flt.faultOn ∧ (discardShowMoves s).flt.eventOn = s.flt.eventOn ∧
    (discardShowMoves s).flt.switchOn = s.flt.switchOn ∧ (discardShowMoves s).flt.seconds = s.flt.seconds ∧
    (discardShowMoves s).flt.timer = s.flt.timer ∧ (discardShowMoves s).flt.first = s.flt.first ∧
    (discardShowMoves s).flt.opener = s.flt.opener ∧ (discardShowMoves s).flt.causes = s.flt.causes ∧
    (discardShowMoves s).tgc.present = s.tgc.present ∧ (discardShowMoves s).tgc.phase = s.tgc.phase ∧
    (discardShowMoves s).tgc.gateLoad = s.tgc.gateLoad ∧ (discardShowMoves s).tgc.blank = s.tgc.blank ∧
    (discardShowMoves s).tgc.lift = s.tgc.lift ∧ (discardShowMoves s).tgc.motor = s.tgc.motor ∧
    (discardShowMoves s).tgc.timer = s.tgc.timer ∧ (discardShowMoves s).shc.state = s.shc.state ∧
    (discardShowMoves s).shc.pointer = s.shc.pointer ∧ (discardShowMoves s).shc.startSlot = s.shc.startSlot := by
  unfold discardShowMoves; dsimp only; repeat' split
  all_goals first | rfl | simp

@[simp] theorem showStop_frame (reason : StopReason) (s : State) :
    (showStop reason s).pending = s.pending ∧ (showStop reason s).pins = s.pins ∧
    (showStop reason s).power = s.power ∧ (showStop reason s).free = s.free ∧ (showStop reason s).ltc = s.ltc ∧
    (showStop reason s).thu = s.thu ∧ (showStop reason s).rrx = s.rrx ∧
    (showStop reason s).retained.position = s.retained.position ∧ (showStop reason s).retained.map = s.retained.map ∧
    (showStop reason s).retained.lampA = s.retained.lampA ∧ (showStop reason s).retained.lampB = s.retained.lampB ∧
    (showStop reason s).retained.cues = s.retained.cues ∧
    (showStop reason s).retained.response = s.retained.response ∧
    (showStop reason s).retained.keymap = s.retained.keymap ∧
    (showStop reason s).retained.params = s.retained.params ∧ (showStop reason s).flt.faultOn = s.flt.faultOn ∧
    (showStop reason s).flt.eventOn = s.flt.eventOn ∧ (showStop reason s).flt.switchOn = s.flt.switchOn ∧
    (showStop reason s).flt.seconds = s.flt.seconds ∧ (showStop reason s).flt.timer = s.flt.timer ∧
    (showStop reason s).flt.first = s.flt.first ∧ (showStop reason s).flt.opener = s.flt.opener ∧
    (showStop reason s).flt.causes = s.flt.causes ∧ (showStop reason s).tgc.present = s.tgc.present ∧
    (showStop reason s).tgc.phase = s.tgc.phase ∧ (showStop reason s).tgc.gateLoad = s.tgc.gateLoad ∧
    (showStop reason s).tgc.blank = s.tgc.blank ∧ (showStop reason s).tgc.lift = s.tgc.lift ∧
    (showStop reason s).tgc.motor = s.tgc.motor ∧ (showStop reason s).tgc.timer = s.tgc.timer ∧
    (showStop reason s).fe.level = s.fe.level ∧ (showStop reason s).fe.timer = s.fe.timer ∧
    (showStop reason s).fe.pendingResponse = s.fe.pendingResponse ∧ (showStop reason s).fe.applied = s.fe.applied ∧
    (showStop reason s).fe.dimmer = s.fe.dimmer ∧ (showStop reason s).shc.pointer = s.shc.pointer ∧
    (showStop reason s).shc.startSlot = s.shc.startSlot := by
  simp [showStop]

@[simp] theorem enterHeld_frame (code : FaultCode) (hold : Bool) (s : State) :
    (enterHeld code hold s).pending = s.pending ∧ (enterHeld code hold s).pins = s.pins ∧
    (enterHeld code hold s).power = s.power ∧ (enterHeld code hold s).free = s.free ∧
    (enterHeld code hold s).mq = s.mq ∧ (enterHeld code hold s).tgc = s.tgc ∧ (enterHeld code hold s).ltc = s.ltc ∧
    (enterHeld code hold s).thu = s.thu ∧ (enterHeld code hold s).rrx = s.rrx ∧ (enterHeld code hold s).fe = s.fe ∧
    (enterHeld code hold s).retained = s.retained ∧ (enterHeld code hold s).flt.faultOn = s.flt.faultOn ∧
    (enterHeld code hold s).flt.eventOn = s.flt.eventOn ∧ (enterHeld code hold s).flt.switchOn = s.flt.switchOn ∧
    (enterHeld code hold s).flt.seconds = s.flt.seconds ∧ (enterHeld code hold s).flt.timer = s.flt.timer ∧
    (enterHeld code hold s).flt.first = s.flt.first ∧ (enterHeld code hold s).flt.opener = s.flt.opener ∧
    (enterHeld code hold s).flt.causes = s.flt.causes ∧ (enterHeld code hold s).shc.pointer = s.shc.pointer ∧
    (enterHeld code hold s).shc.startSlot = s.shc.startSlot := by
  unfold enterHeld; dsimp only; split <;> simp

@[simp] theorem showReact_frame (code : FaultCode) (severity : Severity) (s : State) :
    (showReact code severity s).pending = s.pending ∧ (showReact code severity s).pins = s.pins ∧
    (showReact code severity s).power = s.power ∧ (showReact code severity s).free = s.free ∧
    (showReact code severity s).ltc = s.ltc ∧ (showReact code severity s).thu = s.thu ∧
    (showReact code severity s).rrx = s.rrx ∧ (showReact code severity s).retained.position = s.retained.position ∧
    (showReact code severity s).retained.map = s.retained.map ∧
    (showReact code severity s).retained.lampA = s.retained.lampA ∧
    (showReact code severity s).retained.lampB = s.retained.lampB ∧
    (showReact code severity s).retained.cues = s.retained.cues ∧
    (showReact code severity s).retained.response = s.retained.response ∧
    (showReact code severity s).retained.keymap = s.retained.keymap ∧
    (showReact code severity s).retained.params = s.retained.params ∧
    (showReact code severity s).flt.faultOn = s.flt.faultOn ∧
    (showReact code severity s).flt.eventOn = s.flt.eventOn ∧
    (showReact code severity s).flt.switchOn = s.flt.switchOn ∧
    (showReact code severity s).flt.seconds = s.flt.seconds ∧ (showReact code severity s).flt.timer = s.flt.timer ∧
    (showReact code severity s).flt.first = s.flt.first ∧ (showReact code severity s).flt.opener = s.flt.opener ∧
    (showReact code severity s).flt.causes = s.flt.causes ∧ (showReact code severity s).tgc.present = s.tgc.present ∧
    (showReact code severity s).tgc.phase = s.tgc.phase ∧ (showReact code severity s).tgc.gateLoad = s.tgc.gateLoad ∧
    (showReact code severity s).tgc.blank = s.tgc.blank ∧ (showReact code severity s).tgc.lift = s.tgc.lift ∧
    (showReact code severity s).tgc.motor = s.tgc.motor ∧ (showReact code severity s).tgc.timer = s.tgc.timer ∧
    (showReact code severity s).fe.level = s.fe.level ∧ (showReact code severity s).fe.timer = s.fe.timer ∧
    (showReact code severity s).fe.pendingResponse = s.fe.pendingResponse ∧
    (showReact code severity s).fe.applied = s.fe.applied ∧ (showReact code severity s).fe.dimmer = s.fe.dimmer ∧
    (showReact code severity s).shc.pointer = s.shc.pointer ∧
    (showReact code severity s).shc.startSlot = s.shc.startSlot := by
  simp only [showReact]; repeat' split
  all_goals first | rfl | simp

@[simp] theorem raiseAs_frame (code : FaultCode) (severity : Severity) (detail : Detail) (s : State) :
    (raiseAs code severity detail s).pending = s.pending ∧ (raiseAs code severity detail s).pins = s.pins ∧
    (raiseAs code severity detail s).power = s.power ∧ (raiseAs code severity detail s).free = s.free ∧
    (raiseAs code severity detail s).ltc = s.ltc ∧ (raiseAs code severity detail s).thu = s.thu ∧
    (raiseAs code severity detail s).rrx = s.rrx ∧
    (raiseAs code severity detail s).retained.position = s.retained.position ∧
    (raiseAs code severity detail s).retained.map = s.retained.map ∧
    (raiseAs code severity detail s).retained.lampA = s.retained.lampA ∧
    (raiseAs code severity detail s).retained.lampB = s.retained.lampB ∧
    (raiseAs code severity detail s).retained.cues = s.retained.cues ∧
    (raiseAs code severity detail s).retained.response = s.retained.response ∧
    (raiseAs code severity detail s).retained.keymap = s.retained.keymap ∧
    (raiseAs code severity detail s).retained.params = s.retained.params ∧
    (raiseAs code severity detail s).tgc.present = s.tgc.present ∧
    (raiseAs code severity detail s).tgc.phase = s.tgc.phase ∧
    (raiseAs code severity detail s).tgc.gateLoad = s.tgc.gateLoad ∧
    (raiseAs code severity detail s).tgc.blank = s.tgc.blank ∧
    (raiseAs code severity detail s).tgc.lift = s.tgc.lift ∧
    (raiseAs code severity detail s).tgc.motor = s.tgc.motor ∧
    (raiseAs code severity detail s).tgc.timer = s.tgc.timer ∧
    (raiseAs code severity detail s).fe.level = s.fe.level ∧ (raiseAs code severity detail s).fe.timer = s.fe.timer ∧
    (raiseAs code severity detail s).fe.pendingResponse = s.fe.pendingResponse ∧
    (raiseAs code severity detail s).fe.applied = s.fe.applied ∧
    (raiseAs code severity detail s).fe.dimmer = s.fe.dimmer ∧
    (raiseAs code severity detail s).shc.pointer = s.shc.pointer ∧
    (raiseAs code severity detail s).shc.startSlot = s.shc.startSlot := by
  simp [raiseAs]

@[simp] theorem raiseFault_frame (code : FaultCode) (detail : Detail) (s : State) :
    (raiseFault code detail s).pending = s.pending ∧ (raiseFault code detail s).pins = s.pins ∧
    (raiseFault code detail s).power = s.power ∧ (raiseFault code detail s).free = s.free ∧
    (raiseFault code detail s).ltc = s.ltc ∧ (raiseFault code detail s).thu = s.thu ∧
    (raiseFault code detail s).rrx = s.rrx ∧ (raiseFault code detail s).retained.position = s.retained.position ∧
    (raiseFault code detail s).retained.map = s.retained.map ∧
    (raiseFault code detail s).retained.lampA = s.retained.lampA ∧
    (raiseFault code detail s).retained.lampB = s.retained.lampB ∧
    (raiseFault code detail s).retained.cues = s.retained.cues ∧
    (raiseFault code detail s).retained.response = s.retained.response ∧
    (raiseFault code detail s).retained.keymap = s.retained.keymap ∧
    (raiseFault code detail s).retained.params = s.retained.params ∧
    (raiseFault code detail s).tgc.present = s.tgc.present ∧ (raiseFault code detail s).tgc.phase = s.tgc.phase ∧
    (raiseFault code detail s).tgc.gateLoad = s.tgc.gateLoad ∧ (raiseFault code detail s).tgc.blank = s.tgc.blank ∧
    (raiseFault code detail s).tgc.lift = s.tgc.lift ∧ (raiseFault code detail s).tgc.motor = s.tgc.motor ∧
    (raiseFault code detail s).tgc.timer = s.tgc.timer ∧ (raiseFault code detail s).fe.level = s.fe.level ∧
    (raiseFault code detail s).fe.timer = s.fe.timer ∧
    (raiseFault code detail s).fe.pendingResponse = s.fe.pendingResponse ∧
    (raiseFault code detail s).fe.applied = s.fe.applied ∧ (raiseFault code detail s).fe.dimmer = s.fe.dimmer ∧
    (raiseFault code detail s).shc.pointer = s.shc.pointer ∧
    (raiseFault code detail s).shc.startSlot = s.shc.startSlot := by
  simp [raiseFault]

@[simp] theorem settle_frame (s : State) :
    (settle s).pending = s.pending ∧ (settle s).pins = s.pins ∧ (settle s).power = s.power ∧
    (settle s).free = s.free ∧ (settle s).mq = s.mq ∧ (settle s).ltc = s.ltc ∧ (settle s).thu = s.thu ∧
    (settle s).cdec = s.cdec ∧ (settle s).shc = s.shc ∧ (settle s).tac = s.tac ∧ (settle s).rrx = s.rrx ∧
    (settle s).fe = s.fe ∧ (settle s).retained = s.retained ∧ (settle s).flt = s.flt ∧
    (settle s).tgc.present = s.tgc.present ∧ (settle s).tgc.phase = s.tgc.phase ∧
    (settle s).tgc.gateLoad = s.tgc.gateLoad ∧ (settle s).tgc.blank = s.tgc.blank ∧
    (settle s).tgc.lift = s.tgc.lift ∧ (settle s).tgc.motor = s.tgc.motor ∧ (settle s).tgc.timer = s.tgc.timer := by
  simp [settle]

@[simp] theorem beginMove_frame (o : MoveOrder) (issuer : TapeIssuer) (s : State) :
    (beginMove o issuer s).1.pending = s.pending ∧ (beginMove o issuer s).1.pins = s.pins ∧
    (beginMove o issuer s).1.power = s.power ∧ (beginMove o issuer s).1.free = s.free ∧
    (beginMove o issuer s).1.ltc = s.ltc ∧ (beginMove o issuer s).1.thu = s.thu ∧
    (beginMove o issuer s).1.rrx = s.rrx ∧ (beginMove o issuer s).1.retained.position = s.retained.position ∧
    (beginMove o issuer s).1.retained.map = s.retained.map ∧
    (beginMove o issuer s).1.retained.lampA = s.retained.lampA ∧
    (beginMove o issuer s).1.retained.lampB = s.retained.lampB ∧
    (beginMove o issuer s).1.retained.cues = s.retained.cues ∧
    (beginMove o issuer s).1.retained.response = s.retained.response ∧
    (beginMove o issuer s).1.retained.keymap = s.retained.keymap ∧
    (beginMove o issuer s).1.retained.params = s.retained.params ∧
    (beginMove o issuer s).1.tgc.present = s.tgc.present ∧ (beginMove o issuer s).1.tgc.phase = s.tgc.phase ∧
    (beginMove o issuer s).1.tgc.gateLoad = s.tgc.gateLoad ∧ (beginMove o issuer s).1.tgc.blank = s.tgc.blank ∧
    (beginMove o issuer s).1.tgc.lift = s.tgc.lift ∧ (beginMove o issuer s).1.tgc.motor = s.tgc.motor ∧
    (beginMove o issuer s).1.tgc.timer = s.tgc.timer ∧ (beginMove o issuer s).1.fe.level = s.fe.level ∧
    (beginMove o issuer s).1.fe.timer = s.fe.timer ∧
    (beginMove o issuer s).1.fe.pendingResponse = s.fe.pendingResponse ∧
    (beginMove o issuer s).1.fe.applied = s.fe.applied ∧ (beginMove o issuer s).1.fe.dimmer = s.fe.dimmer ∧
    (beginMove o issuer s).1.shc.pointer = s.shc.pointer ∧ (beginMove o issuer s).1.shc.startSlot = s.shc.startSlot := by
  unfold beginMove; dsimp only; repeat' split
  all_goals first | rfl | simp

@[simp] theorem holdOrder_frame (o : MoveOrder) (issuer : TapeIssuer) (s : State) :
    (holdOrder o issuer s).pending = s.pending ∧ (holdOrder o issuer s).pins = s.pins ∧
    (holdOrder o issuer s).power = s.power ∧ (holdOrder o issuer s).free = s.free ∧
    (holdOrder o issuer s).mq = s.mq ∧ (holdOrder o issuer s).tgc = s.tgc ∧ (holdOrder o issuer s).ltc = s.ltc ∧
    (holdOrder o issuer s).thu = s.thu ∧ (holdOrder o issuer s).cdec = s.cdec ∧ (holdOrder o issuer s).shc = s.shc ∧
    (holdOrder o issuer s).rrx = s.rrx ∧ (holdOrder o issuer s).fe = s.fe ∧
    (holdOrder o issuer s).retained = s.retained ∧ (holdOrder o issuer s).link = s.link ∧
    (holdOrder o issuer s).flt = s.flt ∧ (holdOrder o issuer s).tac.volume = s.tac.volume ∧
    (holdOrder o issuer s).tac.counter = s.tac.counter ∧ (holdOrder o issuer s).tac.beginFlag = s.tac.beginFlag ∧
    (holdOrder o issuer s).tac.endFlag = s.tac.endFlag ∧ (holdOrder o issuer s).tac.stall = s.tac.stall := by
  simp [holdOrder]

@[simp] theorem moveOrder_frame (o : MoveOrder) (issuer : TapeIssuer) (s : State) :
    (moveOrder o issuer s).1.pending = s.pending ∧ (moveOrder o issuer s).1.pins = s.pins ∧
    (moveOrder o issuer s).1.power = s.power ∧ (moveOrder o issuer s).1.free = s.free ∧
    (moveOrder o issuer s).1.ltc = s.ltc ∧ (moveOrder o issuer s).1.thu = s.thu ∧
    (moveOrder o issuer s).1.rrx = s.rrx ∧ (moveOrder o issuer s).1.retained.position = s.retained.position ∧
    (moveOrder o issuer s).1.retained.map = s.retained.map ∧
    (moveOrder o issuer s).1.retained.lampA = s.retained.lampA ∧
    (moveOrder o issuer s).1.retained.lampB = s.retained.lampB ∧
    (moveOrder o issuer s).1.retained.cues = s.retained.cues ∧
    (moveOrder o issuer s).1.retained.response = s.retained.response ∧
    (moveOrder o issuer s).1.retained.keymap = s.retained.keymap ∧
    (moveOrder o issuer s).1.retained.params = s.retained.params ∧
    (moveOrder o issuer s).1.tgc.present = s.tgc.present ∧ (moveOrder o issuer s).1.tgc.phase = s.tgc.phase ∧
    (moveOrder o issuer s).1.tgc.gateLoad = s.tgc.gateLoad ∧ (moveOrder o issuer s).1.tgc.blank = s.tgc.blank ∧
    (moveOrder o issuer s).1.tgc.lift = s.tgc.lift ∧ (moveOrder o issuer s).1.tgc.motor = s.tgc.motor ∧
    (moveOrder o issuer s).1.tgc.timer = s.tgc.timer ∧ (moveOrder o issuer s).1.fe.level = s.fe.level ∧
    (moveOrder o issuer s).1.fe.timer = s.fe.timer ∧
    (moveOrder o issuer s).1.fe.pendingResponse = s.fe.pendingResponse ∧
    (moveOrder o issuer s).1.fe.applied = s.fe.applied ∧ (moveOrder o issuer s).1.fe.dimmer = s.fe.dimmer ∧
    (moveOrder o issuer s).1.shc.pointer = s.shc.pointer ∧ (moveOrder o issuer s).1.shc.startSlot = s.shc.startSlot := by
  simp only [moveOrder]; repeat' split
  all_goals first | rfl | simp

@[simp] theorem refusedFull_frame (source : Source) (tag : Option Nat) (s : State) :
    (refusedFull source tag s).pending = s.pending ∧ (refusedFull source tag s).pins = s.pins ∧
    (refusedFull source tag s).power = s.power ∧ (refusedFull source tag s).free = s.free ∧
    (refusedFull source tag s).ltc = s.ltc ∧ (refusedFull source tag s).thu = s.thu ∧
    (refusedFull source tag s).retained.position = s.retained.position ∧
    (refusedFull source tag s).retained.map = s.retained.map ∧
    (refusedFull source tag s).retained.lampA = s.retained.lampA ∧
    (refusedFull source tag s).retained.lampB = s.retained.lampB ∧
    (refusedFull source tag s).retained.cues = s.retained.cues ∧
    (refusedFull source tag s).retained.response = s.retained.response ∧
    (refusedFull source tag s).retained.keymap = s.retained.keymap ∧
    (refusedFull source tag s).retained.params = s.retained.params ∧
    (refusedFull source tag s).tgc.present = s.tgc.present ∧ (refusedFull source tag s).tgc.phase = s.tgc.phase ∧
    (refusedFull source tag s).tgc.gateLoad = s.tgc.gateLoad ∧ (refusedFull source tag s).tgc.blank = s.tgc.blank ∧
    (refusedFull source tag s).tgc.lift = s.tgc.lift ∧ (refusedFull source tag s).tgc.motor = s.tgc.motor ∧
    (refusedFull source tag s).tgc.timer = s.tgc.timer ∧ (refusedFull source tag s).fe.level = s.fe.level ∧
    (refusedFull source tag s).fe.timer = s.fe.timer ∧
    (refusedFull source tag s).fe.pendingResponse = s.fe.pendingResponse ∧
    (refusedFull source tag s).fe.applied = s.fe.applied ∧ (refusedFull source tag s).fe.dimmer = s.fe.dimmer ∧
    (refusedFull source tag s).shc.pointer = s.shc.pointer ∧
    (refusedFull source tag s).shc.startSlot = s.shc.startSlot := by
  simp only [refusedFull]; repeat' split
  all_goals first | rfl | simp

@[simp] theorem offer_frame (move : Move) (source : Source) (tag : Option Nat) (s : State) :
    (offer move source tag s).1.pending = s.pending ∧ (offer move source tag s).1.pins = s.pins ∧
    (offer move source tag s).1.power = s.power ∧ (offer move source tag s).1.free = s.free ∧
    (offer move source tag s).1.ltc = s.ltc ∧ (offer move source tag s).1.thu = s.thu ∧
    (offer move source tag s).1.retained.position = s.retained.position ∧
    (offer move source tag s).1.retained.map = s.retained.map ∧
    (offer move source tag s).1.retained.lampA = s.retained.lampA ∧
    (offer move source tag s).1.retained.lampB = s.retained.lampB ∧
    (offer move source tag s).1.retained.cues = s.retained.cues ∧
    (offer move source tag s).1.retained.response = s.retained.response ∧
    (offer move source tag s).1.retained.keymap = s.retained.keymap ∧
    (offer move source tag s).1.retained.params = s.retained.params ∧
    (offer move source tag s).1.tgc.present = s.tgc.present ∧ (offer move source tag s).1.tgc.phase = s.tgc.phase ∧
    (offer move source tag s).1.tgc.gateLoad = s.tgc.gateLoad ∧ (offer move source tag s).1.tgc.blank = s.tgc.blank ∧
    (offer move source tag s).1.tgc.lift = s.tgc.lift ∧ (offer move source tag s).1.tgc.motor = s.tgc.motor ∧
    (offer move source tag s).1.tgc.timer = s.tgc.timer ∧ (offer move source tag s).1.fe.level = s.fe.level ∧
    (offer move source tag s).1.fe.timer = s.fe.timer ∧
    (offer move source tag s).1.fe.pendingResponse = s.fe.pendingResponse ∧
    (offer move source tag s).1.fe.applied = s.fe.applied ∧ (offer move source tag s).1.fe.dimmer = s.fe.dimmer ∧
    (offer move source tag s).1.shc.pointer = s.shc.pointer ∧
    (offer move source tag s).1.shc.startSlot = s.shc.startSlot := by
  simp only [offer]; repeat' split
  all_goals first | rfl | simp

@[simp] theorem showRefused_frame (purpose : Purpose) (s : State) :
    (showRefused purpose s).pending = s.pending ∧ (showRefused purpose s).pins = s.pins ∧
    (showRefused purpose s).power = s.power ∧ (showRefused purpose s).free = s.free ∧
    (showRefused purpose s).mq = s.mq ∧ (showRefused purpose s).tgc = s.tgc ∧ (showRefused purpose s).ltc = s.ltc ∧
    (showRefused purpose s).thu = s.thu ∧ (showRefused purpose s).cdec = s.cdec ∧
    (showRefused purpose s).tac = s.tac ∧ (showRefused purpose s).rrx = s.rrx ∧ (showRefused purpose s).fe = s.fe ∧
    (showRefused purpose s).retained = s.retained ∧ (showRefused purpose s).link = s.link ∧
    (showRefused purpose s).flt = s.flt ∧ (showRefused purpose s).shc.state = s.shc.state ∧
    (showRefused purpose s).shc.pointer = s.shc.pointer ∧ (showRefused purpose s).shc.startSlot = s.shc.startSlot := by
  unfold showRefused; dsimp only; split <;> simp

@[simp] theorem offerShow_frame (move : Move) (tag : Option Nat) (purpose : Purpose) (check : Option SlotCheck) (s : State) :
    (offerShow move tag purpose check s).pending = s.pending ∧ (offerShow move tag purpose check s).pins = s.pins ∧
    (offerShow move tag purpose check s).power = s.power ∧ (offerShow move tag purpose check s).free = s.free ∧
    (offerShow move tag purpose check s).ltc = s.ltc ∧ (offerShow move tag purpose check s).thu = s.thu ∧
    (offerShow move tag purpose check s).retained.position = s.retained.position ∧
    (offerShow move tag purpose check s).retained.map = s.retained.map ∧
    (offerShow move tag purpose check s).retained.lampA = s.retained.lampA ∧
    (offerShow move tag purpose check s).retained.lampB = s.retained.lampB ∧
    (offerShow move tag purpose check s).retained.cues = s.retained.cues ∧
    (offerShow move tag purpose check s).retained.response = s.retained.response ∧
    (offerShow move tag purpose check s).retained.keymap = s.retained.keymap ∧
    (offerShow move tag purpose check s).retained.params = s.retained.params ∧
    (offerShow move tag purpose check s).tgc.present = s.tgc.present ∧
    (offerShow move tag purpose check s).tgc.phase = s.tgc.phase ∧
    (offerShow move tag purpose check s).tgc.gateLoad = s.tgc.gateLoad ∧
    (offerShow move tag purpose check s).tgc.blank = s.tgc.blank ∧
    (offerShow move tag purpose check s).tgc.lift = s.tgc.lift ∧
    (offerShow move tag purpose check s).tgc.motor = s.tgc.motor ∧
    (offerShow move tag purpose check s).tgc.timer = s.tgc.timer ∧
    (offerShow move tag purpose check s).fe.level = s.fe.level ∧
    (offerShow move tag purpose check s).fe.timer = s.fe.timer ∧
    (offerShow move tag purpose check s).fe.pendingResponse = s.fe.pendingResponse ∧
    (offerShow move tag purpose check s).fe.applied = s.fe.applied ∧
    (offerShow move tag purpose check s).fe.dimmer = s.fe.dimmer ∧
    (offerShow move tag purpose check s).shc.pointer = s.shc.pointer ∧
    (offerShow move tag purpose check s).shc.startSlot = s.shc.startSlot := by
  unfold offerShow; dsimp only; split <;> simp

@[simp] theorem slotCheck_frame (check : SlotCheck) (position : Position) (s : State) :
    (slotCheck check position s).pending = s.pending ∧ (slotCheck check position s).pins = s.pins ∧
    (slotCheck check position s).power = s.power ∧ (slotCheck check position s).free = s.free ∧
    (slotCheck check position s).ltc = s.ltc ∧ (slotCheck check position s).thu = s.thu ∧
    (slotCheck check position s).retained.position = s.retained.position ∧
    (slotCheck check position s).retained.map = s.retained.map ∧
    (slotCheck check position s).retained.lampA = s.retained.lampA ∧
    (slotCheck check position s).retained.lampB = s.retained.lampB ∧
    (slotCheck check position s).retained.cues = s.retained.cues ∧
    (slotCheck check position s).retained.response = s.retained.response ∧
    (slotCheck check position s).retained.keymap = s.retained.keymap ∧
    (slotCheck check position s).retained.params = s.retained.params ∧
    (slotCheck check position s).tgc.present = s.tgc.present ∧ (slotCheck check position s).tgc.phase = s.tgc.phase ∧
    (slotCheck check position s).tgc.gateLoad = s.tgc.gateLoad ∧
    (slotCheck check position s).tgc.blank = s.tgc.blank ∧ (slotCheck check position s).tgc.lift = s.tgc.lift ∧
    (slotCheck check position s).tgc.motor = s.tgc.motor ∧ (slotCheck check position s).tgc.timer = s.tgc.timer ∧
    (slotCheck check position s).fe.level = s.fe.level ∧ (slotCheck check position s).fe.timer = s.fe.timer ∧
    (slotCheck check position s).fe.pendingResponse = s.fe.pendingResponse ∧
    (slotCheck check position s).fe.applied = s.fe.applied ∧ (slotCheck check position s).fe.dimmer = s.fe.dimmer ∧
    (slotCheck check position s).shc.pointer = s.shc.pointer ∧
    (slotCheck check position s).shc.startSlot = s.shc.startSlot := by
  unfold slotCheck; dsimp only; repeat' split
  all_goals first | rfl | simp

@[simp] theorem itemCheck_frame (check : Option SlotCheck) (position : Position) (s : State) :
    (itemCheck check position s).pending = s.pending ∧ (itemCheck check position s).pins = s.pins ∧
    (itemCheck check position s).power = s.power ∧ (itemCheck check position s).free = s.free ∧
    (itemCheck check position s).ltc = s.ltc ∧ (itemCheck check position s).thu = s.thu ∧
    (itemCheck check position s).retained.position = s.retained.position ∧
    (itemCheck check position s).retained.map = s.retained.map ∧
    (itemCheck check position s).retained.lampA = s.retained.lampA ∧
    (itemCheck check position s).retained.lampB = s.retained.lampB ∧
    (itemCheck check position s).retained.cues = s.retained.cues ∧
    (itemCheck check position s).retained.response = s.retained.response ∧
    (itemCheck check position s).retained.keymap = s.retained.keymap ∧
    (itemCheck check position s).retained.params = s.retained.params ∧
    (itemCheck check position s).tgc.present = s.tgc.present ∧ (itemCheck check position s).tgc.phase = s.tgc.phase ∧
    (itemCheck check position s).tgc.gateLoad = s.tgc.gateLoad ∧
    (itemCheck check position s).tgc.blank = s.tgc.blank ∧ (itemCheck check position s).tgc.lift = s.tgc.lift ∧
    (itemCheck check position s).tgc.motor = s.tgc.motor ∧ (itemCheck check position s).tgc.timer = s.tgc.timer ∧
    (itemCheck check position s).fe.level = s.fe.level ∧ (itemCheck check position s).fe.timer = s.fe.timer ∧
    (itemCheck check position s).fe.pendingResponse = s.fe.pendingResponse ∧
    (itemCheck check position s).fe.applied = s.fe.applied ∧ (itemCheck check position s).fe.dimmer = s.fe.dimmer ∧
    (itemCheck check position s).shc.pointer = s.shc.pointer ∧
    (itemCheck check position s).shc.startSlot = s.shc.startSlot := by
  simp only [itemCheck]; repeat' split
  all_goals first | rfl | simp

@[simp] theorem startCut_frame (outMs inMs : Nat) (move : Move) (tag : Option Nat) (check : Option SlotCheck) (s : State) :
    (startCut outMs inMs move tag check s).pending = s.pending ∧
    (startCut outMs inMs move tag check s).pins = s.pins ∧ (startCut outMs inMs move tag check s).power = s.power ∧
    (startCut outMs inMs move tag check s).free = s.free ∧ (startCut outMs inMs move tag check s).mq = s.mq ∧
    (startCut outMs inMs move tag check s).tgc = s.tgc ∧ (startCut outMs inMs move tag check s).ltc = s.ltc ∧
    (startCut outMs inMs move tag check s).thu = s.thu ∧ (startCut outMs inMs move tag check s).cdec = s.cdec ∧
    (startCut outMs inMs move tag check s).tac = s.tac ∧ (startCut outMs inMs move tag check s).rrx = s.rrx ∧
    (startCut outMs inMs move tag check s).retained.position = s.retained.position ∧
    (startCut outMs inMs move tag check s).retained.map = s.retained.map ∧
    (startCut outMs inMs move tag check s).retained.lampA = s.retained.lampA ∧
    (startCut outMs inMs move tag check s).retained.lampB = s.retained.lampB ∧
    (startCut outMs inMs move tag check s).retained.cues = s.retained.cues ∧
    (startCut outMs inMs move tag check s).retained.response = s.retained.response ∧
    (startCut outMs inMs move tag check s).retained.keymap = s.retained.keymap ∧
    (startCut outMs inMs move tag check s).retained.params = s.retained.params ∧
    (startCut outMs inMs move tag check s).flt.faultOn = s.flt.faultOn ∧
    (startCut outMs inMs move tag check s).flt.eventOn = s.flt.eventOn ∧
    (startCut outMs inMs move tag check s).flt.switchOn = s.flt.switchOn ∧
    (startCut outMs inMs move tag check s).flt.seconds = s.flt.seconds ∧
    (startCut outMs inMs move tag check s).flt.timer = s.flt.timer ∧
    (startCut outMs inMs move tag check s).flt.first = s.flt.first ∧
    (startCut outMs inMs move tag check s).flt.opener = s.flt.opener ∧
    (startCut outMs inMs move tag check s).flt.causes = s.flt.causes ∧
    (startCut outMs inMs move tag check s).fe.level = s.fe.level ∧
    (startCut outMs inMs move tag check s).fe.timer = s.fe.timer ∧
    (startCut outMs inMs move tag check s).fe.pendingResponse = s.fe.pendingResponse ∧
    (startCut outMs inMs move tag check s).fe.applied = s.fe.applied ∧
    (startCut outMs inMs move tag check s).fe.dimmer = s.fe.dimmer ∧
    (startCut outMs inMs move tag check s).shc.state = s.shc.state ∧
    (startCut outMs inMs move tag check s).shc.pointer = s.shc.pointer ∧
    (startCut outMs inMs move tag check s).shc.startSlot = s.shc.startSlot := by
  simp [startCut]

@[simp] theorem volumeOrder_frame (volume ramp : Nat) (s : State) :
    (volumeOrder volume ramp s).pending = s.pending ∧ (volumeOrder volume ramp s).pins = s.pins ∧
    (volumeOrder volume ramp s).power = s.power ∧ (volumeOrder volume ramp s).free = s.free ∧
    (volumeOrder volume ramp s).mq = s.mq ∧ (volumeOrder volume ramp s).tgc = s.tgc ∧
    (volumeOrder volume ramp s).ltc = s.ltc ∧ (volumeOrder volume ramp s).thu = s.thu ∧
    (volumeOrder volume ramp s).cdec = s.cdec ∧ (volumeOrder volume ramp s).shc = s.shc ∧
    (volumeOrder volume ramp s).rrx = s.rrx ∧ (volumeOrder volume ramp s).fe = s.fe ∧
    (volumeOrder volume ramp s).retained = s.retained ∧ (volumeOrder volume ramp s).link = s.link ∧
    (volumeOrder volume ramp s).flt = s.flt := by
  simp [volumeOrder]

@[simp] theorem pauseAction_frame (hold : Nat) (s : State) :
    (pauseAction hold s).pending = s.pending ∧ (pauseAction hold s).pins = s.pins ∧
    (pauseAction hold s).power = s.power ∧ (pauseAction hold s).free = s.free ∧ (pauseAction hold s).mq = s.mq ∧
    (pauseAction hold s).tgc = s.tgc ∧ (pauseAction hold s).ltc = s.ltc ∧ (pauseAction hold s).thu = s.thu ∧
    (pauseAction hold s).rrx = s.rrx ∧ (pauseAction hold s).fe = s.fe ∧ (pauseAction hold s).retained = s.retained ∧
    (pauseAction hold s).flt.faultOn = s.flt.faultOn ∧ (pauseAction hold s).flt.eventOn = s.flt.eventOn ∧
    (pauseAction hold s).flt.switchOn = s.flt.switchOn ∧ (pauseAction hold s).flt.seconds = s.flt.seconds ∧
    (pauseAction hold s).flt.timer = s.flt.timer ∧ (pauseAction hold s).flt.first = s.flt.first ∧
    (pauseAction hold s).flt.opener = s.flt.opener ∧ (pauseAction hold s).flt.causes = s.flt.causes ∧
    (pauseAction hold s).shc.pointer = s.shc.pointer ∧ (pauseAction hold s).shc.startSlot = s.shc.startSlot := by
  unfold pauseAction; dsimp only; repeat' split
  all_goals first | rfl | simp

@[simp] theorem issueAction_frame (cue : Nat) (check : Option SlotCheck) (a : CueAction) (s : State) :
    (issueAction cue check a s).pending = s.pending ∧ (issueAction cue check a s).pins = s.pins ∧
    (issueAction cue check a s).power = s.power ∧ (issueAction cue check a s).free = s.free ∧
    (issueAction cue check a s).ltc = s.ltc ∧ (issueAction cue check a s).thu = s.thu ∧
    (issueAction cue check a s).retained.position = s.retained.position ∧
    (issueAction cue check a s).retained.map = s.retained.map ∧
    (issueAction cue check a s).retained.lampA = s.retained.lampA ∧
    (issueAction cue check a s).retained.lampB = s.retained.lampB ∧
    (issueAction cue check a s).retained.cues = s.retained.cues ∧
    (issueAction cue check a s).retained.response = s.retained.response ∧
    (issueAction cue check a s).retained.keymap = s.retained.keymap ∧
    (issueAction cue check a s).retained.params = s.retained.params ∧
    (issueAction cue check a s).tgc.present = s.tgc.present ∧ (issueAction cue check a s).tgc.phase = s.tgc.phase ∧
    (issueAction cue check a s).tgc.gateLoad = s.tgc.gateLoad ∧ (issueAction cue check a s).tgc.blank = s.tgc.blank ∧
    (issueAction cue check a s).tgc.lift = s.tgc.lift ∧ (issueAction cue check a s).tgc.motor = s.tgc.motor ∧
    (issueAction cue check a s).tgc.timer = s.tgc.timer ∧ (issueAction cue check a s).fe.level = s.fe.level ∧
    (issueAction cue check a s).fe.timer = s.fe.timer ∧
    (issueAction cue check a s).fe.pendingResponse = s.fe.pendingResponse ∧
    (issueAction cue check a s).fe.applied = s.fe.applied ∧ (issueAction cue check a s).fe.dimmer = s.fe.dimmer ∧
    (issueAction cue check a s).shc.pointer = s.shc.pointer ∧
    (issueAction cue check a s).shc.startSlot = s.shc.startSlot := by
  simp only [issueAction]; repeat' split
  all_goals first | rfl | simp

@[simp] theorem issueActions_frame (cue : Nat) (cutCheck changeCheck : Option SlotCheck) (l : List CueAction) (s : State) :
    (issueActions cue cutCheck changeCheck l s).pending = s.pending ∧
    (issueActions cue cutCheck changeCheck l s).pins = s.pins ∧
    (issueActions cue cutCheck changeCheck l s).power = s.power ∧
    (issueActions cue cutCheck changeCheck l s).free = s.free ∧
    (issueActions cue cutCheck changeCheck l s).ltc = s.ltc ∧
    (issueActions cue cutCheck changeCheck l s).thu = s.thu ∧
    (issueActions cue cutCheck changeCheck l s).retained.position = s.retained.position ∧
    (issueActions cue cutCheck changeCheck l s).retained.map = s.retained.map ∧
    (issueActions cue cutCheck changeCheck l s).retained.lampA = s.retained.lampA ∧
    (issueActions cue cutCheck changeCheck l s).retained.lampB = s.retained.lampB ∧
    (issueActions cue cutCheck changeCheck l s).retained.cues = s.retained.cues ∧
    (issueActions cue cutCheck changeCheck l s).retained.response = s.retained.response ∧
    (issueActions cue cutCheck changeCheck l s).retained.keymap = s.retained.keymap ∧
    (issueActions cue cutCheck changeCheck l s).retained.params = s.retained.params ∧
    (issueActions cue cutCheck changeCheck l s).tgc.present = s.tgc.present ∧
    (issueActions cue cutCheck changeCheck l s).tgc.phase = s.tgc.phase ∧
    (issueActions cue cutCheck changeCheck l s).tgc.gateLoad = s.tgc.gateLoad ∧
    (issueActions cue cutCheck changeCheck l s).tgc.blank = s.tgc.blank ∧
    (issueActions cue cutCheck changeCheck l s).tgc.lift = s.tgc.lift ∧
    (issueActions cue cutCheck changeCheck l s).tgc.motor = s.tgc.motor ∧
    (issueActions cue cutCheck changeCheck l s).tgc.timer = s.tgc.timer ∧
    (issueActions cue cutCheck changeCheck l s).fe.level = s.fe.level ∧
    (issueActions cue cutCheck changeCheck l s).fe.timer = s.fe.timer ∧
    (issueActions cue cutCheck changeCheck l s).fe.pendingResponse = s.fe.pendingResponse ∧
    (issueActions cue cutCheck changeCheck l s).fe.applied = s.fe.applied ∧
    (issueActions cue cutCheck changeCheck l s).fe.dimmer = s.fe.dimmer ∧
    (issueActions cue cutCheck changeCheck l s).shc.pointer = s.shc.pointer ∧
    (issueActions cue cutCheck changeCheck l s).shc.startSlot = s.shc.startSlot := by
  induction l generalizing s with
  | nil => simp [issueActions]
  | cons a rest ih => simp [issueActions, ih]

@[simp] theorem executeEntry_frame (e : CueEntry) (index : Nat) (relation : Relation) (fromPending : Bool) (s : State) :
    (executeEntry e index relation fromPending s).pending = s.pending ∧
    (executeEntry e index relation fromPending s).pins = s.pins ∧
    (executeEntry e index relation fromPending s).power = s.power ∧
    (executeEntry e index relation fromPending s).free = s.free ∧
    (executeEntry e index relation fromPending s).ltc = s.ltc ∧
    (executeEntry e index relation fromPending s).thu = s.thu ∧
    (executeEntry e index relation fromPending s).retained.position = s.retained.position ∧
    (executeEntry e index relation fromPending s).retained.map = s.retained.map ∧
    (executeEntry e index relation fromPending s).retained.lampA = s.retained.lampA ∧
    (executeEntry e index relation fromPending s).retained.lampB = s.retained.lampB ∧
    (executeEntry e index relation fromPending s).retained.cues = s.retained.cues ∧
    (executeEntry e index relation fromPending s).retained.response = s.retained.response ∧
    (executeEntry e index relation fromPending s).retained.keymap = s.retained.keymap ∧
    (executeEntry e index relation fromPending s).retained.params = s.retained.params ∧
    (executeEntry e index relation fromPending s).tgc.present = s.tgc.present ∧
    (executeEntry e index relation fromPending s).tgc.phase = s.tgc.phase ∧
    (executeEntry e index relation fromPending s).tgc.gateLoad = s.tgc.gateLoad ∧
    (executeEntry e index relation fromPending s).tgc.blank = s.tgc.blank ∧
    (executeEntry e index relation fromPending s).tgc.lift = s.tgc.lift ∧
    (executeEntry e index relation fromPending s).tgc.motor = s.tgc.motor ∧
    (executeEntry e index relation fromPending s).tgc.timer = s.tgc.timer ∧
    (executeEntry e index relation fromPending s).fe.level = s.fe.level ∧
    (executeEntry e index relation fromPending s).fe.timer = s.fe.timer ∧
    (executeEntry e index relation fromPending s).fe.pendingResponse = s.fe.pendingResponse ∧
    (executeEntry e index relation fromPending s).fe.applied = s.fe.applied ∧
    (executeEntry e index relation fromPending s).fe.dimmer = s.fe.dimmer ∧
    (executeEntry e index relation fromPending s).shc.pointer = s.shc.pointer ∧
    (executeEntry e index relation fromPending s).shc.startSlot = s.shc.startSlot := by
  unfold executeEntry; dsimp only; repeat' split
  all_goals first | rfl | simp

@[simp] theorem handleCoded_frame (number : Nat) (fromPending : Bool) (s : State) :
    (handleCoded number fromPending s).pending = s.pending ∧ (handleCoded number fromPending s).pins = s.pins ∧
    (handleCoded number fromPending s).power = s.power ∧ (handleCoded number fromPending s).free = s.free ∧
    (handleCoded number fromPending s).ltc = s.ltc ∧ (handleCoded number fromPending s).thu = s.thu ∧
    (handleCoded number fromPending s).retained.position = s.retained.position ∧
    (handleCoded number fromPending s).retained.map = s.retained.map ∧
    (handleCoded number fromPending s).retained.lampA = s.retained.lampA ∧
    (handleCoded number fromPending s).retained.lampB = s.retained.lampB ∧
    (handleCoded number fromPending s).retained.cues = s.retained.cues ∧
    (handleCoded number fromPending s).retained.response = s.retained.response ∧
    (handleCoded number fromPending s).retained.keymap = s.retained.keymap ∧
    (handleCoded number fromPending s).retained.params = s.retained.params ∧
    (handleCoded number fromPending s).tgc.present = s.tgc.present ∧
    (handleCoded number fromPending s).tgc.phase = s.tgc.phase ∧
    (handleCoded number fromPending s).tgc.gateLoad = s.tgc.gateLoad ∧
    (handleCoded number fromPending s).tgc.blank = s.tgc.blank ∧
    (handleCoded number fromPending s).tgc.lift = s.tgc.lift ∧
    (handleCoded number fromPending s).tgc.motor = s.tgc.motor ∧
    (handleCoded number fromPending s).tgc.timer = s.tgc.timer ∧
    (handleCoded number fromPending s).fe.level = s.fe.level ∧
    (handleCoded number fromPending s).fe.timer = s.fe.timer ∧
    (handleCoded number fromPending s).fe.pendingResponse = s.fe.pendingResponse ∧
    (handleCoded number fromPending s).fe.applied = s.fe.applied ∧
    (handleCoded number fromPending s).fe.dimmer = s.fe.dimmer ∧
    (handleCoded number fromPending s).shc.startSlot = s.shc.startSlot := by
  unfold handleCoded; dsimp only; repeat' split
  all_goals first | rfl | simp

@[simp] theorem handleStep_frame (fromPending : Bool) (s : State) :
    (handleStep fromPending s).pending = s.pending ∧ (handleStep fromPending s).pins = s.pins ∧
    (handleStep fromPending s).power = s.power ∧ (handleStep fromPending s).free = s.free ∧
    (handleStep fromPending s).ltc = s.ltc ∧ (handleStep fromPending s).thu = s.thu ∧
    (handleStep fromPending s).retained.position = s.retained.position ∧
    (handleStep fromPending s).retained.map = s.retained.map ∧
    (handleStep fromPending s).retained.lampA = s.retained.lampA ∧
    (handleStep fromPending s).retained.lampB = s.retained.lampB ∧
    (handleStep fromPending s).retained.cues = s.retained.cues ∧
    (handleStep fromPending s).retained.response = s.retained.response ∧
    (handleStep fromPending s).retained.keymap = s.retained.keymap ∧
    (handleStep fromPending s).retained.params = s.retained.params ∧
    (handleStep fromPending s).tgc.present = s.tgc.present ∧ (handleStep fromPending s).tgc.phase = s.tgc.phase ∧
    (handleStep fromPending s).tgc.gateLoad = s.tgc.gateLoad ∧ (handleStep fromPending s).tgc.blank = s.tgc.blank ∧
    (handleStep fromPending s).tgc.lift = s.tgc.lift ∧ (handleStep fromPending s).tgc.motor = s.tgc.motor ∧
    (handleStep fromPending s).tgc.timer = s.tgc.timer ∧ (handleStep fromPending s).fe.level = s.fe.level ∧
    (handleStep fromPending s).fe.timer = s.fe.timer ∧
    (handleStep fromPending s).fe.pendingResponse = s.fe.pendingResponse ∧
    (handleStep fromPending s).fe.applied = s.fe.applied ∧ (handleStep fromPending s).fe.dimmer = s.fe.dimmer ∧
    (handleStep fromPending s).shc.pointer = s.shc.pointer ∧
    (handleStep fromPending s).shc.startSlot = s.shc.startSlot := by
  unfold handleStep; dsimp only; split <;> simp

@[simp] theorem finishPart_frame (part : Part) (ending : PartState) (s : State) :
    (finishPart part ending s).pending = s.pending ∧ (finishPart part ending s).pins = s.pins ∧
    (finishPart part ending s).power = s.power ∧ (finishPart part ending s).free = s.free ∧
    (finishPart part ending s).mq = s.mq ∧ (finishPart part ending s).tgc = s.tgc ∧
    (finishPart part ending s).ltc = s.ltc ∧ (finishPart part ending s).thu = s.thu ∧
    (finishPart part ending s).cdec = s.cdec ∧ (finishPart part ending s).tac = s.tac ∧
    (finishPart part ending s).rrx = s.rrx ∧ (finishPart part ending s).fe = s.fe ∧
    (finishPart part ending s).retained = s.retained ∧ (finishPart part ending s).link = s.link ∧
    (finishPart part ending s).flt = s.flt ∧ (finishPart part ending s).shc.state = s.shc.state ∧
    (finishPart part ending s).shc.pointer = s.shc.pointer ∧
    (finishPart part ending s).shc.startSlot = s.shc.startSlot := by
  simp [finishPart]

@[simp] theorem showRewind_frame (s : State) :
    (showRewind s).pending = s.pending ∧ (showRewind s).pins = s.pins ∧ (showRewind s).power = s.power ∧
    (showRewind s).free = s.free ∧ (showRewind s).ltc = s.ltc ∧ (showRewind s).thu = s.thu ∧
    (showRewind s).rrx = s.rrx ∧ (showRewind s).retained.position = s.retained.position ∧
    (showRewind s).retained.map = s.retained.map ∧ (showRewind s).retained.lampA = s.retained.lampA ∧
    (showRewind s).retained.lampB = s.retained.lampB ∧ (showRewind s).retained.cues = s.retained.cues ∧
    (showRewind s).retained.response = s.retained.response ∧ (showRewind s).retained.keymap = s.retained.keymap ∧
    (showRewind s).retained.params = s.retained.params ∧ (showRewind s).tgc.present = s.tgc.present ∧
    (showRewind s).tgc.phase = s.tgc.phase ∧ (showRewind s).tgc.gateLoad = s.tgc.gateLoad ∧
    (showRewind s).tgc.blank = s.tgc.blank ∧ (showRewind s).tgc.lift = s.tgc.lift ∧
    (showRewind s).tgc.motor = s.tgc.motor ∧ (showRewind s).tgc.timer = s.tgc.timer ∧
    (showRewind s).fe.level = s.fe.level ∧ (showRewind s).fe.timer = s.fe.timer ∧
    (showRewind s).fe.pendingResponse = s.fe.pendingResponse ∧ (showRewind s).fe.applied = s.fe.applied ∧
    (showRewind s).fe.dimmer = s.fe.dimmer ∧ (showRewind s).shc.pointer = s.shc.pointer ∧
    (showRewind s).shc.startSlot = s.shc.startSlot := by
  unfold showRewind; dsimp only; split <;> simp

@[simp] theorem enterLooping_frame (s : State) :
    (enterLooping s).pending = s.pending ∧ (enterLooping s).pins = s.pins ∧ (enterLooping s).power = s.power ∧
    (enterLooping s).free = s.free ∧ (enterLooping s).ltc = s.ltc ∧ (enterLooping s).thu = s.thu ∧
    (enterLooping s).rrx = s.rrx ∧ (enterLooping s).retained.position = s.retained.position ∧
    (enterLooping s).retained.map = s.retained.map ∧ (enterLooping s).retained.lampA = s.retained.lampA ∧
    (enterLooping s).retained.lampB = s.retained.lampB ∧ (enterLooping s).retained.cues = s.retained.cues ∧
    (enterLooping s).retained.response = s.retained.response ∧ (enterLooping s).retained.keymap = s.retained.keymap ∧
    (enterLooping s).retained.params = s.retained.params ∧ (enterLooping s).tgc.present = s.tgc.present ∧
    (enterLooping s).tgc.phase = s.tgc.phase ∧ (enterLooping s).tgc.gateLoad = s.tgc.gateLoad ∧
    (enterLooping s).tgc.blank = s.tgc.blank ∧ (enterLooping s).tgc.lift = s.tgc.lift ∧
    (enterLooping s).tgc.motor = s.tgc.motor ∧ (enterLooping s).tgc.timer = s.tgc.timer ∧
    (enterLooping s).fe.level = s.fe.level ∧ (enterLooping s).fe.timer = s.fe.timer ∧
    (enterLooping s).fe.pendingResponse = s.fe.pendingResponse ∧ (enterLooping s).fe.applied = s.fe.applied ∧
    (enterLooping s).fe.dimmer = s.fe.dimmer ∧ (enterLooping s).shc.pointer = s.shc.pointer ∧
    (enterLooping s).shc.startSlot = s.shc.startSlot := by
  simp [enterLooping]

@[simp] theorem endHandling_frame (s : State) :
    (endHandling s).pending = s.pending ∧ (endHandling s).pins = s.pins ∧ (endHandling s).power = s.power ∧
    (endHandling s).free = s.free ∧ (endHandling s).ltc = s.ltc ∧ (endHandling s).thu = s.thu ∧
    (endHandling s).rrx = s.rrx ∧ (endHandling s).retained.position = s.retained.position ∧
    (endHandling s).retained.map = s.retained.map ∧ (endHandling s).retained.lampA = s.retained.lampA ∧
    (endHandling s).retained.lampB = s.retained.lampB ∧ (endHandling s).retained.cues = s.retained.cues ∧
    (endHandling s).retained.response = s.retained.response ∧ (endHandling s).retained.keymap = s.retained.keymap ∧
    (endHandling s).retained.params = s.retained.params ∧ (endHandling s).tgc.present = s.tgc.present ∧
    (endHandling s).tgc.phase = s.tgc.phase ∧ (endHandling s).tgc.gateLoad = s.tgc.gateLoad ∧
    (endHandling s).tgc.blank = s.tgc.blank ∧ (endHandling s).tgc.lift = s.tgc.lift ∧
    (endHandling s).tgc.motor = s.tgc.motor ∧ (endHandling s).tgc.timer = s.tgc.timer ∧
    (endHandling s).fe.level = s.fe.level ∧ (endHandling s).fe.timer = s.fe.timer ∧
    (endHandling s).fe.pendingResponse = s.fe.pendingResponse ∧ (endHandling s).fe.applied = s.fe.applied ∧
    (endHandling s).fe.dimmer = s.fe.dimmer ∧ (endHandling s).shc.pointer = s.shc.pointer ∧
    (endHandling s).shc.startSlot = s.shc.startSlot := by
  unfold endHandling; dsimp only; split <;> simp

@[simp] theorem tapeEnded_frame (s : State) :
    (tapeEnded s).pending = s.pending ∧ (tapeEnded s).pins = s.pins ∧ (tapeEnded s).power = s.power ∧
    (tapeEnded s).free = s.free ∧ (tapeEnded s).ltc = s.ltc ∧ (tapeEnded s).thu = s.thu ∧ (tapeEnded s).rrx = s.rrx ∧
    (tapeEnded s).retained.position = s.retained.position ∧ (tapeEnded s).retained.map = s.retained.map ∧
    (tapeEnded s).retained.lampA = s.retained.lampA ∧ (tapeEnded s).retained.lampB = s.retained.lampB ∧
    (tapeEnded s).retained.cues = s.retained.cues ∧ (tapeEnded s).retained.response = s.retained.response ∧
    (tapeEnded s).retained.keymap = s.retained.keymap ∧ (tapeEnded s).retained.params = s.retained.params ∧
    (tapeEnded s).tgc.present = s.tgc.present ∧ (tapeEnded s).tgc.phase = s.tgc.phase ∧
    (tapeEnded s).tgc.gateLoad = s.tgc.gateLoad ∧ (tapeEnded s).tgc.blank = s.tgc.blank ∧
    (tapeEnded s).tgc.lift = s.tgc.lift ∧ (tapeEnded s).tgc.motor = s.tgc.motor ∧
    (tapeEnded s).tgc.timer = s.tgc.timer ∧ (tapeEnded s).fe.level = s.fe.level ∧
    (tapeEnded s).fe.timer = s.fe.timer ∧ (tapeEnded s).fe.pendingResponse = s.fe.pendingResponse ∧
    (tapeEnded s).fe.applied = s.fe.applied ∧ (tapeEnded s).fe.dimmer = s.fe.dimmer ∧
    (tapeEnded s).shc.pointer = s.shc.pointer ∧ (tapeEnded s).shc.startSlot = s.shc.startSlot := by
  simp only [tapeEnded]; repeat' split
  all_goals first | rfl | simp

@[simp] theorem handleArrival_frame (a : Arrival) (fromPending : Bool) (s : State) :
    (handleArrival a fromPending s).pending = s.pending ∧ (handleArrival a fromPending s).pins = s.pins ∧
    (handleArrival a fromPending s).power = s.power ∧ (handleArrival a fromPending s).free = s.free ∧
    (handleArrival a fromPending s).ltc = s.ltc ∧ (handleArrival a fromPending s).thu = s.thu ∧
    (handleArrival a fromPending s).retained.position = s.retained.position ∧
    (handleArrival a fromPending s).retained.map = s.retained.map ∧
    (handleArrival a fromPending s).retained.lampA = s.retained.lampA ∧
    (handleArrival a fromPending s).retained.lampB = s.retained.lampB ∧
    (handleArrival a fromPending s).retained.cues = s.retained.cues ∧
    (handleArrival a fromPending s).retained.response = s.retained.response ∧
    (handleArrival a fromPending s).retained.keymap = s.retained.keymap ∧
    (handleArrival a fromPending s).retained.params = s.retained.params ∧
    (handleArrival a fromPending s).tgc.present = s.tgc.present ∧
    (handleArrival a fromPending s).tgc.phase = s.tgc.phase ∧
    (handleArrival a fromPending s).tgc.gateLoad = s.tgc.gateLoad ∧
    (handleArrival a fromPending s).tgc.blank = s.tgc.blank ∧ (handleArrival a fromPending s).tgc.lift = s.tgc.lift ∧
    (handleArrival a fromPending s).tgc.motor = s.tgc.motor ∧
    (handleArrival a fromPending s).tgc.timer = s.tgc.timer ∧ (handleArrival a fromPending s).fe.level = s.fe.level ∧
    (handleArrival a fromPending s).fe.timer = s.fe.timer ∧
    (handleArrival a fromPending s).fe.pendingResponse = s.fe.pendingResponse ∧
    (handleArrival a fromPending s).fe.applied = s.fe.applied ∧
    (handleArrival a fromPending s).fe.dimmer = s.fe.dimmer ∧
    (handleArrival a fromPending s).shc.startSlot = s.shc.startSlot := by
  simp only [handleArrival]; repeat' split
  all_goals first | rfl | simp

@[simp] theorem takePending_frame (n : Nat) (s : State) :
    (takePending n s).pending = s.pending ∧ (takePending n s).pins = s.pins ∧ (takePending n s).power = s.power ∧
    (takePending n s).free = s.free ∧ (takePending n s).ltc = s.ltc ∧ (takePending n s).thu = s.thu ∧
    (takePending n s).retained.position = s.retained.position ∧ (takePending n s).retained.map = s.retained.map ∧
    (takePending n s).retained.lampA = s.retained.lampA ∧ (takePending n s).retained.lampB = s.retained.lampB ∧
    (takePending n s).retained.cues = s.retained.cues ∧ (takePending n s).retained.response = s.retained.response ∧
    (takePending n s).retained.keymap = s.retained.keymap ∧ (takePending n s).retained.params = s.retained.params ∧
    (takePending n s).tgc.present = s.tgc.present ∧ (takePending n s).tgc.phase = s.tgc.phase ∧
    (takePending n s).tgc.gateLoad = s.tgc.gateLoad ∧ (takePending n s).tgc.blank = s.tgc.blank ∧
    (takePending n s).tgc.lift = s.tgc.lift ∧ (takePending n s).tgc.motor = s.tgc.motor ∧
    (takePending n s).tgc.timer = s.tgc.timer ∧ (takePending n s).fe.level = s.fe.level ∧
    (takePending n s).fe.timer = s.fe.timer ∧ (takePending n s).fe.pendingResponse = s.fe.pendingResponse ∧
    (takePending n s).fe.applied = s.fe.applied ∧ (takePending n s).fe.dimmer = s.fe.dimmer ∧
    (takePending n s).shc.startSlot = s.shc.startSlot := by
  induction n generalizing s with
  | zero => simp [takePending]
  | succ n ih => unfold takePending; (repeat' split) <;> simp [ih]

@[simp] theorem drainCues_frame (s : State) :
    (drainCues s).pending = s.pending ∧ (drainCues s).pins = s.pins ∧ (drainCues s).power = s.power ∧
    (drainCues s).free = s.free ∧ (drainCues s).ltc = s.ltc ∧ (drainCues s).thu = s.thu ∧
    (drainCues s).retained.position = s.retained.position ∧ (drainCues s).retained.map = s.retained.map ∧
    (drainCues s).retained.lampA = s.retained.lampA ∧ (drainCues s).retained.lampB = s.retained.lampB ∧
    (drainCues s).retained.cues = s.retained.cues ∧ (drainCues s).retained.response = s.retained.response ∧
    (drainCues s).retained.keymap = s.retained.keymap ∧ (drainCues s).retained.params = s.retained.params ∧
    (drainCues s).tgc.present = s.tgc.present ∧ (drainCues s).tgc.phase = s.tgc.phase ∧
    (drainCues s).tgc.gateLoad = s.tgc.gateLoad ∧ (drainCues s).tgc.blank = s.tgc.blank ∧
    (drainCues s).tgc.lift = s.tgc.lift ∧ (drainCues s).tgc.motor = s.tgc.motor ∧
    (drainCues s).tgc.timer = s.tgc.timer ∧ (drainCues s).fe.level = s.fe.level ∧
    (drainCues s).fe.timer = s.fe.timer ∧ (drainCues s).fe.pendingResponse = s.fe.pendingResponse ∧
    (drainCues s).fe.applied = s.fe.applied ∧ (drainCues s).fe.dimmer = s.fe.dimmer ∧
    (drainCues s).shc.startSlot = s.shc.startSlot := by
  simp [drainCues]

@[simp] theorem keepArrival_frame (a : Arrival) (s : State) :
    (keepArrival a s).pending = s.pending ∧ (keepArrival a s).pins = s.pins ∧ (keepArrival a s).power = s.power ∧
    (keepArrival a s).free = s.free ∧ (keepArrival a s).ltc = s.ltc ∧ (keepArrival a s).thu = s.thu ∧
    (keepArrival a s).rrx = s.rrx ∧ (keepArrival a s).retained.position = s.retained.position ∧
    (keepArrival a s).retained.map = s.retained.map ∧ (keepArrival a s).retained.lampA = s.retained.lampA ∧
    (keepArrival a s).retained.lampB = s.retained.lampB ∧ (keepArrival a s).retained.cues = s.retained.cues ∧
    (keepArrival a s).retained.response = s.retained.response ∧
    (keepArrival a s).retained.keymap = s.retained.keymap ∧ (keepArrival a s).retained.params = s.retained.params ∧
    (keepArrival a s).tgc.present = s.tgc.present ∧ (keepArrival a s).tgc.phase = s.tgc.phase ∧
    (keepArrival a s).tgc.gateLoad = s.tgc.gateLoad ∧ (keepArrival a s).tgc.blank = s.tgc.blank ∧
    (keepArrival a s).tgc.lift = s.tgc.lift ∧ (keepArrival a s).tgc.motor = s.tgc.motor ∧
    (keepArrival a s).tgc.timer = s.tgc.timer ∧ (keepArrival a s).fe.level = s.fe.level ∧
    (keepArrival a s).fe.timer = s.fe.timer ∧ (keepArrival a s).fe.pendingResponse = s.fe.pendingResponse ∧
    (keepArrival a s).fe.applied = s.fe.applied ∧ (keepArrival a s).fe.dimmer = s.fe.dimmer ∧
    (keepArrival a s).shc.pointer = s.shc.pointer ∧ (keepArrival a s).shc.startSlot = s.shc.startSlot := by
  unfold keepArrival; dsimp only; split <;> simp

@[simp] theorem routeArrival_frame (a : Arrival) (s : State) :
    (routeArrival a s).pending = s.pending ∧ (routeArrival a s).pins = s.pins ∧ (routeArrival a s).power = s.power ∧
    (routeArrival a s).free = s.free ∧ (routeArrival a s).ltc = s.ltc ∧ (routeArrival a s).thu = s.thu ∧
    (routeArrival a s).retained.position = s.retained.position ∧ (routeArrival a s).retained.map = s.retained.map ∧
    (routeArrival a s).retained.lampA = s.retained.lampA ∧ (routeArrival a s).retained.lampB = s.retained.lampB ∧
    (routeArrival a s).retained.cues = s.retained.cues ∧ (routeArrival a s).retained.response = s.retained.response ∧
    (routeArrival a s).retained.keymap = s.retained.keymap ∧ (routeArrival a s).retained.params = s.retained.params ∧
    (routeArrival a s).tgc.present = s.tgc.present ∧ (routeArrival a s).tgc.phase = s.tgc.phase ∧
    (routeArrival a s).tgc.gateLoad = s.tgc.gateLoad ∧ (routeArrival a s).tgc.blank = s.tgc.blank ∧
    (routeArrival a s).tgc.lift = s.tgc.lift ∧ (routeArrival a s).tgc.motor = s.tgc.motor ∧
    (routeArrival a s).tgc.timer = s.tgc.timer ∧ (routeArrival a s).fe.level = s.fe.level ∧
    (routeArrival a s).fe.timer = s.fe.timer ∧ (routeArrival a s).fe.pendingResponse = s.fe.pendingResponse ∧
    (routeArrival a s).fe.applied = s.fe.applied ∧ (routeArrival a s).fe.dimmer = s.fe.dimmer ∧
    (routeArrival a s).shc.startSlot = s.shc.startSlot := by
  simp only [routeArrival]; repeat' split
  all_goals first | rfl | simp

@[simp] theorem goRunning_frame (reason : ShowReason) (s : State) :
    (goRunning reason s).pending = s.pending ∧ (goRunning reason s).pins = s.pins ∧
    (goRunning reason s).power = s.power ∧ (goRunning reason s).free = s.free ∧ (goRunning reason s).ltc = s.ltc ∧
    (goRunning reason s).thu = s.thu ∧ (goRunning reason s).retained.position = s.retained.position ∧
    (goRunning reason s).retained.map = s.retained.map ∧ (goRunning reason s).retained.lampA = s.retained.lampA ∧
    (goRunning reason s).retained.lampB = s.retained.lampB ∧ (goRunning reason s).retained.cues = s.retained.cues ∧
    (goRunning reason s).retained.response = s.retained.response ∧
    (goRunning reason s).retained.keymap = s.retained.keymap ∧
    (goRunning reason s).retained.params = s.retained.params ∧ (goRunning reason s).tgc.present = s.tgc.present ∧
    (goRunning reason s).tgc.phase = s.tgc.phase ∧ (goRunning reason s).tgc.gateLoad = s.tgc.gateLoad ∧
    (goRunning reason s).tgc.blank = s.tgc.blank ∧ (goRunning reason s).tgc.lift = s.tgc.lift ∧
    (goRunning reason s).tgc.motor = s.tgc.motor ∧ (goRunning reason s).tgc.timer = s.tgc.timer ∧
    (goRunning reason s).fe.level = s.fe.level ∧ (goRunning reason s).fe.timer = s.fe.timer ∧
    (goRunning reason s).fe.pendingResponse = s.fe.pendingResponse ∧ (goRunning reason s).fe.applied = s.fe.applied ∧
    (goRunning reason s).fe.dimmer = s.fe.dimmer ∧ (goRunning reason s).shc.startSlot = s.shc.startSlot := by
  unfold goRunning; dsimp only; split <;> simp

@[simp] theorem offerStartGoto_frame (purpose : Purpose) (s : State) :
    (offerStartGoto purpose s).pending = s.pending ∧ (offerStartGoto purpose s).pins = s.pins ∧
    (offerStartGoto purpose s).power = s.power ∧ (offerStartGoto purpose s).free = s.free ∧
    (offerStartGoto purpose s).ltc = s.ltc ∧ (offerStartGoto purpose s).thu = s.thu ∧
    (offerStartGoto purpose s).retained.position = s.retained.position ∧
    (offerStartGoto purpose s).retained.map = s.retained.map ∧
    (offerStartGoto purpose s).retained.lampA = s.retained.lampA ∧
    (offerStartGoto purpose s).retained.lampB = s.retained.lampB ∧
    (offerStartGoto purpose s).retained.cues = s.retained.cues ∧
    (offerStartGoto purpose s).retained.response = s.retained.response ∧
    (offerStartGoto purpose s).retained.keymap = s.retained.keymap ∧
    (offerStartGoto purpose s).retained.params = s.retained.params ∧
    (offerStartGoto purpose s).tgc.present = s.tgc.present ∧ (offerStartGoto purpose s).tgc.phase = s.tgc.phase ∧
    (offerStartGoto purpose s).tgc.gateLoad = s.tgc.gateLoad ∧ (offerStartGoto purpose s).tgc.blank = s.tgc.blank ∧
    (offerStartGoto purpose s).tgc.lift = s.tgc.lift ∧ (offerStartGoto purpose s).tgc.motor = s.tgc.motor ∧
    (offerStartGoto purpose s).tgc.timer = s.tgc.timer ∧ (offerStartGoto purpose s).fe.level = s.fe.level ∧
    (offerStartGoto purpose s).fe.timer = s.fe.timer ∧
    (offerStartGoto purpose s).fe.pendingResponse = s.fe.pendingResponse ∧
    (offerStartGoto purpose s).fe.applied = s.fe.applied ∧ (offerStartGoto purpose s).fe.dimmer = s.fe.dimmer ∧
    (offerStartGoto purpose s).shc.pointer = s.shc.pointer ∧
    (offerStartGoto purpose s).shc.startSlot = s.shc.startSlot := by
  unfold offerStartGoto; dsimp only; split <;> simp

@[simp] theorem reissueParts_frame (s : State) :
    (reissueParts s).pending = s.pending ∧ (reissueParts s).pins = s.pins ∧ (reissueParts s).power = s.power ∧
    (reissueParts s).free = s.free ∧ (reissueParts s).ltc = s.ltc ∧ (reissueParts s).thu = s.thu ∧
    (reissueParts s).retained.position = s.retained.position ∧ (reissueParts s).retained.map = s.retained.map ∧
    (reissueParts s).retained.lampA = s.retained.lampA ∧ (reissueParts s).retained.lampB = s.retained.lampB ∧
    (reissueParts s).retained.cues = s.retained.cues ∧ (reissueParts s).retained.response = s.retained.response ∧
    (reissueParts s).retained.keymap = s.retained.keymap ∧ (reissueParts s).retained.params = s.retained.params ∧
    (reissueParts s).tgc.present = s.tgc.present ∧ (reissueParts s).tgc.phase = s.tgc.phase ∧
    (reissueParts s).tgc.gateLoad = s.tgc.gateLoad ∧ (reissueParts s).tgc.blank = s.tgc.blank ∧
    (reissueParts s).tgc.lift = s.tgc.lift ∧ (reissueParts s).tgc.motor = s.tgc.motor ∧
    (reissueParts s).tgc.timer = s.tgc.timer ∧ (reissueParts s).fe.level = s.fe.level ∧
    (reissueParts s).fe.timer = s.fe.timer ∧ (reissueParts s).fe.pendingResponse = s.fe.pendingResponse ∧
    (reissueParts s).fe.applied = s.fe.applied ∧ (reissueParts s).fe.dimmer = s.fe.dimmer ∧
    (reissueParts s).shc.pointer = s.shc.pointer ∧ (reissueParts s).shc.startSlot = s.shc.startSlot := by
  unfold reissueParts; dsimp only; repeat' split
  all_goals first | rfl | simp

@[simp] theorem partsDone_frame (reason : ShowReason) (s : State) :
    (partsDone reason s).pending = s.pending ∧ (partsDone reason s).pins = s.pins ∧
    (partsDone reason s).power = s.power ∧ (partsDone reason s).free = s.free ∧ (partsDone reason s).ltc = s.ltc ∧
    (partsDone reason s).thu = s.thu ∧ (partsDone reason s).retained.position = s.retained.position ∧
    (partsDone reason s).retained.map = s.retained.map ∧ (partsDone reason s).retained.lampA = s.retained.lampA ∧
    (partsDone reason s).retained.lampB = s.retained.lampB ∧ (partsDone reason s).retained.cues = s.retained.cues ∧
    (partsDone reason s).retained.response = s.retained.response ∧
    (partsDone reason s).retained.keymap = s.retained.keymap ∧
    (partsDone reason s).retained.params = s.retained.params ∧ (partsDone reason s).tgc.present = s.tgc.present ∧
    (partsDone reason s).tgc.phase = s.tgc.phase ∧ (partsDone reason s).tgc.gateLoad = s.tgc.gateLoad ∧
    (partsDone reason s).tgc.blank = s.tgc.blank ∧ (partsDone reason s).tgc.lift = s.tgc.lift ∧
    (partsDone reason s).tgc.motor = s.tgc.motor ∧ (partsDone reason s).tgc.timer = s.tgc.timer ∧
    (partsDone reason s).fe.level = s.fe.level ∧ (partsDone reason s).fe.timer = s.fe.timer ∧
    (partsDone reason s).fe.pendingResponse = s.fe.pendingResponse ∧ (partsDone reason s).fe.applied = s.fe.applied ∧
    (partsDone reason s).fe.dimmer = s.fe.dimmer ∧ (partsDone reason s).shc.startSlot = s.shc.startSlot := by
  simp [partsDone]

@[simp] theorem examine_frame (reason : ShowReason) (s : State) :
    (examine reason s).pending = s.pending ∧ (examine reason s).pins = s.pins ∧ (examine reason s).power = s.power ∧
    (examine reason s).free = s.free ∧ (examine reason s).ltc = s.ltc ∧ (examine reason s).thu = s.thu ∧
    (examine reason s).retained.position = s.retained.position ∧ (examine reason s).retained.map = s.retained.map ∧
    (examine reason s).retained.lampA = s.retained.lampA ∧ (examine reason s).retained.lampB = s.retained.lampB ∧
    (examine reason s).retained.cues = s.retained.cues ∧ (examine reason s).retained.response = s.retained.response ∧
    (examine reason s).retained.keymap = s.retained.keymap ∧ (examine reason s).retained.params = s.retained.params ∧
    (examine reason s).tgc.present = s.tgc.present ∧ (examine reason s).tgc.phase = s.tgc.phase ∧
    (examine reason s).tgc.gateLoad = s.tgc.gateLoad ∧ (examine reason s).tgc.blank = s.tgc.blank ∧
    (examine reason s).tgc.lift = s.tgc.lift ∧ (examine reason s).tgc.motor = s.tgc.motor ∧
    (examine reason s).tgc.timer = s.tgc.timer ∧ (examine reason s).fe.level = s.fe.level ∧
    (examine reason s).fe.timer = s.fe.timer ∧ (examine reason s).fe.pendingResponse = s.fe.pendingResponse ∧
    (examine reason s).fe.applied = s.fe.applied ∧ (examine reason s).fe.dimmer = s.fe.dimmer ∧
    (examine reason s).shc.startSlot = s.shc.startSlot := by
  unfold examine; dsimp only; repeat' split
  all_goals first | rfl | simp

@[simp] theorem rewindEnded_frame (ending : PartState) (s : State) :
    (rewindEnded ending s).pending = s.pending ∧ (rewindEnded ending s).pins = s.pins ∧
    (rewindEnded ending s).power = s.power ∧ (rewindEnded ending s).free = s.free ∧
    (rewindEnded ending s).ltc = s.ltc ∧ (rewindEnded ending s).thu = s.thu ∧
    (rewindEnded ending s).retained.position = s.retained.position ∧
    (rewindEnded ending s).retained.map = s.retained.map ∧ (rewindEnded ending s).retained.lampA = s.retained.lampA ∧
    (rewindEnded ending s).retained.lampB = s.retained.lampB ∧
    (rewindEnded ending s).retained.cues = s.retained.cues ∧
    (rewindEnded ending s).retained.response = s.retained.response ∧
    (rewindEnded ending s).retained.keymap = s.retained.keymap ∧
    (rewindEnded ending s).retained.params = s.retained.params ∧ (rewindEnded ending s).tgc.present = s.tgc.present ∧
    (rewindEnded ending s).tgc.phase = s.tgc.phase ∧ (rewindEnded ending s).tgc.gateLoad = s.tgc.gateLoad ∧
    (rewindEnded ending s).tgc.blank = s.tgc.blank ∧ (rewindEnded ending s).tgc.lift = s.tgc.lift ∧
    (rewindEnded ending s).tgc.motor = s.tgc.motor ∧ (rewindEnded ending s).tgc.timer = s.tgc.timer ∧
    (rewindEnded ending s).fe.level = s.fe.level ∧ (rewindEnded ending s).fe.timer = s.fe.timer ∧
    (rewindEnded ending s).fe.pendingResponse = s.fe.pendingResponse ∧
    (rewindEnded ending s).fe.applied = s.fe.applied ∧ (rewindEnded ending s).fe.dimmer = s.fe.dimmer ∧
    (rewindEnded ending s).shc.startSlot = s.shc.startSlot := by
  simp [rewindEnded]

@[simp] theorem endCut_frame (s : State) :
    (endCut s).pending = s.pending ∧ (endCut s).pins = s.pins ∧ (endCut s).power = s.power ∧
    (endCut s).free = s.free ∧ (endCut s).ltc = s.ltc ∧ (endCut s).thu = s.thu ∧
    (endCut s).retained.position = s.retained.position ∧ (endCut s).retained.map = s.retained.map ∧
    (endCut s).retained.lampA = s.retained.lampA ∧ (endCut s).retained.lampB = s.retained.lampB ∧
    (endCut s).retained.cues = s.retained.cues ∧ (endCut s).retained.response = s.retained.response ∧
    (endCut s).retained.keymap = s.retained.keymap ∧ (endCut s).retained.params = s.retained.params ∧
    (endCut s).tgc.present = s.tgc.present ∧ (endCut s).tgc.phase = s.tgc.phase ∧
    (endCut s).tgc.gateLoad = s.tgc.gateLoad ∧ (endCut s).tgc.blank = s.tgc.blank ∧
    (endCut s).tgc.lift = s.tgc.lift ∧ (endCut s).tgc.motor = s.tgc.motor ∧ (endCut s).tgc.timer = s.tgc.timer ∧
    (endCut s).fe.level = s.fe.level ∧ (endCut s).fe.timer = s.fe.timer ∧
    (endCut s).fe.pendingResponse = s.fe.pendingResponse ∧ (endCut s).fe.applied = s.fe.applied ∧
    (endCut s).fe.dimmer = s.fe.dimmer ∧ (endCut s).shc.startSlot = s.shc.startSlot := by
  unfold endCut; dsimp only; split <;> simp

@[simp] theorem showFadeEnded_frame (s : State) :
    (showFadeEnded s).pending = s.pending ∧ (showFadeEnded s).pins = s.pins ∧ (showFadeEnded s).power = s.power ∧
    (showFadeEnded s).free = s.free ∧ (showFadeEnded s).ltc = s.ltc ∧ (showFadeEnded s).thu = s.thu ∧
    (showFadeEnded s).retained.position = s.retained.position ∧ (showFadeEnded s).retained.map = s.retained.map ∧
    (showFadeEnded s).retained.lampA = s.retained.lampA ∧ (showFadeEnded s).retained.lampB = s.retained.lampB ∧
    (showFadeEnded s).retained.cues = s.retained.cues ∧ (showFadeEnded s).retained.response = s.retained.response ∧
    (showFadeEnded s).retained.keymap = s.retained.keymap ∧ (showFadeEnded s).retained.params = s.retained.params ∧
    (showFadeEnded s).tgc.present = s.tgc.present ∧ (showFadeEnded s).tgc.phase = s.tgc.phase ∧
    (showFadeEnded s).tgc.gateLoad = s.tgc.gateLoad ∧ (showFadeEnded s).tgc.blank = s.tgc.blank ∧
    (showFadeEnded s).tgc.lift = s.tgc.lift ∧ (showFadeEnded s).tgc.motor = s.tgc.motor ∧
    (showFadeEnded s).tgc.timer = s.tgc.timer ∧ (showFadeEnded s).fe.level = s.fe.level ∧
    (showFadeEnded s).fe.timer = s.fe.timer ∧ (showFadeEnded s).fe.pendingResponse = s.fe.pendingResponse ∧
    (showFadeEnded s).fe.applied = s.fe.applied ∧ (showFadeEnded s).fe.dimmer = s.fe.dimmer ∧
    (showFadeEnded s).shc.startSlot = s.shc.startSlot := by
  simp only [showFadeEnded]; repeat' split
  all_goals first | rfl | simp

@[simp] theorem popIssued_frame (s : State) :
    (popIssued s).pending = s.pending ∧ (popIssued s).pins = s.pins ∧ (popIssued s).power = s.power ∧
    (popIssued s).free = s.free ∧ (popIssued s).mq = s.mq ∧ (popIssued s).tgc = s.tgc ∧ (popIssued s).ltc = s.ltc ∧
    (popIssued s).thu = s.thu ∧ (popIssued s).cdec = s.cdec ∧ (popIssued s).tac = s.tac ∧ (popIssued s).rrx = s.rrx ∧
    (popIssued s).fe = s.fe ∧ (popIssued s).retained = s.retained ∧ (popIssued s).link = s.link ∧
    (popIssued s).flt = s.flt ∧ (popIssued s).shc.state = s.shc.state ∧ (popIssued s).shc.pointer = s.shc.pointer ∧
    (popIssued s).shc.startSlot = s.shc.startSlot := by
  simp [popIssued]

@[simp] theorem showMoveDone_frame (position : Position) (s : State) :
    (showMoveDone position s).pending = s.pending ∧ (showMoveDone position s).pins = s.pins ∧
    (showMoveDone position s).power = s.power ∧ (showMoveDone position s).free = s.free ∧
    (showMoveDone position s).ltc = s.ltc ∧ (showMoveDone position s).thu = s.thu ∧
    (showMoveDone position s).retained.position = s.retained.position ∧
    (showMoveDone position s).retained.map = s.retained.map ∧
    (showMoveDone position s).retained.lampA = s.retained.lampA ∧
    (showMoveDone position s).retained.lampB = s.retained.lampB ∧
    (showMoveDone position s).retained.cues = s.retained.cues ∧
    (showMoveDone position s).retained.response = s.retained.response ∧
    (showMoveDone position s).retained.keymap = s.retained.keymap ∧
    (showMoveDone position s).retained.params = s.retained.params ∧
    (showMoveDone position s).tgc.present = s.tgc.present ∧ (showMoveDone position s).tgc.phase = s.tgc.phase ∧
    (showMoveDone position s).tgc.gateLoad = s.tgc.gateLoad ∧ (showMoveDone position s).tgc.blank = s.tgc.blank ∧
    (showMoveDone position s).tgc.lift = s.tgc.lift ∧ (showMoveDone position s).tgc.motor = s.tgc.motor ∧
    (showMoveDone position s).tgc.timer = s.tgc.timer ∧ (showMoveDone position s).fe.level = s.fe.level ∧
    (showMoveDone position s).fe.timer = s.fe.timer ∧
    (showMoveDone position s).fe.pendingResponse = s.fe.pendingResponse ∧
    (showMoveDone position s).fe.applied = s.fe.applied ∧ (showMoveDone position s).fe.dimmer = s.fe.dimmer ∧
    (showMoveDone position s).shc.startSlot = s.shc.startSlot := by
  unfold showMoveDone; dsimp only; repeat' split
  all_goals first | rfl | simp

@[simp] theorem showMoveCancelled_frame (s : State) :
    (showMoveCancelled s).pending = s.pending ∧ (showMoveCancelled s).pins = s.pins ∧
    (showMoveCancelled s).power = s.power ∧ (showMoveCancelled s).free = s.free ∧ (showMoveCancelled s).ltc = s.ltc ∧
    (showMoveCancelled s).thu = s.thu ∧ (showMoveCancelled s).retained.position = s.retained.position ∧
    (showMoveCancelled s).retained.map = s.retained.map ∧ (showMoveCancelled s).retained.lampA = s.retained.lampA ∧
    (showMoveCancelled s).retained.lampB = s.retained.lampB ∧ (showMoveCancelled s).retained.cues = s.retained.cues ∧
    (showMoveCancelled s).retained.response = s.retained.response ∧
    (showMoveCancelled s).retained.keymap = s.retained.keymap ∧
    (showMoveCancelled s).retained.params = s.retained.params ∧ (showMoveCancelled s).tgc.present = s.tgc.present ∧
    (showMoveCancelled s).tgc.phase = s.tgc.phase ∧ (showMoveCancelled s).tgc.gateLoad = s.tgc.gateLoad ∧
    (showMoveCancelled s).tgc.blank = s.tgc.blank ∧ (showMoveCancelled s).tgc.lift = s.tgc.lift ∧
    (showMoveCancelled s).tgc.motor = s.tgc.motor ∧ (showMoveCancelled s).tgc.timer = s.tgc.timer ∧
    (showMoveCancelled s).fe.level = s.fe.level ∧ (showMoveCancelled s).fe.timer = s.fe.timer ∧
    (showMoveCancelled s).fe.pendingResponse = s.fe.pendingResponse ∧
    (showMoveCancelled s).fe.applied = s.fe.applied ∧ (showMoveCancelled s).fe.dimmer = s.fe.dimmer ∧
    (showMoveCancelled s).shc.startSlot = s.shc.startSlot := by
  unfold showMoveCancelled; dsimp only; repeat' split
  all_goals first | rfl | simp

@[simp] theorem tellCancelled_frame (s : State) (m : Motion) :
    (tellCancelled s m).pending = s.pending ∧ (tellCancelled s m).pins = s.pins ∧
    (tellCancelled s m).power = s.power ∧ (tellCancelled s m).free = s.free ∧ (tellCancelled s m).ltc = s.ltc ∧
    (tellCancelled s m).thu = s.thu ∧ (tellCancelled s m).retained.position = s.retained.position ∧
    (tellCancelled s m).retained.map = s.retained.map ∧ (tellCancelled s m).retained.lampA = s.retained.lampA ∧
    (tellCancelled s m).retained.lampB = s.retained.lampB ∧ (tellCancelled s m).retained.cues = s.retained.cues ∧
    (tellCancelled s m).retained.response = s.retained.response ∧
    (tellCancelled s m).retained.keymap = s.retained.keymap ∧
    (tellCancelled s m).retained.params = s.retained.params ∧ (tellCancelled s m).tgc.present = s.tgc.present ∧
    (tellCancelled s m).tgc.phase = s.tgc.phase ∧ (tellCancelled s m).tgc.gateLoad = s.tgc.gateLoad ∧
    (tellCancelled s m).tgc.blank = s.tgc.blank ∧ (tellCancelled s m).tgc.lift = s.tgc.lift ∧
    (tellCancelled s m).tgc.motor = s.tgc.motor ∧ (tellCancelled s m).tgc.timer = s.tgc.timer ∧
    (tellCancelled s m).fe.level = s.fe.level ∧ (tellCancelled s m).fe.timer = s.fe.timer ∧
    (tellCancelled s m).fe.pendingResponse = s.fe.pendingResponse ∧ (tellCancelled s m).fe.applied = s.fe.applied ∧
    (tellCancelled s m).fe.dimmer = s.fe.dimmer ∧ (tellCancelled s m).shc.startSlot = s.shc.startSlot := by
  simp only [tellCancelled]; repeat' split
  all_goals first | rfl | simp

@[simp] theorem foldl_tellCancelled_frame (l : List Motion) (s : State) :
    (l.foldl tellCancelled s).pending = s.pending ∧ (l.foldl tellCancelled s).pins = s.pins ∧
    (l.foldl tellCancelled s).power = s.power ∧ (l.foldl tellCancelled s).free = s.free ∧
    (l.foldl tellCancelled s).ltc = s.ltc ∧ (l.foldl tellCancelled s).thu = s.thu ∧
    (l.foldl tellCancelled s).retained.position = s.retained.position ∧
    (l.foldl tellCancelled s).retained.map = s.retained.map ∧
    (l.foldl tellCancelled s).retained.lampA = s.retained.lampA ∧
    (l.foldl tellCancelled s).retained.lampB = s.retained.lampB ∧
    (l.foldl tellCancelled s).retained.cues = s.retained.cues ∧
    (l.foldl tellCancelled s).retained.response = s.retained.response ∧
    (l.foldl tellCancelled s).retained.keymap = s.retained.keymap ∧
    (l.foldl tellCancelled s).retained.params = s.retained.params ∧
    (l.foldl tellCancelled s).tgc.present = s.tgc.present ∧ (l.foldl tellCancelled s).tgc.phase = s.tgc.phase ∧
    (l.foldl tellCancelled s).tgc.gateLoad = s.tgc.gateLoad ∧ (l.foldl tellCancelled s).tgc.blank = s.tgc.blank ∧
    (l.foldl tellCancelled s).tgc.lift = s.tgc.lift ∧ (l.foldl tellCancelled s).tgc.motor = s.tgc.motor ∧
    (l.foldl tellCancelled s).tgc.timer = s.tgc.timer ∧ (l.foldl tellCancelled s).fe.level = s.fe.level ∧
    (l.foldl tellCancelled s).fe.timer = s.fe.timer ∧
    (l.foldl tellCancelled s).fe.pendingResponse = s.fe.pendingResponse ∧
    (l.foldl tellCancelled s).fe.applied = s.fe.applied ∧ (l.foldl tellCancelled s).fe.dimmer = s.fe.dimmer ∧
    (l.foldl tellCancelled s).shc.startSlot = s.shc.startSlot := by
  refine ⟨?_, ?_, ?_, ?_, ?_, ?_, ?_, ?_, ?_, ?_, ?_, ?_, ?_, ?_, ?_, ?_, ?_, ?_, ?_, ?_, ?_, ?_, ?_, ?_, ?_, ?_, ?_⟩
  · exact (foldl_keeps (fun s : State => s.pending) _ (by intros; simp) _ _)
  · exact (foldl_keeps (fun s : State => s.pins) _ (by intros; simp) _ _)
  · exact (foldl_keeps (fun s : State => s.power) _ (by intros; simp) _ _)
  · exact (foldl_keeps (fun s : State => s.free) _ (by intros; simp) _ _)
  · exact (foldl_keeps (fun s : State => s.ltc) _ (by intros; simp) _ _)
  · exact (foldl_keeps (fun s : State => s.thu) _ (by intros; simp) _ _)
  · exact (foldl_keeps (fun s : State => s.retained.position) _ (by intros; simp) _ _)
  · exact (foldl_keeps (fun s : State => s.retained.map) _ (by intros; simp) _ _)
  · exact (foldl_keeps (fun s : State => s.retained.lampA) _ (by intros; simp) _ _)
  · exact (foldl_keeps (fun s : State => s.retained.lampB) _ (by intros; simp) _ _)
  · exact (foldl_keeps (fun s : State => s.retained.cues) _ (by intros; simp) _ _)
  · exact (foldl_keeps (fun s : State => s.retained.response) _ (by intros; simp) _ _)
  · exact (foldl_keeps (fun s : State => s.retained.keymap) _ (by intros; simp) _ _)
  · exact (foldl_keeps (fun s : State => s.retained.params) _ (by intros; simp) _ _)
  · exact (foldl_keeps (fun s : State => s.tgc.present) _ (by intros; simp) _ _)
  · exact (foldl_keeps (fun s : State => s.tgc.phase) _ (by intros; simp) _ _)
  · exact (foldl_keeps (fun s : State => s.tgc.gateLoad) _ (by intros; simp) _ _)
  · exact (foldl_keeps (fun s : State => s.tgc.blank) _ (by intros; simp) _ _)
  · exact (foldl_keeps (fun s : State => s.tgc.lift) _ (by intros; simp) _ _)
  · exact (foldl_keeps (fun s : State => s.tgc.motor) _ (by intros; simp) _ _)
  · exact (foldl_keeps (fun s : State => s.tgc.timer) _ (by intros; simp) _ _)
  · exact (foldl_keeps (fun s : State => s.fe.level) _ (by intros; simp) _ _)
  · exact (foldl_keeps (fun s : State => s.fe.timer) _ (by intros; simp) _ _)
  · exact (foldl_keeps (fun s : State => s.fe.pendingResponse) _ (by intros; simp) _ _)
  · exact (foldl_keeps (fun s : State => s.fe.applied) _ (by intros; simp) _ _)
  · exact (foldl_keeps (fun s : State => s.fe.dimmer) _ (by intros; simp) _ _)
  · exact (foldl_keeps (fun s : State => s.shc.startSlot) _ (by intros; simp) _ _)

@[simp] theorem entryActive_frame (source : Source) (s : State) :
    (entryActive source s).pending = s.pending ∧ (entryActive source s).pins = s.pins ∧
    (entryActive source s).power = s.power ∧ (entryActive source s).free = s.free ∧
    (entryActive source s).mq = s.mq ∧ (entryActive source s).tgc = s.tgc ∧ (entryActive source s).ltc = s.ltc ∧
    (entryActive source s).thu = s.thu ∧ (entryActive source s).cdec = s.cdec ∧ (entryActive source s).tac = s.tac ∧
    (entryActive source s).rrx = s.rrx ∧ (entryActive source s).fe = s.fe ∧
    (entryActive source s).retained = s.retained ∧ (entryActive source s).link = s.link ∧
    (entryActive source s).flt = s.flt ∧ (entryActive source s).shc.state = s.shc.state ∧
    (entryActive source s).shc.pointer = s.shc.pointer ∧ (entryActive source s).shc.startSlot = s.shc.startSlot := by
  simp only [entryActive]; repeat' split
  all_goals first | rfl | simp

@[simp] theorem returnFromHeld_frame (reason : ShowReason) (s : State) :
    (returnFromHeld reason s).pending = s.pending ∧ (returnFromHeld reason s).pins = s.pins ∧
    (returnFromHeld reason s).power = s.power ∧ (returnFromHeld reason s).free = s.free ∧
    (returnFromHeld reason s).ltc = s.ltc ∧ (returnFromHeld reason s).thu = s.thu ∧
    (returnFromHeld reason s).retained.position = s.retained.position ∧
    (returnFromHeld reason s).retained.map = s.retained.map ∧
    (returnFromHeld reason s).retained.lampA = s.retained.lampA ∧
    (returnFromHeld reason s).retained.lampB = s.retained.lampB ∧
    (returnFromHeld reason s).retained.cues = s.retained.cues ∧
    (returnFromHeld reason s).retained.response = s.retained.response ∧
    (returnFromHeld reason s).retained.keymap = s.retained.keymap ∧
    (returnFromHeld reason s).retained.params = s.retained.params ∧
    (returnFromHeld reason s).tgc.present = s.tgc.present ∧ (returnFromHeld reason s).tgc.phase = s.tgc.phase ∧
    (returnFromHeld reason s).tgc.gateLoad = s.tgc.gateLoad ∧ (returnFromHeld reason s).tgc.blank = s.tgc.blank ∧
    (returnFromHeld reason s).tgc.lift = s.tgc.lift ∧ (returnFromHeld reason s).tgc.motor = s.tgc.motor ∧
    (returnFromHeld reason s).tgc.timer = s.tgc.timer ∧ (returnFromHeld reason s).fe.level = s.fe.level ∧
    (returnFromHeld reason s).fe.timer = s.fe.timer ∧
    (returnFromHeld reason s).fe.pendingResponse = s.fe.pendingResponse ∧
    (returnFromHeld reason s).fe.applied = s.fe.applied ∧ (returnFromHeld reason s).fe.dimmer = s.fe.dimmer ∧
    (returnFromHeld reason s).shc.startSlot = s.shc.startSlot := by
  unfold returnFromHeld; dsimp only; repeat' split
  all_goals first | rfl | simp

@[simp] theorem lampLit_frame (s : State) :
    (lampLit s).pending = s.pending ∧ (lampLit s).pins = s.pins ∧ (lampLit s).power = s.power ∧
    (lampLit s).free = s.free ∧ (lampLit s).ltc = s.ltc ∧ (lampLit s).thu = s.thu ∧
    (lampLit s).retained.position = s.retained.position ∧ (lampLit s).retained.map = s.retained.map ∧
    (lampLit s).retained.lampA = s.retained.lampA ∧ (lampLit s).retained.lampB = s.retained.lampB ∧
    (lampLit s).retained.cues = s.retained.cues ∧ (lampLit s).retained.response = s.retained.response ∧
    (lampLit s).retained.keymap = s.retained.keymap ∧ (lampLit s).retained.params = s.retained.params ∧
    (lampLit s).tgc.present = s.tgc.present ∧ (lampLit s).tgc.phase = s.tgc.phase ∧
    (lampLit s).tgc.gateLoad = s.tgc.gateLoad ∧ (lampLit s).tgc.blank = s.tgc.blank ∧
    (lampLit s).tgc.lift = s.tgc.lift ∧ (lampLit s).tgc.motor = s.tgc.motor ∧ (lampLit s).tgc.timer = s.tgc.timer ∧
    (lampLit s).fe.level = s.fe.level ∧ (lampLit s).fe.timer = s.fe.timer ∧
    (lampLit s).fe.pendingResponse = s.fe.pendingResponse ∧ (lampLit s).fe.applied = s.fe.applied ∧
    (lampLit s).fe.dimmer = s.fe.dimmer ∧ (lampLit s).shc.startSlot = s.shc.startSlot := by
  unfold lampLit; dsimp only; repeat' split
  all_goals first | rfl | simp

@[simp] theorem excursionKey_frame (s : State) :
    (excursionKey s).1.pending = s.pending ∧ (excursionKey s).1.pins = s.pins ∧ (excursionKey s).1.power = s.power ∧
    (excursionKey s).1.free = s.free ∧ (excursionKey s).1.mq = s.mq ∧ (excursionKey s).1.tgc = s.tgc ∧
    (excursionKey s).1.ltc = s.ltc ∧ (excursionKey s).1.thu = s.thu ∧ (excursionKey s).1.rrx = s.rrx ∧
    (excursionKey s).1.fe = s.fe ∧ (excursionKey s).1.retained = s.retained ∧
    (excursionKey s).1.flt.faultOn = s.flt.faultOn ∧ (excursionKey s).1.flt.eventOn = s.flt.eventOn ∧
    (excursionKey s).1.flt.switchOn = s.flt.switchOn ∧ (excursionKey s).1.flt.seconds = s.flt.seconds ∧
    (excursionKey s).1.flt.timer = s.flt.timer ∧ (excursionKey s).1.flt.first = s.flt.first ∧
    (excursionKey s).1.flt.opener = s.flt.opener ∧ (excursionKey s).1.flt.causes = s.flt.causes ∧
    (excursionKey s).1.shc.pointer = s.shc.pointer ∧ (excursionKey s).1.shc.startSlot = s.shc.startSlot := by
  unfold excursionKey; dsimp only; repeat' split
  all_goals first | rfl | simp

@[simp] theorem returnOrder_frame (reason : ShowReason) (s : State) :
    (returnOrder reason s).pending = s.pending ∧ (returnOrder reason s).pins = s.pins ∧
    (returnOrder reason s).power = s.power ∧ (returnOrder reason s).free = s.free ∧
    (returnOrder reason s).ltc = s.ltc ∧ (returnOrder reason s).thu = s.thu ∧
    (returnOrder reason s).retained.position = s.retained.position ∧
    (returnOrder reason s).retained.map = s.retained.map ∧ (returnOrder reason s).retained.lampA = s.retained.lampA ∧
    (returnOrder reason s).retained.lampB = s.retained.lampB ∧
    (returnOrder reason s).retained.cues = s.retained.cues ∧
    (returnOrder reason s).retained.response = s.retained.response ∧
    (returnOrder reason s).retained.keymap = s.retained.keymap ∧
    (returnOrder reason s).retained.params = s.retained.params ∧ (returnOrder reason s).tgc.present = s.tgc.present ∧
    (returnOrder reason s).tgc.phase = s.tgc.phase ∧ (returnOrder reason s).tgc.gateLoad = s.tgc.gateLoad ∧
    (returnOrder reason s).tgc.blank = s.tgc.blank ∧ (returnOrder reason s).tgc.lift = s.tgc.lift ∧
    (returnOrder reason s).tgc.motor = s.tgc.motor ∧ (returnOrder reason s).tgc.timer = s.tgc.timer ∧
    (returnOrder reason s).fe.level = s.fe.level ∧ (returnOrder reason s).fe.timer = s.fe.timer ∧
    (returnOrder reason s).fe.pendingResponse = s.fe.pendingResponse ∧
    (returnOrder reason s).fe.applied = s.fe.applied ∧ (returnOrder reason s).fe.dimmer = s.fe.dimmer ∧
    (returnOrder reason s).shc.startSlot = s.shc.startSlot := by
  unfold returnOrder; dsimp only; repeat' split
  all_goals first | rfl | simp

@[simp] theorem resumePaused_frame (reason : ShowReason) (s : State) :
    (resumePaused reason s).pending = s.pending ∧ (resumePaused reason s).pins = s.pins ∧
    (resumePaused reason s).power = s.power ∧ (resumePaused reason s).free = s.free ∧
    (resumePaused reason s).ltc = s.ltc ∧ (resumePaused reason s).thu = s.thu ∧
    (resumePaused reason s).retained.position = s.retained.position ∧
    (resumePaused reason s).retained.map = s.retained.map ∧
    (resumePaused reason s).retained.lampA = s.retained.lampA ∧
    (resumePaused reason s).retained.lampB = s.retained.lampB ∧
    (resumePaused reason s).retained.cues = s.retained.cues ∧
    (resumePaused reason s).retained.response = s.retained.response ∧
    (resumePaused reason s).retained.keymap = s.retained.keymap ∧
    (resumePaused reason s).retained.params = s.retained.params ∧
    (resumePaused reason s).tgc.present = s.tgc.present ∧ (resumePaused reason s).tgc.phase = s.tgc.phase ∧
    (resumePaused reason s).tgc.gateLoad = s.tgc.gateLoad ∧ (resumePaused reason s).tgc.blank = s.tgc.blank ∧
    (resumePaused reason s).tgc.lift = s.tgc.lift ∧ (resumePaused reason s).tgc.motor = s.tgc.motor ∧
    (resumePaused reason s).tgc.timer = s.tgc.timer ∧ (resumePaused reason s).fe.level = s.fe.level ∧
    (resumePaused reason s).fe.timer = s.fe.timer ∧
    (resumePaused reason s).fe.pendingResponse = s.fe.pendingResponse ∧
    (resumePaused reason s).fe.applied = s.fe.applied ∧ (resumePaused reason s).fe.dimmer = s.fe.dimmer ∧
    (resumePaused reason s).shc.startSlot = s.shc.startSlot := by
  simp [resumePaused]

@[simp] theorem pauseShow_frame (reason : ShowReason) (s : State) :
    (pauseShow reason s).pending = s.pending ∧ (pauseShow reason s).pins = s.pins ∧
    (pauseShow reason s).power = s.power ∧ (pauseShow reason s).free = s.free ∧ (pauseShow reason s).mq = s.mq ∧
    (pauseShow reason s).tgc = s.tgc ∧ (pauseShow reason s).ltc = s.ltc ∧ (pauseShow reason s).thu = s.thu ∧
    (pauseShow reason s).rrx = s.rrx ∧ (pauseShow reason s).fe = s.fe ∧ (pauseShow reason s).retained = s.retained ∧
    (pauseShow reason s).flt.faultOn = s.flt.faultOn ∧ (pauseShow reason s).flt.eventOn = s.flt.eventOn ∧
    (pauseShow reason s).flt.switchOn = s.flt.switchOn ∧ (pauseShow reason s).flt.seconds = s.flt.seconds ∧
    (pauseShow reason s).flt.timer = s.flt.timer ∧ (pauseShow reason s).flt.first = s.flt.first ∧
    (pauseShow reason s).flt.opener = s.flt.opener ∧ (pauseShow reason s).flt.causes = s.flt.causes ∧
    (pauseShow reason s).shc.pointer = s.shc.pointer ∧ (pauseShow reason s).shc.startSlot = s.shc.startSlot := by
  unfold pauseShow; dsimp only; split <;> simp

@[simp] theorem pauseKey_frame (s : State) :
    (pauseKey s).pending = s.pending ∧ (pauseKey s).pins = s.pins ∧ (pauseKey s).power = s.power ∧
    (pauseKey s).free = s.free ∧ (pauseKey s).ltc = s.ltc ∧ (pauseKey s).thu = s.thu ∧
    (pauseKey s).retained.position = s.retained.position ∧ (pauseKey s).retained.map = s.retained.map ∧
    (pauseKey s).retained.lampA = s.retained.lampA ∧ (pauseKey s).retained.lampB = s.retained.lampB ∧
    (pauseKey s).retained.cues = s.retained.cues ∧ (pauseKey s).retained.response = s.retained.response ∧
    (pauseKey s).retained.keymap = s.retained.keymap ∧ (pauseKey s).retained.params = s.retained.params ∧
    (pauseKey s).tgc.present = s.tgc.present ∧ (pauseKey s).tgc.phase = s.tgc.phase ∧
    (pauseKey s).tgc.gateLoad = s.tgc.gateLoad ∧ (pauseKey s).tgc.blank = s.tgc.blank ∧
    (pauseKey s).tgc.lift = s.tgc.lift ∧ (pauseKey s).tgc.motor = s.tgc.motor ∧
    (pauseKey s).tgc.timer = s.tgc.timer ∧ (pauseKey s).fe.level = s.fe.level ∧ (pauseKey s).fe.timer = s.fe.timer ∧
    (pauseKey s).fe.pendingResponse = s.fe.pendingResponse ∧ (pauseKey s).fe.applied = s.fe.applied ∧
    (pauseKey s).fe.dimmer = s.fe.dimmer ∧ (pauseKey s).shc.startSlot = s.shc.startSlot := by
  simp only [pauseKey]; repeat' split
  all_goals first | rfl | simp

@[simp] theorem syncDimmer_frame (s : State) :
    (syncDimmer s).pending = s.pending ∧ (syncDimmer s).pins = s.pins ∧ (syncDimmer s).power = s.power ∧
    (syncDimmer s).free = s.free ∧ (syncDimmer s).mq = s.mq ∧ (syncDimmer s).tgc = s.tgc ∧
    (syncDimmer s).thu = s.thu ∧ (syncDimmer s).cdec = s.cdec ∧ (syncDimmer s).shc = s.shc ∧
    (syncDimmer s).tac = s.tac ∧ (syncDimmer s).rrx = s.rrx ∧ (syncDimmer s).retained = s.retained ∧
    (syncDimmer s).link = s.link ∧ (syncDimmer s).flt = s.flt ∧ (syncDimmer s).fe.level = s.fe.level ∧
    (syncDimmer s).fe.timer = s.fe.timer ∧ (syncDimmer s).fe.pendingResponse = s.fe.pendingResponse ∧
    (syncDimmer s).fe.applied = s.fe.applied := by
  simp [syncDimmer]

@[simp] theorem runStages_frame (s : State) :
    (runStages s).pending = s.pending ∧ (runStages s).pins = s.pins ∧ (runStages s).power = s.power ∧
    (runStages s).free = s.free ∧ (runStages s).mq = s.mq ∧ (runStages s).tgc = s.tgc ∧ (runStages s).thu = s.thu ∧
    (runStages s).cdec = s.cdec ∧ (runStages s).shc = s.shc ∧ (runStages s).tac = s.tac ∧ (runStages s).rrx = s.rrx ∧
    (runStages s).retained = s.retained ∧ (runStages s).link = s.link ∧ (runStages s).flt = s.flt := by
  simp [runStages]

@[simp] theorem installResponse_frame (s : State) :
    (installResponse s).pending = s.pending ∧ (installResponse s).pins = s.pins ∧
    (installResponse s).power = s.power ∧ (installResponse s).free = s.free ∧ (installResponse s).mq = s.mq ∧
    (installResponse s).tgc = s.tgc ∧ (installResponse s).ltc = s.ltc ∧ (installResponse s).thu = s.thu ∧
    (installResponse s).cdec = s.cdec ∧ (installResponse s).shc = s.shc ∧ (installResponse s).tac = s.tac ∧
    (installResponse s).rrx = s.rrx ∧ (installResponse s).link = s.link ∧ (installResponse s).flt = s.flt ∧
    (installResponse s).retained.position = s.retained.position ∧ (installResponse s).retained.map = s.retained.map ∧
    (installResponse s).retained.lampA = s.retained.lampA ∧ (installResponse s).retained.lampB = s.retained.lampB ∧
    (installResponse s).retained.cues = s.retained.cues ∧ (installResponse s).retained.user = s.retained.user ∧
    (installResponse s).retained.keymap = s.retained.keymap ∧
    (installResponse s).retained.params = s.retained.params ∧ (installResponse s).fe.level = s.fe.level ∧
    (installResponse s).fe.timer = s.fe.timer ∧ (installResponse s).fe.applied = s.fe.applied ∧
    (installResponse s).fe.dimmer = s.fe.dimmer := by
  simp only [installResponse]; repeat' split
  all_goals first | rfl | simp

@[simp] theorem advanceFade_frame (s : State) :
    (advanceFade s).1.pending = s.pending ∧ (advanceFade s).1.pins = s.pins ∧ (advanceFade s).1.power = s.power ∧
    (advanceFade s).1.free = s.free ∧ (advanceFade s).1.mq = s.mq ∧ (advanceFade s).1.tgc = s.tgc ∧
    (advanceFade s).1.ltc = s.ltc ∧ (advanceFade s).1.thu = s.thu ∧ (advanceFade s).1.cdec = s.cdec ∧
    (advanceFade s).1.shc = s.shc ∧ (advanceFade s).1.tac = s.tac ∧ (advanceFade s).1.rrx = s.rrx ∧
    (advanceFade s).1.retained = s.retained ∧ (advanceFade s).1.link = s.link ∧ (advanceFade s).1.flt = s.flt ∧
    (advanceFade s).1.fe.timer = s.fe.timer ∧ (advanceFade s).1.fe.pendingResponse = s.fe.pendingResponse ∧
    (advanceFade s).1.fe.applied = s.fe.applied ∧ (advanceFade s).1.fe.dimmer = s.fe.dimmer := by
  unfold advanceFade; dsimp only; repeat' split
  all_goals first | rfl | simp

@[simp] theorem replaceFade_frame (s : State) :
    (replaceFade s).pending = s.pending ∧ (replaceFade s).pins = s.pins ∧ (replaceFade s).power = s.power ∧
    (replaceFade s).free = s.free ∧ (replaceFade s).ltc = s.ltc ∧ (replaceFade s).thu = s.thu ∧
    (replaceFade s).retained.position = s.retained.position ∧ (replaceFade s).retained.map = s.retained.map ∧
    (replaceFade s).retained.lampA = s.retained.lampA ∧ (replaceFade s).retained.lampB = s.retained.lampB ∧
    (replaceFade s).retained.cues = s.retained.cues ∧ (replaceFade s).retained.response = s.retained.response ∧
    (replaceFade s).retained.keymap = s.retained.keymap ∧ (replaceFade s).retained.params = s.retained.params ∧
    (replaceFade s).tgc.present = s.tgc.present ∧ (replaceFade s).tgc.phase = s.tgc.phase ∧
    (replaceFade s).tgc.gateLoad = s.tgc.gateLoad ∧ (replaceFade s).tgc.blank = s.tgc.blank ∧
    (replaceFade s).tgc.lift = s.tgc.lift ∧ (replaceFade s).tgc.motor = s.tgc.motor ∧
    (replaceFade s).tgc.timer = s.tgc.timer ∧ (replaceFade s).fe.level = s.fe.level ∧
    (replaceFade s).fe.timer = s.fe.timer ∧ (replaceFade s).fe.pendingResponse = s.fe.pendingResponse ∧
    (replaceFade s).fe.applied = s.fe.applied ∧ (replaceFade s).fe.dimmer = s.fe.dimmer ∧
    (replaceFade s).shc.startSlot = s.shc.startSlot := by
  unfold replaceFade; dsimp only; repeat' split
  all_goals first | rfl | simp

@[simp] theorem orderFade_frame (target duration : Nat) (curve : Curve) (origin : FadeOrigin) (s : State) :
    (orderFade target duration curve origin s).pending = s.pending ∧
    (orderFade target duration curve origin s).pins = s.pins ∧
    (orderFade target duration curve origin s).power = s.power ∧
    (orderFade target duration curve origin s).free = s.free ∧
    (orderFade target duration curve origin s).ltc = s.ltc ∧ (orderFade target duration curve origin s).thu = s.thu ∧
    (orderFade target duration curve origin s).retained.position = s.retained.position ∧
    (orderFade target duration curve origin s).retained.map = s.retained.map ∧
    (orderFade target duration curve origin s).retained.lampA = s.retained.lampA ∧
    (orderFade target duration curve origin s).retained.lampB = s.retained.lampB ∧
    (orderFade target duration curve origin s).retained.cues = s.retained.cues ∧
    (orderFade target duration curve origin s).retained.response = s.retained.response ∧
    (orderFade target duration curve origin s).retained.keymap = s.retained.keymap ∧
    (orderFade target duration curve origin s).retained.params = s.retained.params ∧
    (orderFade target duration curve origin s).tgc.present = s.tgc.present ∧
    (orderFade target duration curve origin s).tgc.phase = s.tgc.phase ∧
    (orderFade target duration curve origin s).tgc.gateLoad = s.tgc.gateLoad ∧
    (orderFade target duration curve origin s).tgc.blank = s.tgc.blank ∧
    (orderFade target duration curve origin s).tgc.lift = s.tgc.lift ∧
    (orderFade target duration curve origin s).tgc.motor = s.tgc.motor ∧
    (orderFade target duration curve origin s).tgc.timer = s.tgc.timer ∧
    (orderFade target duration curve origin s).fe.level = s.fe.level ∧
    (orderFade target duration curve origin s).fe.timer = s.fe.timer ∧
    (orderFade target duration curve origin s).fe.pendingResponse = s.fe.pendingResponse ∧
    (orderFade target duration curve origin s).fe.applied = s.fe.applied ∧
    (orderFade target duration curve origin s).fe.dimmer = s.fe.dimmer ∧
    (orderFade target duration curve origin s).shc.startSlot = s.shc.startSlot := by
  simp [orderFade]

@[simp] theorem retarget_frame (s : State) :
    (retarget s).pending = s.pending ∧ (retarget s).pins = s.pins ∧ (retarget s).power = s.power ∧
    (retarget s).free = s.free ∧ (retarget s).mq = s.mq ∧ (retarget s).tgc = s.tgc ∧ (retarget s).cdec = s.cdec ∧
    (retarget s).shc = s.shc ∧ (retarget s).tac = s.tac ∧ (retarget s).rrx = s.rrx ∧
    (retarget s).retained = s.retained ∧ (retarget s).link = s.link ∧ (retarget s).flt = s.flt ∧
    (retarget s).thu.seeing = s.thu.seeing ∧ (retarget s).thu.reading = s.thu.reading ∧
    (retarget s).thu.state = s.thu.state := by
  unfold retarget; dsimp only; split <;> simp

@[simp] theorem setFan_frame (command : Nat) (s : State) :
    (setFan command s).pending = s.pending ∧ (setFan command s).pins = s.pins ∧ (setFan command s).power = s.power ∧
    (setFan command s).free = s.free ∧ (setFan command s).mq = s.mq ∧ (setFan command s).tgc = s.tgc ∧
    (setFan command s).ltc = s.ltc ∧ (setFan command s).cdec = s.cdec ∧ (setFan command s).shc = s.shc ∧
    (setFan command s).tac = s.tac ∧ (setFan command s).rrx = s.rrx ∧ (setFan command s).fe = s.fe ∧
    (setFan command s).retained = s.retained ∧ (setFan command s).link = s.link ∧ (setFan command s).flt = s.flt ∧
    (setFan command s).thu.effective = s.thu.effective ∧ (setFan command s).thu.seeing = s.thu.seeing ∧
    (setFan command s).thu.reading = s.thu.reading ∧ (setFan command s).thu.state = s.thu.state := by
  simp [setFan]

@[simp] theorem syncFan_frame (s : State) :
    (syncFan s).pending = s.pending ∧ (syncFan s).pins = s.pins ∧ (syncFan s).power = s.power ∧
    (syncFan s).free = s.free ∧ (syncFan s).mq = s.mq ∧ (syncFan s).tgc = s.tgc ∧ (syncFan s).ltc = s.ltc ∧
    (syncFan s).cdec = s.cdec ∧ (syncFan s).shc = s.shc ∧ (syncFan s).tac = s.tac ∧ (syncFan s).rrx = s.rrx ∧
    (syncFan s).fe = s.fe ∧ (syncFan s).retained = s.retained ∧ (syncFan s).link = s.link ∧ (syncFan s).flt = s.flt ∧
    (syncFan s).thu.effective = s.thu.effective ∧ (syncFan s).thu.seeing = s.thu.seeing ∧
    (syncFan s).thu.reading = s.thu.reading ∧ (syncFan s).thu.state = s.thu.state := by
  simp [syncFan]

@[simp] theorem setCooldown_frame (c : Option Nat) (s : State) :
    (setCooldown c s).pending = s.pending ∧ (setCooldown c s).pins = s.pins ∧ (setCooldown c s).power = s.power ∧
    (setCooldown c s).free = s.free ∧ (setCooldown c s).mq = s.mq ∧ (setCooldown c s).tgc = s.tgc ∧
    (setCooldown c s).ltc = s.ltc ∧ (setCooldown c s).cdec = s.cdec ∧ (setCooldown c s).shc = s.shc ∧
    (setCooldown c s).tac = s.tac ∧ (setCooldown c s).rrx = s.rrx ∧ (setCooldown c s).fe = s.fe ∧
    (setCooldown c s).retained = s.retained ∧ (setCooldown c s).link = s.link ∧ (setCooldown c s).flt = s.flt ∧
    (setCooldown c s).thu.effective = s.thu.effective ∧ (setCooldown c s).thu.seeing = s.thu.seeing ∧
    (setCooldown c s).thu.reading = s.thu.reading ∧ (setCooldown c s).thu.state = s.thu.state := by
  simp [setCooldown]

@[simp] theorem tellThermal_frame (old new : LampState) (s : State) :
    (tellThermal old new s).pending = s.pending ∧ (tellThermal old new s).pins = s.pins ∧
    (tellThermal old new s).power = s.power ∧ (tellThermal old new s).free = s.free ∧
    (tellThermal old new s).mq = s.mq ∧ (tellThermal old new s).tgc = s.tgc ∧ (tellThermal old new s).ltc = s.ltc ∧
    (tellThermal old new s).cdec = s.cdec ∧ (tellThermal old new s).shc = s.shc ∧
    (tellThermal old new s).tac = s.tac ∧ (tellThermal old new s).rrx = s.rrx ∧ (tellThermal old new s).fe = s.fe ∧
    (tellThermal old new s).retained = s.retained ∧ (tellThermal old new s).link = s.link ∧
    (tellThermal old new s).flt = s.flt ∧ (tellThermal old new s).thu.effective = s.thu.effective ∧
    (tellThermal old new s).thu.seeing = s.thu.seeing ∧ (tellThermal old new s).thu.reading = s.thu.reading ∧
    (tellThermal old new s).thu.state = s.thu.state := by
  simp only [tellThermal]; repeat' split
  all_goals first | rfl | simp

@[simp] theorem endCooldown_frame (s : State) :
    (endCooldown s).1.pending = s.pending ∧ (endCooldown s).1.pins = s.pins ∧ (endCooldown s).1.power = s.power ∧
    (endCooldown s).1.free = s.free ∧ (endCooldown s).1.mq = s.mq ∧ (endCooldown s).1.tgc = s.tgc ∧
    (endCooldown s).1.ltc = s.ltc ∧ (endCooldown s).1.cdec = s.cdec ∧ (endCooldown s).1.shc = s.shc ∧
    (endCooldown s).1.tac = s.tac ∧ (endCooldown s).1.rrx = s.rrx ∧ (endCooldown s).1.fe = s.fe ∧
    (endCooldown s).1.retained = s.retained ∧ (endCooldown s).1.flt.faultOn = s.flt.faultOn ∧
    (endCooldown s).1.flt.eventOn = s.flt.eventOn ∧ (endCooldown s).1.flt.switchOn = s.flt.switchOn ∧
    (endCooldown s).1.flt.seconds = s.flt.seconds ∧ (endCooldown s).1.flt.timer = s.flt.timer ∧
    (endCooldown s).1.flt.first = s.flt.first ∧ (endCooldown s).1.flt.opener = s.flt.opener ∧
    (endCooldown s).1.flt.causes = s.flt.causes ∧ (endCooldown s).1.thu.effective = s.thu.effective ∧
    (endCooldown s).1.thu.seeing = s.thu.seeing ∧ (endCooldown s).1.thu.reading = s.thu.reading ∧
    (endCooldown s).1.thu.state = s.thu.state := by
  unfold endCooldown; dsimp only; repeat' split
  all_goals first | rfl | simp

@[simp] theorem setLampState_frame (l : Lamp) (new : LampState) (s : State) :
    (setLampState l new s).pending = s.pending ∧ (setLampState l new s).pins = s.pins ∧
    (setLampState l new s).power = s.power ∧ (setLampState l new s).free = s.free ∧
    (setLampState l new s).mq = s.mq ∧ (setLampState l new s).tgc = s.tgc ∧ (setLampState l new s).thu = s.thu ∧
    (setLampState l new s).cdec = s.cdec ∧ (setLampState l new s).shc = s.shc ∧ (setLampState l new s).tac = s.tac ∧
    (setLampState l new s).rrx = s.rrx ∧ (setLampState l new s).link = s.link ∧ (setLampState l new s).flt = s.flt ∧
    (setLampState l new s).retained.position = s.retained.position ∧
    (setLampState l new s).retained.map = s.retained.map ∧ (setLampState l new s).retained.cues = s.retained.cues ∧
    (setLampState l new s).retained.user = s.retained.user ∧
    (setLampState l new s).retained.response = s.retained.response ∧
    (setLampState l new s).retained.keymap = s.retained.keymap ∧
    (setLampState l new s).retained.params = s.retained.params := by
  simp [setLampState]

@[simp] theorem tellLamp_frame (l : Lamp) (new old : LampState) (cause : LampCause) (s : State) :
    (tellLamp l new old cause s).pending = s.pending ∧ (tellLamp l new old cause s).pins = s.pins ∧
    (tellLamp l new old cause s).power = s.power ∧ (tellLamp l new old cause s).free = s.free ∧
    (tellLamp l new old cause s).mq = s.mq ∧ (tellLamp l new old cause s).tgc = s.tgc ∧
    (tellLamp l new old cause s).ltc = s.ltc ∧ (tellLamp l new old cause s).cdec = s.cdec ∧
    (tellLamp l new old cause s).shc = s.shc ∧ (tellLamp l new old cause s).tac = s.tac ∧
    (tellLamp l new old cause s).rrx = s.rrx ∧ (tellLamp l new old cause s).fe = s.fe ∧
    (tellLamp l new old cause s).retained = s.retained ∧ (tellLamp l new old cause s).flt.faultOn = s.flt.faultOn ∧
    (tellLamp l new old cause s).flt.eventOn = s.flt.eventOn ∧
    (tellLamp l new old cause s).flt.switchOn = s.flt.switchOn ∧
    (tellLamp l new old cause s).flt.seconds = s.flt.seconds ∧ (tellLamp l new old cause s).flt.timer = s.flt.timer ∧
    (tellLamp l new old cause s).flt.first = s.flt.first ∧ (tellLamp l new old cause s).flt.opener = s.flt.opener ∧
    (tellLamp l new old cause s).flt.causes = s.flt.causes ∧
    (tellLamp l new old cause s).thu.effective = s.thu.effective ∧
    (tellLamp l new old cause s).thu.seeing = s.thu.seeing ∧
    (tellLamp l new old cause s).thu.reading = s.thu.reading ∧ (tellLamp l new old cause s).thu.state = s.thu.state := by
  simp [tellLamp]

@[simp] theorem changeLamp_frame (l : Lamp) (new : LampState) (cause : LampCause) (s : State) :
    (changeLamp l new cause s).pending = s.pending ∧ (changeLamp l new cause s).pins = s.pins ∧
    (changeLamp l new cause s).power = s.power ∧ (changeLamp l new cause s).free = s.free ∧
    (changeLamp l new cause s).mq = s.mq ∧ (changeLamp l new cause s).tgc = s.tgc ∧
    (changeLamp l new cause s).cdec = s.cdec ∧ (changeLamp l new cause s).shc = s.shc ∧
    (changeLamp l new cause s).tac = s.tac ∧ (changeLamp l new cause s).rrx = s.rrx ∧
    (changeLamp l new cause s).retained.position = s.retained.position ∧
    (changeLamp l new cause s).retained.map = s.retained.map ∧
    (changeLamp l new cause s).retained.cues = s.retained.cues ∧
    (changeLamp l new cause s).retained.user = s.retained.user ∧
    (changeLamp l new cause s).retained.response = s.retained.response ∧
    (changeLamp l new cause s).retained.keymap = s.retained.keymap ∧
    (changeLamp l new cause s).retained.params = s.retained.params ∧
    (changeLamp l new cause s).flt.faultOn = s.flt.faultOn ∧ (changeLamp l new cause s).flt.eventOn = s.flt.eventOn ∧
    (changeLamp l new cause s).flt.switchOn = s.flt.switchOn ∧
    (changeLamp l new cause s).flt.seconds = s.flt.seconds ∧ (changeLamp l new cause s).flt.timer = s.flt.timer ∧
    (changeLamp l new cause s).flt.first = s.flt.first ∧ (changeLamp l new cause s).flt.opener = s.flt.opener ∧
    (changeLamp l new cause s).flt.causes = s.flt.causes ∧
    (changeLamp l new cause s).thu.effective = s.thu.effective ∧
    (changeLamp l new cause s).thu.seeing = s.thu.seeing ∧ (changeLamp l new cause s).thu.reading = s.thu.reading ∧
    (changeLamp l new cause s).thu.state = s.thu.state := by
  simp [changeLamp]

@[simp] theorem endStrike_frame (s : State) :
    (endStrike s).pending = s.pending ∧ (endStrike s).pins = s.pins ∧ (endStrike s).power = s.power ∧
    (endStrike s).free = s.free ∧ (endStrike s).mq = s.mq ∧ (endStrike s).tgc = s.tgc ∧ (endStrike s).thu = s.thu ∧
    (endStrike s).cdec = s.cdec ∧ (endStrike s).shc = s.shc ∧ (endStrike s).tac = s.tac ∧ (endStrike s).rrx = s.rrx ∧
    (endStrike s).fe = s.fe ∧ (endStrike s).retained = s.retained ∧ (endStrike s).link = s.link ∧
    (endStrike s).flt = s.flt := by
  simp [endStrike]

@[simp] theorem startPreheat_frame (s : State) :
    (startPreheat s).pending = s.pending ∧ (startPreheat s).pins = s.pins ∧ (startPreheat s).power = s.power ∧
    (startPreheat s).free = s.free ∧ (startPreheat s).mq = s.mq ∧ (startPreheat s).tgc = s.tgc ∧
    (startPreheat s).cdec = s.cdec ∧ (startPreheat s).shc = s.shc ∧ (startPreheat s).tac = s.tac ∧
    (startPreheat s).rrx = s.rrx ∧ (startPreheat s).retained.position = s.retained.position ∧
    (startPreheat s).retained.map = s.retained.map ∧ (startPreheat s).retained.cues = s.retained.cues ∧
    (startPreheat s).retained.user = s.retained.user ∧ (startPreheat s).retained.response = s.retained.response ∧
    (startPreheat s).retained.keymap = s.retained.keymap ∧ (startPreheat s).retained.params = s.retained.params ∧
    (startPreheat s).flt.faultOn = s.flt.faultOn ∧ (startPreheat s).flt.eventOn = s.flt.eventOn ∧
    (startPreheat s).flt.switchOn = s.flt.switchOn ∧ (startPreheat s).flt.seconds = s.flt.seconds ∧
    (startPreheat s).flt.timer = s.flt.timer ∧ (startPreheat s).flt.first = s.flt.first ∧
    (startPreheat s).flt.opener = s.flt.opener ∧ (startPreheat s).flt.causes = s.flt.causes ∧
    (startPreheat s).thu.effective = s.thu.effective ∧ (startPreheat s).thu.seeing = s.thu.seeing ∧
    (startPreheat s).thu.reading = s.thu.reading ∧ (startPreheat s).thu.state = s.thu.state := by
  unfold startPreheat; dsimp only; split <;> simp

@[simp] theorem turretArrived_frame (l : Lamp) (s : State) :
    (turretArrived l s).pending = s.pending ∧ (turretArrived l s).pins = s.pins ∧
    (turretArrived l s).power = s.power ∧ (turretArrived l s).free = s.free ∧ (turretArrived l s).mq = s.mq ∧
    (turretArrived l s).tgc = s.tgc ∧ (turretArrived l s).cdec = s.cdec ∧ (turretArrived l s).shc = s.shc ∧
    (turretArrived l s).tac = s.tac ∧ (turretArrived l s).rrx = s.rrx ∧
    (turretArrived l s).retained.position = s.retained.position ∧ (turretArrived l s).retained.map = s.retained.map ∧
    (turretArrived l s).retained.cues = s.retained.cues ∧ (turretArrived l s).retained.user = s.retained.user ∧
    (turretArrived l s).retained.response = s.retained.response ∧
    (turretArrived l s).retained.keymap = s.retained.keymap ∧
    (turretArrived l s).retained.params = s.retained.params ∧ (turretArrived l s).flt.faultOn = s.flt.faultOn ∧
    (turretArrived l s).flt.eventOn = s.flt.eventOn ∧ (turretArrived l s).flt.switchOn = s.flt.switchOn ∧
    (turretArrived l s).flt.seconds = s.flt.seconds ∧ (turretArrived l s).flt.timer = s.flt.timer ∧
    (turretArrived l s).flt.first = s.flt.first ∧ (turretArrived l s).flt.opener = s.flt.opener ∧
    (turretArrived l s).flt.causes = s.flt.causes ∧ (turretArrived l s).thu.effective = s.thu.effective ∧
    (turretArrived l s).thu.seeing = s.thu.seeing ∧ (turretArrived l s).thu.reading = s.thu.reading ∧
    (turretArrived l s).thu.state = s.thu.state := by
  unfold turretArrived; dsimp only; split <;> simp

@[simp] theorem turnTurret_frame (l : Lamp) (follow : Bool) (s : State) :
    (turnTurret l follow s).pending = s.pending ∧ (turnTurret l follow s).pins = s.pins ∧
    (turnTurret l follow s).power = s.power ∧ (turnTurret l follow s).free = s.free ∧
    (turnTurret l follow s).mq = s.mq ∧ (turnTurret l follow s).tgc = s.tgc ∧ (turnTurret l follow s).cdec = s.cdec ∧
    (turnTurret l follow s).shc = s.shc ∧ (turnTurret l follow s).tac = s.tac ∧ (turnTurret l follow s).rrx = s.rrx ∧
    (turnTurret l follow s).retained.position = s.retained.position ∧
    (turnTurret l follow s).retained.map = s.retained.map ∧ (turnTurret l follow s).retained.cues = s.retained.cues ∧
    (turnTurret l follow s).retained.user = s.retained.user ∧
    (turnTurret l follow s).retained.response = s.retained.response ∧
    (turnTurret l follow s).retained.keymap = s.retained.keymap ∧
    (turnTurret l follow s).retained.params = s.retained.params ∧
    (turnTurret l follow s).flt.faultOn = s.flt.faultOn ∧ (turnTurret l follow s).flt.eventOn = s.flt.eventOn ∧
    (turnTurret l follow s).flt.switchOn = s.flt.switchOn ∧ (turnTurret l follow s).flt.seconds = s.flt.seconds ∧
    (turnTurret l follow s).flt.timer = s.flt.timer ∧ (turnTurret l follow s).flt.first = s.flt.first ∧
    (turnTurret l follow s).flt.opener = s.flt.opener ∧ (turnTurret l follow s).flt.causes = s.flt.causes ∧
    (turnTurret l follow s).thu.effective = s.thu.effective ∧ (turnTurret l follow s).thu.seeing = s.thu.seeing ∧
    (turnTurret l follow s).thu.reading = s.thu.reading ∧ (turnTurret l follow s).thu.state = s.thu.state := by
  unfold turnTurret; dsimp only; split <;> simp

@[simp] theorem joinOrigin_frame (o : StrikeOrigin) (s : State) :
    (joinOrigin o s).pending = s.pending ∧ (joinOrigin o s).pins = s.pins ∧ (joinOrigin o s).power = s.power ∧
    (joinOrigin o s).free = s.free ∧ (joinOrigin o s).mq = s.mq ∧ (joinOrigin o s).tgc = s.tgc ∧
    (joinOrigin o s).thu = s.thu ∧ (joinOrigin o s).cdec = s.cdec ∧ (joinOrigin o s).shc = s.shc ∧
    (joinOrigin o s).tac = s.tac ∧ (joinOrigin o s).rrx = s.rrx ∧ (joinOrigin o s).fe = s.fe ∧
    (joinOrigin o s).retained = s.retained ∧ (joinOrigin o s).link = s.link ∧ (joinOrigin o s).flt = s.flt := by
  simp [joinOrigin]

@[simp] theorem beginStrike_frame (o : StrikeOrigin) (s : State) :
    (beginStrike o s).pending = s.pending ∧ (beginStrike o s).pins = s.pins ∧ (beginStrike o s).power = s.power ∧
    (beginStrike o s).free = s.free ∧ (beginStrike o s).mq = s.mq ∧ (beginStrike o s).tgc = s.tgc ∧
    (beginStrike o s).cdec = s.cdec ∧ (beginStrike o s).shc = s.shc ∧ (beginStrike o s).tac = s.tac ∧
    (beginStrike o s).rrx = s.rrx ∧ (beginStrike o s).retained.position = s.retained.position ∧
    (beginStrike o s).retained.map = s.retained.map ∧ (beginStrike o s).retained.cues = s.retained.cues ∧
    (beginStrike o s).retained.user = s.retained.user ∧ (beginStrike o s).retained.response = s.retained.response ∧
    (beginStrike o s).retained.keymap = s.retained.keymap ∧ (beginStrike o s).retained.params = s.retained.params ∧
    (beginStrike o s).flt.faultOn = s.flt.faultOn ∧ (beginStrike o s).flt.eventOn = s.flt.eventOn ∧
    (beginStrike o s).flt.switchOn = s.flt.switchOn ∧ (beginStrike o s).flt.seconds = s.flt.seconds ∧
    (beginStrike o s).flt.timer = s.flt.timer ∧ (beginStrike o s).flt.first = s.flt.first ∧
    (beginStrike o s).thu.effective = s.thu.effective ∧ (beginStrike o s).thu.seeing = s.thu.seeing ∧
    (beginStrike o s).thu.reading = s.thu.reading ∧ (beginStrike o s).thu.state = s.thu.state := by
  unfold beginStrike; dsimp only; split <;> simp

@[simp] theorem requestStrike_frame (o : StrikeOrigin) (s : State) :
    (requestStrike o s).1.pending = s.pending ∧ (requestStrike o s).1.pins = s.pins ∧
    (requestStrike o s).1.power = s.power ∧ (requestStrike o s).1.free = s.free ∧ (requestStrike o s).1.rrx = s.rrx ∧
    (requestStrike o s).1.retained.position = s.retained.position ∧
    (requestStrike o s).1.retained.map = s.retained.map ∧ (requestStrike o s).1.retained.cues = s.retained.cues ∧
    (requestStrike o s).1.retained.response = s.retained.response ∧
    (requestStrike o s).1.retained.keymap = s.retained.keymap ∧
    (requestStrike o s).1.retained.params = s.retained.params ∧ (requestStrike o s).1.tgc.present = s.tgc.present ∧
    (requestStrike o s).1.tgc.phase = s.tgc.phase ∧ (requestStrike o s).1.tgc.gateLoad = s.tgc.gateLoad ∧
    (requestStrike o s).1.tgc.blank = s.tgc.blank ∧ (requestStrike o s).1.tgc.lift = s.tgc.lift ∧
    (requestStrike o s).1.tgc.motor = s.tgc.motor ∧ (requestStrike o s).1.tgc.timer = s.tgc.timer ∧
    (requestStrike o s).1.shc.pointer = s.shc.pointer ∧ (requestStrike o s).1.shc.startSlot = s.shc.startSlot ∧
    (requestStrike o s).1.thu.effective = s.thu.effective ∧ (requestStrike o s).1.thu.seeing = s.thu.seeing ∧
    (requestStrike o s).1.thu.reading = s.thu.reading ∧ (requestStrike o s).1.thu.state = s.thu.state := by
  unfold requestStrike; dsimp only; repeat' split
  all_goals first | rfl | simp

@[simp] theorem changeover_frame (failed : Lamp) (s : State) :
    (changeover failed s).pending = s.pending ∧ (changeover failed s).pins = s.pins ∧
    (changeover failed s).power = s.power ∧ (changeover failed s).free = s.free ∧ (changeover failed s).rrx = s.rrx ∧
    (changeover failed s).retained.position = s.retained.position ∧
    (changeover failed s).retained.map = s.retained.map ∧ (changeover failed s).retained.cues = s.retained.cues ∧
    (changeover failed s).retained.response = s.retained.response ∧
    (changeover failed s).retained.keymap = s.retained.keymap ∧
    (changeover failed s).retained.params = s.retained.params ∧ (changeover failed s).tgc.present = s.tgc.present ∧
    (changeover failed s).tgc.phase = s.tgc.phase ∧ (changeover failed s).tgc.gateLoad = s.tgc.gateLoad ∧
    (changeover failed s).tgc.blank = s.tgc.blank ∧ (changeover failed s).tgc.lift = s.tgc.lift ∧
    (changeover failed s).tgc.motor = s.tgc.motor ∧ (changeover failed s).tgc.timer = s.tgc.timer ∧
    (changeover failed s).shc.pointer = s.shc.pointer ∧ (changeover failed s).shc.startSlot = s.shc.startSlot ∧
    (changeover failed s).thu.effective = s.thu.effective ∧ (changeover failed s).thu.seeing = s.thu.seeing ∧
    (changeover failed s).thu.reading = s.thu.reading ∧ (changeover failed s).thu.state = s.thu.state := by
  unfold changeover; dsimp only; split <;> simp

@[simp] theorem strikeSucceeds_frame (s : State) :
    (strikeSucceeds s).pending = s.pending ∧ (strikeSucceeds s).pins = s.pins ∧ (strikeSucceeds s).power = s.power ∧
    (strikeSucceeds s).free = s.free ∧ (strikeSucceeds s).retained.position = s.retained.position ∧
    (strikeSucceeds s).retained.map = s.retained.map ∧ (strikeSucceeds s).retained.cues = s.retained.cues ∧
    (strikeSucceeds s).retained.response = s.retained.response ∧
    (strikeSucceeds s).retained.keymap = s.retained.keymap ∧ (strikeSucceeds s).retained.params = s.retained.params ∧
    (strikeSucceeds s).tgc.present = s.tgc.present ∧ (strikeSucceeds s).tgc.phase = s.tgc.phase ∧
    (strikeSucceeds s).tgc.gateLoad = s.tgc.gateLoad ∧ (strikeSucceeds s).tgc.blank = s.tgc.blank ∧
    (strikeSucceeds s).tgc.lift = s.tgc.lift ∧ (strikeSucceeds s).tgc.motor = s.tgc.motor ∧
    (strikeSucceeds s).tgc.timer = s.tgc.timer ∧ (strikeSucceeds s).shc.startSlot = s.shc.startSlot ∧
    (strikeSucceeds s).thu.effective = s.thu.effective ∧ (strikeSucceeds s).thu.seeing = s.thu.seeing ∧
    (strikeSucceeds s).thu.reading = s.thu.reading ∧ (strikeSucceeds s).thu.state = s.thu.state := by
  unfold strikeSucceeds; dsimp only; split <;> simp

@[simp] theorem strikeFails_frame (s : State) :
    (strikeFails s).pending = s.pending ∧ (strikeFails s).pins = s.pins ∧ (strikeFails s).power = s.power ∧
    (strikeFails s).free = s.free ∧ (strikeFails s).rrx = s.rrx ∧
    (strikeFails s).retained.position = s.retained.position ∧ (strikeFails s).retained.map = s.retained.map ∧
    (strikeFails s).retained.cues = s.retained.cues ∧ (strikeFails s).retained.response = s.retained.response ∧
    (strikeFails s).retained.keymap = s.retained.keymap ∧ (strikeFails s).retained.params = s.retained.params ∧
    (strikeFails s).tgc.present = s.tgc.present ∧ (strikeFails s).tgc.phase = s.tgc.phase ∧
    (strikeFails s).tgc.gateLoad = s.tgc.gateLoad ∧ (strikeFails s).tgc.blank = s.tgc.blank ∧
    (strikeFails s).tgc.lift = s.tgc.lift ∧ (strikeFails s).tgc.motor = s.tgc.motor ∧
    (strikeFails s).tgc.timer = s.tgc.timer ∧ (strikeFails s).shc.pointer = s.shc.pointer ∧
    (strikeFails s).shc.startSlot = s.shc.startSlot ∧ (strikeFails s).thu.effective = s.thu.effective ∧
    (strikeFails s).thu.seeing = s.thu.seeing ∧ (strikeFails s).thu.reading = s.thu.reading ∧
    (strikeFails s).thu.state = s.thu.state := by
  unfold strikeFails; dsimp only; split <;> simp

@[simp] theorem abortStrike_frame (cause : LampCause) (s : State) :
    (abortStrike cause s).pending = s.pending ∧ (abortStrike cause s).pins = s.pins ∧
    (abortStrike cause s).power = s.power ∧ (abortStrike cause s).free = s.free ∧ (abortStrike cause s).mq = s.mq ∧
    (abortStrike cause s).tgc = s.tgc ∧ (abortStrike cause s).cdec = s.cdec ∧ (abortStrike cause s).shc = s.shc ∧
    (abortStrike cause s).tac = s.tac ∧ (abortStrike cause s).rrx = s.rrx ∧
    (abortStrike cause s).retained.position = s.retained.position ∧
    (abortStrike cause s).retained.map = s.retained.map ∧ (abortStrike cause s).retained.cues = s.retained.cues ∧
    (abortStrike cause s).retained.user = s.retained.user ∧
    (abortStrike cause s).retained.response = s.retained.response ∧
    (abortStrike cause s).retained.keymap = s.retained.keymap ∧
    (abortStrike cause s).retained.params = s.retained.params ∧ (abortStrike cause s).flt.faultOn = s.flt.faultOn ∧
    (abortStrike cause s).flt.eventOn = s.flt.eventOn ∧ (abortStrike cause s).flt.switchOn = s.flt.switchOn ∧
    (abortStrike cause s).flt.seconds = s.flt.seconds ∧ (abortStrike cause s).flt.timer = s.flt.timer ∧
    (abortStrike cause s).flt.first = s.flt.first ∧ (abortStrike cause s).flt.opener = s.flt.opener ∧
    (abortStrike cause s).flt.causes = s.flt.causes ∧ (abortStrike cause s).thu.effective = s.thu.effective ∧
    (abortStrike cause s).thu.seeing = s.thu.seeing ∧ (abortStrike cause s).thu.reading = s.thu.reading ∧
    (abortStrike cause s).thu.state = s.thu.state := by
  unfold abortStrike; dsimp only; split <;> simp

@[simp] theorem lampOff_frame (cause : LampCause) (s : State) :
    (lampOff cause s).1.pending = s.pending ∧ (lampOff cause s).1.pins = s.pins ∧
    (lampOff cause s).1.power = s.power ∧ (lampOff cause s).1.free = s.free ∧ (lampOff cause s).1.mq = s.mq ∧
    (lampOff cause s).1.tgc = s.tgc ∧ (lampOff cause s).1.cdec = s.cdec ∧ (lampOff cause s).1.shc = s.shc ∧
    (lampOff cause s).1.tac = s.tac ∧ (lampOff cause s).1.rrx = s.rrx ∧
    (lampOff cause s).1.retained.position = s.retained.position ∧ (lampOff cause s).1.retained.map = s.retained.map ∧
    (lampOff cause s).1.retained.cues = s.retained.cues ∧ (lampOff cause s).1.retained.user = s.retained.user ∧
    (lampOff cause s).1.retained.response = s.retained.response ∧
    (lampOff cause s).1.retained.keymap = s.retained.keymap ∧
    (lampOff cause s).1.retained.params = s.retained.params ∧ (lampOff cause s).1.flt.faultOn = s.flt.faultOn ∧
    (lampOff cause s).1.flt.eventOn = s.flt.eventOn ∧ (lampOff cause s).1.flt.switchOn = s.flt.switchOn ∧
    (lampOff cause s).1.flt.seconds = s.flt.seconds ∧ (lampOff cause s).1.flt.timer = s.flt.timer ∧
    (lampOff cause s).1.flt.first = s.flt.first ∧ (lampOff cause s).1.flt.opener = s.flt.opener ∧
    (lampOff cause s).1.flt.causes = s.flt.causes ∧ (lampOff cause s).1.thu.effective = s.thu.effective ∧
    (lampOff cause s).1.thu.seeing = s.thu.seeing ∧ (lampOff cause s).1.thu.reading = s.thu.reading ∧
    (lampOff cause s).1.thu.state = s.thu.state := by
  simp only [lampOff]; repeat' split
  all_goals first | rfl | simp

@[simp] theorem burnOut_frame (l : Lamp) (s : State) :
    (burnOut l s).pending = s.pending ∧ (burnOut l s).pins = s.pins ∧ (burnOut l s).power = s.power ∧
    (burnOut l s).free = s.free ∧ (burnOut l s).rrx = s.rrx ∧ (burnOut l s).retained.position = s.retained.position ∧
    (burnOut l s).retained.map = s.retained.map ∧ (burnOut l s).retained.cues = s.retained.cues ∧
    (burnOut l s).retained.response = s.retained.response ∧ (burnOut l s).retained.keymap = s.retained.keymap ∧
    (burnOut l s).retained.params = s.retained.params ∧ (burnOut l s).tgc.present = s.tgc.present ∧
    (burnOut l s).tgc.phase = s.tgc.phase ∧ (burnOut l s).tgc.gateLoad = s.tgc.gateLoad ∧
    (burnOut l s).tgc.blank = s.tgc.blank ∧ (burnOut l s).tgc.lift = s.tgc.lift ∧
    (burnOut l s).tgc.motor = s.tgc.motor ∧ (burnOut l s).tgc.timer = s.tgc.timer ∧
    (burnOut l s).shc.pointer = s.shc.pointer ∧ (burnOut l s).shc.startSlot = s.shc.startSlot ∧
    (burnOut l s).thu.effective = s.thu.effective ∧ (burnOut l s).thu.seeing = s.thu.seeing ∧
    (burnOut l s).thu.reading = s.thu.reading ∧ (burnOut l s).thu.state = s.thu.state := by
  simp [burnOut]

@[simp] theorem lampKey_frame (s : State) :
    (lampKey s).pending = s.pending ∧ (lampKey s).pins = s.pins ∧ (lampKey s).power = s.power ∧
    (lampKey s).free = s.free ∧ (lampKey s).rrx = s.rrx ∧ (lampKey s).retained.position = s.retained.position ∧
    (lampKey s).retained.map = s.retained.map ∧ (lampKey s).retained.cues = s.retained.cues ∧
    (lampKey s).retained.response = s.retained.response ∧ (lampKey s).retained.keymap = s.retained.keymap ∧
    (lampKey s).retained.params = s.retained.params ∧ (lampKey s).tgc.present = s.tgc.present ∧
    (lampKey s).tgc.phase = s.tgc.phase ∧ (lampKey s).tgc.gateLoad = s.tgc.gateLoad ∧
    (lampKey s).tgc.blank = s.tgc.blank ∧ (lampKey s).tgc.lift = s.tgc.lift ∧ (lampKey s).tgc.motor = s.tgc.motor ∧
    (lampKey s).tgc.timer = s.tgc.timer ∧ (lampKey s).shc.pointer = s.shc.pointer ∧
    (lampKey s).shc.startSlot = s.shc.startSlot ∧ (lampKey s).thu.effective = s.thu.effective ∧
    (lampKey s).thu.seeing = s.thu.seeing ∧ (lampKey s).thu.reading = s.thu.reading ∧
    (lampKey s).thu.state = s.thu.state := by
  simp only [lampKey]; repeat' split
  all_goals first | rfl | simp

@[simp] theorem updCycle_frame (f : CycleRecord → CycleRecord) (s : State) :
    (updCycle f s).pending = s.pending ∧ (updCycle f s).pins = s.pins ∧ (updCycle f s).power = s.power ∧
    (updCycle f s).free = s.free ∧ (updCycle f s).mq = s.mq ∧ (updCycle f s).ltc = s.ltc ∧
    (updCycle f s).thu = s.thu ∧ (updCycle f s).cdec = s.cdec ∧ (updCycle f s).shc = s.shc ∧
    (updCycle f s).tac = s.tac ∧ (updCycle f s).rrx = s.rrx ∧ (updCycle f s).fe = s.fe ∧
    (updCycle f s).retained = s.retained ∧ (updCycle f s).link = s.link ∧ (updCycle f s).flt = s.flt ∧
    (updCycle f s).tgc.present = s.tgc.present ∧ (updCycle f s).tgc.phase = s.tgc.phase ∧
    (updCycle f s).tgc.gateLoad = s.tgc.gateLoad ∧ (updCycle f s).tgc.blank = s.tgc.blank ∧
    (updCycle f s).tgc.lift = s.tgc.lift ∧ (updCycle f s).tgc.motor = s.tgc.motor ∧
    (updCycle f s).tgc.timer = s.tgc.timer := by
  simp [updCycle]

@[simp] theorem setPosition_frame (p : Position) (s : State) :
    (setPosition p s).pending = s.pending ∧ (setPosition p s).pins = s.pins ∧ (setPosition p s).power = s.power ∧
    (setPosition p s).free = s.free ∧ (setPosition p s).mq = s.mq ∧ (setPosition p s).tgc = s.tgc ∧
    (setPosition p s).ltc = s.ltc ∧ (setPosition p s).thu = s.thu ∧ (setPosition p s).cdec = s.cdec ∧
    (setPosition p s).shc = s.shc ∧ (setPosition p s).tac = s.tac ∧ (setPosition p s).rrx = s.rrx ∧
    (setPosition p s).fe = s.fe ∧ (setPosition p s).link = s.link ∧ (setPosition p s).flt = s.flt ∧
    (setPosition p s).retained.map = s.retained.map ∧ (setPosition p s).retained.lampA = s.retained.lampA ∧
    (setPosition p s).retained.lampB = s.retained.lampB ∧ (setPosition p s).retained.cues = s.retained.cues ∧
    (setPosition p s).retained.user = s.retained.user ∧ (setPosition p s).retained.response = s.retained.response ∧
    (setPosition p s).retained.keymap = s.retained.keymap ∧ (setPosition p s).retained.params = s.retained.params := by
  simp [setPosition]

@[simp] theorem setMap_frame (p : Slot) (o : Occupancy) (s : State) :
    (setMap p o s).pending = s.pending ∧ (setMap p o s).pins = s.pins ∧ (setMap p o s).power = s.power ∧
    (setMap p o s).free = s.free ∧ (setMap p o s).mq = s.mq ∧ (setMap p o s).tgc = s.tgc ∧
    (setMap p o s).ltc = s.ltc ∧ (setMap p o s).thu = s.thu ∧ (setMap p o s).cdec = s.cdec ∧
    (setMap p o s).shc = s.shc ∧ (setMap p o s).tac = s.tac ∧ (setMap p o s).rrx = s.rrx ∧ (setMap p o s).fe = s.fe ∧
    (setMap p o s).link = s.link ∧ (setMap p o s).flt = s.flt ∧
    (setMap p o s).retained.position = s.retained.position ∧ (setMap p o s).retained.lampA = s.retained.lampA ∧
    (setMap p o s).retained.lampB = s.retained.lampB ∧ (setMap p o s).retained.cues = s.retained.cues ∧
    (setMap p o s).retained.user = s.retained.user ∧ (setMap p o s).retained.response = s.retained.response ∧
    (setMap p o s).retained.keymap = s.retained.keymap ∧ (setMap p o s).retained.params = s.retained.params := by
  simp only [setMap]; repeat' split
  all_goals first | rfl | simp

@[simp] theorem forgetTray_frame (s : State) :
    (forgetTray s).pending = s.pending ∧ (forgetTray s).pins = s.pins ∧ (forgetTray s).power = s.power ∧
    (forgetTray s).free = s.free ∧ (forgetTray s).mq = s.mq ∧ (forgetTray s).tgc = s.tgc ∧
    (forgetTray s).ltc = s.ltc ∧ (forgetTray s).thu = s.thu ∧ (forgetTray s).cdec = s.cdec ∧
    (forgetTray s).shc = s.shc ∧ (forgetTray s).tac = s.tac ∧ (forgetTray s).rrx = s.rrx ∧ (forgetTray s).fe = s.fe ∧
    (forgetTray s).link = s.link ∧ (forgetTray s).flt = s.flt ∧ (forgetTray s).retained.lampA = s.retained.lampA ∧
    (forgetTray s).retained.lampB = s.retained.lampB ∧ (forgetTray s).retained.cues = s.retained.cues ∧
    (forgetTray s).retained.user = s.retained.user ∧ (forgetTray s).retained.response = s.retained.response ∧
    (forgetTray s).retained.keymap = s.retained.keymap ∧ (forgetTray s).retained.params = s.retained.params := by
  simp [forgetTray]

@[simp] theorem activeCancelled_frame (reason : CancelReason) (m : Motion) (s : State) :
    (activeCancelled reason m s).pending = s.pending ∧ (activeCancelled reason m s).pins = s.pins ∧
    (activeCancelled reason m s).power = s.power ∧ (activeCancelled reason m s).free = s.free ∧
    (activeCancelled reason m s).mq = s.mq ∧ (activeCancelled reason m s).tgc = s.tgc ∧
    (activeCancelled reason m s).ltc = s.ltc ∧ (activeCancelled reason m s).thu = s.thu ∧
    (activeCancelled reason m s).cdec = s.cdec ∧ (activeCancelled reason m s).shc = s.shc ∧
    (activeCancelled reason m s).tac = s.tac ∧ (activeCancelled reason m s).rrx = s.rrx ∧
    (activeCancelled reason m s).fe = s.fe ∧ (activeCancelled reason m s).retained = s.retained ∧
    (activeCancelled reason m s).flt.faultOn = s.flt.faultOn ∧
    (activeCancelled reason m s).flt.eventOn = s.flt.eventOn ∧
    (activeCancelled reason m s).flt.switchOn = s.flt.switchOn ∧
    (activeCancelled reason m s).flt.seconds = s.flt.seconds ∧ (activeCancelled reason m s).flt.timer = s.flt.timer ∧
    (activeCancelled reason m s).flt.first = s.flt.first ∧ (activeCancelled reason m s).flt.opener = s.flt.opener ∧
    (activeCancelled reason m s).flt.causes = s.flt.causes := by
  simp [activeCancelled]

@[simp] theorem flushQueue_frame (reason : CancelReason) (s : State) :
    (flushQueue reason s).pending = s.pending ∧ (flushQueue reason s).pins = s.pins ∧
    (flushQueue reason s).power = s.power ∧ (flushQueue reason s).free = s.free ∧ (flushQueue reason s).tgc = s.tgc ∧
    (flushQueue reason s).ltc = s.ltc ∧ (flushQueue reason s).thu = s.thu ∧ (flushQueue reason s).cdec = s.cdec ∧
    (flushQueue reason s).shc = s.shc ∧ (flushQueue reason s).tac = s.tac ∧ (flushQueue reason s).rrx = s.rrx ∧
    (flushQueue reason s).fe = s.fe ∧ (flushQueue reason s).retained = s.retained ∧
    (flushQueue reason s).flt.faultOn = s.flt.faultOn ∧ (flushQueue reason s).flt.eventOn = s.flt.eventOn ∧
    (flushQueue reason s).flt.switchOn = s.flt.switchOn ∧ (flushQueue reason s).flt.seconds = s.flt.seconds ∧
    (flushQueue reason s).flt.timer = s.flt.timer ∧ (flushQueue reason s).flt.first = s.flt.first ∧
    (flushQueue reason s).flt.opener = s.flt.opener ∧ (flushQueue reason s).flt.causes = s.flt.causes := by
  refine ⟨?_, ?_, ?_, ?_, ?_, ?_, ?_, ?_, ?_, ?_, ?_, ?_, ?_, ?_, ?_, ?_, ?_, ?_, ?_, ?_, ?_⟩
  · unfold flushQueue; dsimp only; rw [foldl_keeps (fun s : State => s.pending)] <;> first | (intros; split <;> simp; done) | simp
  · unfold flushQueue; dsimp only; rw [foldl_keeps (fun s : State => s.pins)] <;> first | (intros; split <;> simp; done) | simp
  · unfold flushQueue; dsimp only; rw [foldl_keeps (fun s : State => s.power)] <;> first | (intros; split <;> simp; done) | simp
  · unfold flushQueue; dsimp only; rw [foldl_keeps (fun s : State => s.free)] <;> first | (intros; split <;> simp; done) | simp
  · unfold flushQueue; dsimp only; rw [foldl_keeps (fun s : State => s.tgc)] <;> first | (intros; split <;> simp; done) | simp
  · unfold flushQueue; dsimp only; rw [foldl_keeps (fun s : State => s.ltc)] <;> first | (intros; split <;> simp; done) | simp
  · unfold flushQueue; dsimp only; rw [foldl_keeps (fun s : State => s.thu)] <;> first | (intros; split <;> simp; done) | simp
  · unfold flushQueue; dsimp only; rw [foldl_keeps (fun s : State => s.cdec)] <;> first | (intros; split <;> simp; done) | simp
  · unfold flushQueue; dsimp only; rw [foldl_keeps (fun s : State => s.shc)] <;> first | (intros; split <;> simp; done) | simp
  · unfold flushQueue; dsimp only; rw [foldl_keeps (fun s : State => s.tac)] <;> first | (intros; split <;> simp; done) | simp
  · unfold flushQueue; dsimp only; rw [foldl_keeps (fun s : State => s.rrx)] <;> first | (intros; split <;> simp; done) | simp
  · unfold flushQueue; dsimp only; rw [foldl_keeps (fun s : State => s.fe)] <;> first | (intros; split <;> simp; done) | simp
  · unfold flushQueue; dsimp only; rw [foldl_keeps (fun s : State => s.retained)] <;> first | (intros; split <;> simp; done) | simp
  · unfold flushQueue; dsimp only; rw [foldl_keeps (fun s : State => s.flt.faultOn)] <;> first | (intros; split <;> simp; done) | simp
  · unfold flushQueue; dsimp only; rw [foldl_keeps (fun s : State => s.flt.eventOn)] <;> first | (intros; split <;> simp; done) | simp
  · unfold flushQueue; dsimp only; rw [foldl_keeps (fun s : State => s.flt.switchOn)] <;> first | (intros; split <;> simp; done) | simp
  · unfold flushQueue; dsimp only; rw [foldl_keeps (fun s : State => s.flt.seconds)] <;> first | (intros; split <;> simp; done) | simp
  · unfold flushQueue; dsimp only; rw [foldl_keeps (fun s : State => s.flt.timer)] <;> first | (intros; split <;> simp; done) | simp
  · unfold flushQueue; dsimp only; rw [foldl_keeps (fun s : State => s.flt.first)] <;> first | (intros; split <;> simp; done) | simp
  · unfold flushQueue; dsimp only; rw [foldl_keeps (fun s : State => s.flt.opener)] <;> first | (intros; split <;> simp; done) | simp
  · unfold flushQueue; dsimp only; rw [foldl_keeps (fun s : State => s.flt.causes)] <;> first | (intros; split <;> simp; done) | simp

@[simp] theorem enterJammed_frame (s : State) :
    (enterJammed s).pending = s.pending ∧ (enterJammed s).pins = s.pins ∧ (enterJammed s).power = s.power ∧
    (enterJammed s).free = s.free ∧ (enterJammed s).ltc = s.ltc ∧ (enterJammed s).thu = s.thu ∧
    (enterJammed s).retained.position = s.retained.position ∧ (enterJammed s).retained.map = s.retained.map ∧
    (enterJammed s).retained.lampA = s.retained.lampA ∧ (enterJammed s).retained.lampB = s.retained.lampB ∧
    (enterJammed s).retained.cues = s.retained.cues ∧ (enterJammed s).retained.response = s.retained.response ∧
    (enterJammed s).retained.keymap = s.retained.keymap ∧ (enterJammed s).retained.params = s.retained.params ∧
    (enterJammed s).fe.level = s.fe.level ∧ (enterJammed s).fe.timer = s.fe.timer ∧
    (enterJammed s).fe.pendingResponse = s.fe.pendingResponse ∧ (enterJammed s).fe.applied = s.fe.applied ∧
    (enterJammed s).fe.dimmer = s.fe.dimmer ∧ (enterJammed s).shc.startSlot = s.shc.startSlot := by
  simp [enterJammed]

@[simp] theorem completeCycle_frame (c : CycleRecord) (s : State) :
    (completeCycle c s).pending = s.pending ∧ (completeCycle c s).pins = s.pins ∧
    (completeCycle c s).power = s.power ∧ (completeCycle c s).free = s.free ∧ (completeCycle c s).ltc = s.ltc ∧
    (completeCycle c s).thu = s.thu ∧ (completeCycle c s).retained.position = s.retained.position ∧
    (completeCycle c s).retained.map = s.retained.map ∧ (completeCycle c s).retained.lampA = s.retained.lampA ∧
    (completeCycle c s).retained.lampB = s.retained.lampB ∧ (completeCycle c s).retained.cues = s.retained.cues ∧
    (completeCycle c s).retained.response = s.retained.response ∧
    (completeCycle c s).retained.keymap = s.retained.keymap ∧
    (completeCycle c s).retained.params = s.retained.params ∧ (completeCycle c s).fe.level = s.fe.level ∧
    (completeCycle c s).fe.timer = s.fe.timer ∧ (completeCycle c s).fe.pendingResponse = s.fe.pendingResponse ∧
    (completeCycle c s).fe.applied = s.fe.applied ∧ (completeCycle c s).fe.dimmer = s.fe.dimmer ∧
    (completeCycle c s).shc.startSlot = s.shc.startSlot := by
  unfold completeCycle; dsimp only; repeat' split
  all_goals first | rfl | simp

@[simp] theorem enterClosing_frame (s : State) :
    (enterClosing s).pending = s.pending ∧ (enterClosing s).pins = s.pins ∧ (enterClosing s).power = s.power ∧
    (enterClosing s).free = s.free ∧ (enterClosing s).mq = s.mq ∧ (enterClosing s).ltc = s.ltc ∧
    (enterClosing s).thu = s.thu ∧ (enterClosing s).cdec = s.cdec ∧ (enterClosing s).shc = s.shc ∧
    (enterClosing s).tac = s.tac ∧ (enterClosing s).rrx = s.rrx ∧ (enterClosing s).fe = s.fe ∧
    (enterClosing s).retained = s.retained ∧ (enterClosing s).link = s.link ∧ (enterClosing s).flt = s.flt ∧
    (enterClosing s).tgc.present = s.tgc.present ∧ (enterClosing s).tgc.gateLoad = s.tgc.gateLoad ∧
    (enterClosing s).tgc.blank = s.tgc.blank ∧ (enterClosing s).tgc.lift = s.tgc.lift ∧
    (enterClosing s).tgc.motor = s.tgc.motor := by
  simp [enterClosing]

@[simp] theorem seatSucceeded_frame (s : State) :
    (seatSucceeded s).pending = s.pending ∧ (seatSucceeded s).pins = s.pins ∧ (seatSucceeded s).power = s.power ∧
    (seatSucceeded s).free = s.free ∧ (seatSucceeded s).ltc = s.ltc ∧ (seatSucceeded s).thu = s.thu ∧
    (seatSucceeded s).retained.position = s.retained.position ∧ (seatSucceeded s).retained.map = s.retained.map ∧
    (seatSucceeded s).retained.lampA = s.retained.lampA ∧ (seatSucceeded s).retained.lampB = s.retained.lampB ∧
    (seatSucceeded s).retained.cues = s.retained.cues ∧ (seatSucceeded s).retained.response = s.retained.response ∧
    (seatSucceeded s).retained.keymap = s.retained.keymap ∧ (seatSucceeded s).retained.params = s.retained.params ∧
    (seatSucceeded s).fe.level = s.fe.level ∧ (seatSucceeded s).fe.timer = s.fe.timer ∧
    (seatSucceeded s).fe.pendingResponse = s.fe.pendingResponse ∧ (seatSucceeded s).fe.applied = s.fe.applied ∧
    (seatSucceeded s).fe.dimmer = s.fe.dimmer ∧ (seatSucceeded s).shc.startSlot = s.shc.startSlot := by
  unfold seatSucceeded; dsimp only; repeat' split
  all_goals first | rfl | simp

@[simp] theorem enterSeating_frame (s : State) :
    (enterSeating s).pending = s.pending ∧ (enterSeating s).pins = s.pins ∧ (enterSeating s).power = s.power ∧
    (enterSeating s).free = s.free ∧ (enterSeating s).ltc = s.ltc ∧ (enterSeating s).thu = s.thu ∧
    (enterSeating s).retained.position = s.retained.position ∧ (enterSeating s).retained.map = s.retained.map ∧
    (enterSeating s).retained.lampA = s.retained.lampA ∧ (enterSeating s).retained.lampB = s.retained.lampB ∧
    (enterSeating s).retained.cues = s.retained.cues ∧ (enterSeating s).retained.response = s.retained.response ∧
    (enterSeating s).retained.keymap = s.retained.keymap ∧ (enterSeating s).retained.params = s.retained.params ∧
    (enterSeating s).fe.level = s.fe.level ∧ (enterSeating s).fe.timer = s.fe.timer ∧
    (enterSeating s).fe.pendingResponse = s.fe.pendingResponse ∧ (enterSeating s).fe.applied = s.fe.applied ∧
    (enterSeating s).fe.dimmer = s.fe.dimmer ∧ (enterSeating s).shc.startSlot = s.shc.startSlot := by
  unfold enterSeating; dsimp only; split <;> simp

@[simp] theorem dropFound_frame (s : State) :
    (dropFound s).pending = s.pending ∧ (dropFound s).pins = s.pins ∧ (dropFound s).power = s.power ∧
    (dropFound s).free = s.free ∧ (dropFound s).ltc = s.ltc ∧ (dropFound s).thu = s.thu ∧
    (dropFound s).retained.position = s.retained.position ∧ (dropFound s).retained.lampA = s.retained.lampA ∧
    (dropFound s).retained.lampB = s.retained.lampB ∧ (dropFound s).retained.cues = s.retained.cues ∧
    (dropFound s).retained.response = s.retained.response ∧ (dropFound s).retained.keymap = s.retained.keymap ∧
    (dropFound s).retained.params = s.retained.params ∧ (dropFound s).fe.level = s.fe.level ∧
    (dropFound s).fe.timer = s.fe.timer ∧ (dropFound s).fe.pendingResponse = s.fe.pendingResponse ∧
    (dropFound s).fe.applied = s.fe.applied ∧ (dropFound s).fe.dimmer = s.fe.dimmer ∧
    (dropFound s).shc.startSlot = s.shc.startSlot := by
  unfold dropFound; dsimp only; split <;> simp

@[simp] theorem enterDropping_frame (s : State) :
    (enterDropping s).pending = s.pending ∧ (enterDropping s).pins = s.pins ∧ (enterDropping s).power = s.power ∧
    (enterDropping s).free = s.free ∧ (enterDropping s).ltc = s.ltc ∧ (enterDropping s).thu = s.thu ∧
    (enterDropping s).retained.position = s.retained.position ∧ (enterDropping s).retained.lampA = s.retained.lampA ∧
    (enterDropping s).retained.lampB = s.retained.lampB ∧ (enterDropping s).retained.cues = s.retained.cues ∧
    (enterDropping s).retained.response = s.retained.response ∧
    (enterDropping s).retained.keymap = s.retained.keymap ∧ (enterDropping s).retained.params = s.retained.params ∧
    (enterDropping s).fe.level = s.fe.level ∧ (enterDropping s).fe.timer = s.fe.timer ∧
    (enterDropping s).fe.pendingResponse = s.fe.pendingResponse ∧ (enterDropping s).fe.applied = s.fe.applied ∧
    (enterDropping s).fe.dimmer = s.fe.dimmer ∧ (enterDropping s).shc.startSlot = s.shc.startSlot := by
  unfold enterDropping; dsimp only; split <;> simp

@[simp] theorem enterIndexing_frame (d : Direction) (steps : Nat) (s : State) :
    (enterIndexing d steps s).pending = s.pending ∧ (enterIndexing d steps s).pins = s.pins ∧
    (enterIndexing d steps s).power = s.power ∧ (enterIndexing d steps s).free = s.free ∧
    (enterIndexing d steps s).mq = s.mq ∧ (enterIndexing d steps s).ltc = s.ltc ∧
    (enterIndexing d steps s).thu = s.thu ∧ (enterIndexing d steps s).cdec = s.cdec ∧
    (enterIndexing d steps s).shc = s.shc ∧ (enterIndexing d steps s).tac = s.tac ∧
    (enterIndexing d steps s).rrx = s.rrx ∧ (enterIndexing d steps s).fe = s.fe ∧
    (enterIndexing d steps s).retained = s.retained ∧ (enterIndexing d steps s).link = s.link ∧
    (enterIndexing d steps s).flt = s.flt ∧ (enterIndexing d steps s).tgc.present = s.tgc.present ∧
    (enterIndexing d steps s).tgc.gateLoad = s.tgc.gateLoad ∧ (enterIndexing d steps s).tgc.blank = s.tgc.blank ∧
    (enterIndexing d steps s).tgc.lift = s.tgc.lift := by
  simp [enterIndexing]

@[simp] theorem enterHoming_frame (s : State) :
    (enterHoming s).pending = s.pending ∧ (enterHoming s).pins = s.pins ∧ (enterHoming s).power = s.power ∧
    (enterHoming s).free = s.free ∧ (enterHoming s).ltc = s.ltc ∧ (enterHoming s).thu = s.thu ∧
    (enterHoming s).retained.lampA = s.retained.lampA ∧ (enterHoming s).retained.lampB = s.retained.lampB ∧
    (enterHoming s).retained.cues = s.retained.cues ∧ (enterHoming s).retained.response = s.retained.response ∧
    (enterHoming s).retained.keymap = s.retained.keymap ∧ (enterHoming s).retained.params = s.retained.params ∧
    (enterHoming s).fe.level = s.fe.level ∧ (enterHoming s).fe.timer = s.fe.timer ∧
    (enterHoming s).fe.pendingResponse = s.fe.pendingResponse ∧ (enterHoming s).fe.applied = s.fe.applied ∧
    (enterHoming s).fe.dimmer = s.fe.dimmer ∧ (enterHoming s).shc.startSlot = s.shc.startSlot := by
  unfold enterHoming; dsimp only; split <;> simp

@[simp] theorem indexEntry_frame (c : CycleRecord) (s : State) :
    (indexEntry c s).pending = s.pending ∧ (indexEntry c s).pins = s.pins ∧ (indexEntry c s).power = s.power ∧
    (indexEntry c s).free = s.free ∧ (indexEntry c s).ltc = s.ltc ∧ (indexEntry c s).thu = s.thu ∧
    (indexEntry c s).retained.lampA = s.retained.lampA ∧ (indexEntry c s).retained.lampB = s.retained.lampB ∧
    (indexEntry c s).retained.cues = s.retained.cues ∧ (indexEntry c s).retained.response = s.retained.response ∧
    (indexEntry c s).retained.keymap = s.retained.keymap ∧ (indexEntry c s).retained.params = s.retained.params ∧
    (indexEntry c s).fe.level = s.fe.level ∧ (indexEntry c s).fe.timer = s.fe.timer ∧
    (indexEntry c s).fe.pendingResponse = s.fe.pendingResponse ∧ (indexEntry c s).fe.applied = s.fe.applied ∧
    (indexEntry c s).fe.dimmer = s.fe.dimmer ∧ (indexEntry c s).shc.startSlot = s.shc.startSlot := by
  simp only [indexEntry]; repeat' split
  all_goals first | rfl | simp

@[simp] theorem liftSucceeded_frame (s : State) :
    (liftSucceeded s).pending = s.pending ∧ (liftSucceeded s).pins = s.pins ∧ (liftSucceeded s).power = s.power ∧
    (liftSucceeded s).free = s.free ∧ (liftSucceeded s).ltc = s.ltc ∧ (liftSucceeded s).thu = s.thu ∧
    (liftSucceeded s).retained.lampA = s.retained.lampA ∧ (liftSucceeded s).retained.lampB = s.retained.lampB ∧
    (liftSucceeded s).retained.cues = s.retained.cues ∧ (liftSucceeded s).retained.response = s.retained.response ∧
    (liftSucceeded s).retained.keymap = s.retained.keymap ∧ (liftSucceeded s).retained.params = s.retained.params ∧
    (liftSucceeded s).fe.level = s.fe.level ∧ (liftSucceeded s).fe.timer = s.fe.timer ∧
    (liftSucceeded s).fe.pendingResponse = s.fe.pendingResponse ∧ (liftSucceeded s).fe.applied = s.fe.applied ∧
    (liftSucceeded s).fe.dimmer = s.fe.dimmer ∧ (liftSucceeded s).shc.startSlot = s.shc.startSlot := by
  unfold liftSucceeded; dsimp only; repeat' split
  all_goals first | rfl | simp

@[simp] theorem startLift_frame (s : State) :
    (startLift s).pending = s.pending ∧ (startLift s).pins = s.pins ∧ (startLift s).power = s.power ∧
    (startLift s).free = s.free ∧ (startLift s).ltc = s.ltc ∧ (startLift s).thu = s.thu ∧
    (startLift s).retained.lampA = s.retained.lampA ∧ (startLift s).retained.lampB = s.retained.lampB ∧
    (startLift s).retained.cues = s.retained.cues ∧ (startLift s).retained.response = s.retained.response ∧
    (startLift s).retained.keymap = s.retained.keymap ∧ (startLift s).retained.params = s.retained.params ∧
    (startLift s).fe.level = s.fe.level ∧ (startLift s).fe.timer = s.fe.timer ∧
    (startLift s).fe.pendingResponse = s.fe.pendingResponse ∧ (startLift s).fe.applied = s.fe.applied ∧
    (startLift s).fe.dimmer = s.fe.dimmer ∧ (startLift s).shc.startSlot = s.shc.startSlot := by
  unfold startLift; dsimp only; split <;> simp

@[simp] theorem enterLifting_frame (s : State) :
    (enterLifting s).pending = s.pending ∧ (enterLifting s).pins = s.pins ∧ (enterLifting s).power = s.power ∧
    (enterLifting s).free = s.free ∧ (enterLifting s).ltc = s.ltc ∧ (enterLifting s).thu = s.thu ∧
    (enterLifting s).retained.lampA = s.retained.lampA ∧ (enterLifting s).retained.lampB = s.retained.lampB ∧
    (enterLifting s).retained.cues = s.retained.cues ∧ (enterLifting s).retained.response = s.retained.response ∧
    (enterLifting s).retained.keymap = s.retained.keymap ∧ (enterLifting s).retained.params = s.retained.params ∧
    (enterLifting s).fe.level = s.fe.level ∧ (enterLifting s).fe.timer = s.fe.timer ∧
    (enterLifting s).fe.pendingResponse = s.fe.pendingResponse ∧ (enterLifting s).fe.applied = s.fe.applied ∧
    (enterLifting s).fe.dimmer = s.fe.dimmer ∧ (enterLifting s).shc.startSlot = s.shc.startSlot := by
  simp [enterLifting]

@[simp] theorem dropEmpty_frame (c : CycleRecord) (s : State) :
    (dropEmpty c s).pending = s.pending ∧ (dropEmpty c s).pins = s.pins ∧ (dropEmpty c s).power = s.power ∧
    (dropEmpty c s).free = s.free ∧ (dropEmpty c s).ltc = s.ltc ∧ (dropEmpty c s).thu = s.thu ∧
    (dropEmpty c s).retained.lampA = s.retained.lampA ∧ (dropEmpty c s).retained.lampB = s.retained.lampB ∧
    (dropEmpty c s).retained.cues = s.retained.cues ∧ (dropEmpty c s).retained.response = s.retained.response ∧
    (dropEmpty c s).retained.keymap = s.retained.keymap ∧ (dropEmpty c s).retained.params = s.retained.params ∧
    (dropEmpty c s).fe.level = s.fe.level ∧ (dropEmpty c s).fe.timer = s.fe.timer ∧
    (dropEmpty c s).fe.pendingResponse = s.fe.pendingResponse ∧ (dropEmpty c s).fe.applied = s.fe.applied ∧
    (dropEmpty c s).fe.dimmer = s.fe.dimmer ∧ (dropEmpty c s).shc.startSlot = s.shc.startSlot := by
  unfold dropEmpty; dsimp only; repeat' split
  all_goals first | rfl | simp

@[simp] theorem pulseIndexing_frame (c : CycleRecord) (s : State) :
    (pulseIndexing c s).pending = s.pending ∧ (pulseIndexing c s).pins = s.pins ∧
    (pulseIndexing c s).power = s.power ∧ (pulseIndexing c s).free = s.free ∧ (pulseIndexing c s).ltc = s.ltc ∧
    (pulseIndexing c s).thu = s.thu ∧ (pulseIndexing c s).retained.lampA = s.retained.lampA ∧
    (pulseIndexing c s).retained.lampB = s.retained.lampB ∧ (pulseIndexing c s).retained.cues = s.retained.cues ∧
    (pulseIndexing c s).retained.response = s.retained.response ∧
    (pulseIndexing c s).retained.keymap = s.retained.keymap ∧
    (pulseIndexing c s).retained.params = s.retained.params ∧ (pulseIndexing c s).fe.level = s.fe.level ∧
    (pulseIndexing c s).fe.timer = s.fe.timer ∧ (pulseIndexing c s).fe.pendingResponse = s.fe.pendingResponse ∧
    (pulseIndexing c s).fe.applied = s.fe.applied ∧ (pulseIndexing c s).fe.dimmer = s.fe.dimmer ∧
    (pulseIndexing c s).shc.startSlot = s.shc.startSlot := by
  unfold pulseIndexing; dsimp only; split <;> simp

@[simp] theorem pulseHoming_frame (c : CycleRecord) (s : State) :
    (pulseHoming c s).pending = s.pending ∧ (pulseHoming c s).pins = s.pins ∧ (pulseHoming c s).power = s.power ∧
    (pulseHoming c s).free = s.free ∧ (pulseHoming c s).ltc = s.ltc ∧ (pulseHoming c s).thu = s.thu ∧
    (pulseHoming c s).retained.lampA = s.retained.lampA ∧ (pulseHoming c s).retained.lampB = s.retained.lampB ∧
    (pulseHoming c s).retained.cues = s.retained.cues ∧ (pulseHoming c s).retained.response = s.retained.response ∧
    (pulseHoming c s).retained.keymap = s.retained.keymap ∧ (pulseHoming c s).retained.params = s.retained.params ∧
    (pulseHoming c s).fe.level = s.fe.level ∧ (pulseHoming c s).fe.timer = s.fe.timer ∧
    (pulseHoming c s).fe.pendingResponse = s.fe.pendingResponse ∧ (pulseHoming c s).fe.applied = s.fe.applied ∧
    (pulseHoming c s).fe.dimmer = s.fe.dimmer ∧ (pulseHoming c s).shc.startSlot = s.shc.startSlot := by
  unfold pulseHoming; dsimp only; repeat' split
  all_goals first | rfl | simp

@[simp] theorem takeHead_frame (s : State) :
    (takeHead s).pending = s.pending ∧ (takeHead s).pins = s.pins ∧ (takeHead s).power = s.power ∧
    (takeHead s).free = s.free ∧ (takeHead s).ltc = s.ltc ∧ (takeHead s).thu = s.thu ∧
    (takeHead s).retained.position = s.retained.position ∧ (takeHead s).retained.map = s.retained.map ∧
    (takeHead s).retained.lampA = s.retained.lampA ∧ (takeHead s).retained.lampB = s.retained.lampB ∧
    (takeHead s).retained.cues = s.retained.cues ∧ (takeHead s).retained.response = s.retained.response ∧
    (takeHead s).retained.keymap = s.retained.keymap ∧ (takeHead s).retained.params = s.retained.params ∧
    (takeHead s).tgc.present = s.tgc.present ∧ (takeHead s).tgc.gateLoad = s.tgc.gateLoad ∧
    (takeHead s).tgc.blank = s.tgc.blank ∧ (takeHead s).tgc.lift = s.tgc.lift ∧
    (takeHead s).tgc.motor = s.tgc.motor ∧ (takeHead s).fe.level = s.fe.level ∧ (takeHead s).fe.timer = s.fe.timer ∧
    (takeHead s).fe.pendingResponse = s.fe.pendingResponse ∧ (takeHead s).fe.applied = s.fe.applied ∧
    (takeHead s).fe.dimmer = s.fe.dimmer ∧ (takeHead s).shc.startSlot = s.shc.startSlot := by
  unfold takeHead; dsimp only; repeat' split
  all_goals first | rfl | simp

@[simp] theorem readPresence_frame (s : State) :
    (readPresence s).pending = s.pending ∧ (readPresence s).pins = s.pins ∧ (readPresence s).power = s.power ∧
    (readPresence s).free = s.free ∧ (readPresence s).mq = s.mq ∧ (readPresence s).ltc = s.ltc ∧
    (readPresence s).thu = s.thu ∧ (readPresence s).cdec = s.cdec ∧ (readPresence s).shc = s.shc ∧
    (readPresence s).tac = s.tac ∧ (readPresence s).rrx = s.rrx ∧ (readPresence s).fe = s.fe ∧
    (readPresence s).link = s.link ∧ (readPresence s).flt = s.flt ∧
    (readPresence s).retained.lampA = s.retained.lampA ∧ (readPresence s).retained.lampB = s.retained.lampB ∧
    (readPresence s).retained.cues = s.retained.cues ∧ (readPresence s).retained.user = s.retained.user ∧
    (readPresence s).retained.response = s.retained.response ∧ (readPresence s).retained.keymap = s.retained.keymap ∧
    (readPresence s).retained.params = s.retained.params ∧ (readPresence s).tgc.phase = s.tgc.phase ∧
    (readPresence s).tgc.gateLoad = s.tgc.gateLoad ∧ (readPresence s).tgc.blank = s.tgc.blank ∧
    (readPresence s).tgc.lift = s.tgc.lift ∧ (readPresence s).tgc.motor = s.tgc.motor ∧
    (readPresence s).tgc.timer = s.tgc.timer := by
  unfold readPresence; dsimp only; split <;> simp

@[simp] theorem checkHome_frame (s : State) :
    (checkHome s).pending = s.pending ∧ (checkHome s).pins = s.pins ∧ (checkHome s).power = s.power ∧
    (checkHome s).free = s.free ∧ (checkHome s).mq = s.mq ∧ (checkHome s).tgc = s.tgc ∧ (checkHome s).ltc = s.ltc ∧
    (checkHome s).thu = s.thu ∧ (checkHome s).cdec = s.cdec ∧ (checkHome s).shc = s.shc ∧ (checkHome s).tac = s.tac ∧
    (checkHome s).rrx = s.rrx ∧ (checkHome s).fe = s.fe ∧ (checkHome s).link = s.link ∧ (checkHome s).flt = s.flt ∧
    (checkHome s).retained.map = s.retained.map ∧ (checkHome s).retained.lampA = s.retained.lampA ∧
    (checkHome s).retained.lampB = s.retained.lampB ∧ (checkHome s).retained.cues = s.retained.cues ∧
    (checkHome s).retained.user = s.retained.user ∧ (checkHome s).retained.response = s.retained.response ∧
    (checkHome s).retained.keymap = s.retained.keymap ∧ (checkHome s).retained.params = s.retained.params := by
  simp only [checkHome]; repeat' split
  all_goals first | rfl | simp

@[simp] theorem tgcReset_frame (s : State) :
    (tgcReset s).pending = s.pending ∧ (tgcReset s).pins = s.pins ∧ (tgcReset s).power = s.power ∧
    (tgcReset s).free = s.free ∧ (tgcReset s).mq = s.mq ∧ (tgcReset s).ltc = s.ltc ∧ (tgcReset s).thu = s.thu ∧
    (tgcReset s).cdec = s.cdec ∧ (tgcReset s).shc = s.shc ∧ (tgcReset s).tac = s.tac ∧ (tgcReset s).rrx = s.rrx ∧
    (tgcReset s).fe = s.fe ∧ (tgcReset s).retained = s.retained ∧ (tgcReset s).link = s.link ∧
    (tgcReset s).flt = s.flt ∧ (tgcReset s).tgc.present = s.tgc.present := by
  refine ⟨?_, ?_, ?_, ?_, ?_, ?_, ?_, ?_, ?_, ?_, ?_, ?_, ?_, ?_, ?_, ?_⟩
  all_goals first | (simp [tgcReset]; done) | (unfold tgcReset; dsimp only; split <;> simp; done) | (unfold tgcReset; dsimp only; repeat' split)
  all_goals first | rfl | simp

@[simp] theorem ltcRest_frame (sub : Nat) (s : State) :
    (ltcRest sub s).pending = s.pending ∧ (ltcRest sub s).pins = s.pins ∧ (ltcRest sub s).power = s.power ∧
    (ltcRest sub s).free = s.free ∧ (ltcRest sub s).mq = s.mq ∧ (ltcRest sub s).tgc = s.tgc ∧
    (ltcRest sub s).thu = s.thu ∧ (ltcRest sub s).cdec = s.cdec ∧ (ltcRest sub s).shc = s.shc ∧
    (ltcRest sub s).tac = s.tac ∧ (ltcRest sub s).rrx = s.rrx ∧ (ltcRest sub s).fe = s.fe ∧
    (ltcRest sub s).retained = s.retained ∧ (ltcRest sub s).link = s.link ∧ (ltcRest sub s).flt = s.flt := by
  simp [ltcRest]

@[simp] theorem tacReset_frame (counter volume : Nat) (s : State) :
    (tacReset counter volume s).pending = s.pending ∧ (tacReset counter volume s).pins = s.pins ∧
    (tacReset counter volume s).power = s.power ∧ (tacReset counter volume s).free = s.free ∧
    (tacReset counter volume s).mq = s.mq ∧ (tacReset counter volume s).tgc = s.tgc ∧
    (tacReset counter volume s).ltc = s.ltc ∧ (tacReset counter volume s).thu = s.thu ∧
    (tacReset counter volume s).cdec = s.cdec ∧ (tacReset counter volume s).shc = s.shc ∧
    (tacReset counter volume s).rrx = s.rrx ∧ (tacReset counter volume s).fe = s.fe ∧
    (tacReset counter volume s).retained = s.retained ∧ (tacReset counter volume s).link = s.link ∧
    (tacReset counter volume s).flt = s.flt := by
  simp [tacReset]

@[simp] theorem lampsAtReset_frame (s : State) :
    (lampsAtReset s).pending = s.pending ∧ (lampsAtReset s).pins = s.pins ∧ (lampsAtReset s).power = s.power ∧
    (lampsAtReset s).free = s.free ∧ (lampsAtReset s).mq = s.mq ∧ (lampsAtReset s).tgc = s.tgc ∧
    (lampsAtReset s).ltc = s.ltc ∧ (lampsAtReset s).thu = s.thu ∧ (lampsAtReset s).cdec = s.cdec ∧
    (lampsAtReset s).shc = s.shc ∧ (lampsAtReset s).tac = s.tac ∧ (lampsAtReset s).rrx = s.rrx ∧
    (lampsAtReset s).fe = s.fe ∧ (lampsAtReset s).link = s.link ∧ (lampsAtReset s).flt = s.flt ∧
    (lampsAtReset s).retained.position = s.retained.position ∧ (lampsAtReset s).retained.map = s.retained.map ∧
    (lampsAtReset s).retained.cues = s.retained.cues ∧ (lampsAtReset s).retained.user = s.retained.user ∧
    (lampsAtReset s).retained.response = s.retained.response ∧ (lampsAtReset s).retained.keymap = s.retained.keymap ∧
    (lampsAtReset s).retained.params = s.retained.params := by
  simp [lampsAtReset]

@[simp] theorem thuStart_frame (latch : Bool) (cooldown : Option Nat) (s : State) :
    (thuStart latch cooldown s).pending = s.pending ∧ (thuStart latch cooldown s).pins = s.pins ∧
    (thuStart latch cooldown s).power = s.power ∧ (thuStart latch cooldown s).free = s.free ∧
    (thuStart latch cooldown s).mq = s.mq ∧ (thuStart latch cooldown s).tgc = s.tgc ∧
    (thuStart latch cooldown s).ltc = s.ltc ∧ (thuStart latch cooldown s).cdec = s.cdec ∧
    (thuStart latch cooldown s).shc = s.shc ∧ (thuStart latch cooldown s).tac = s.tac ∧
    (thuStart latch cooldown s).rrx = s.rrx ∧ (thuStart latch cooldown s).fe = s.fe ∧
    (thuStart latch cooldown s).retained = s.retained ∧ (thuStart latch cooldown s).link = s.link ∧
    (thuStart latch cooldown s).flt = s.flt := by
  simp [thuStart]

@[simp] theorem dynamicStart_frame (s : State) :
    (dynamicStart s).pending = s.pending ∧ (dynamicStart s).pins = s.pins ∧ (dynamicStart s).power = s.power ∧
    (dynamicStart s).free = s.free ∧ (dynamicStart s).tgc = s.tgc ∧ (dynamicStart s).ltc = s.ltc ∧
    (dynamicStart s).thu = s.thu ∧ (dynamicStart s).tac = s.tac ∧ (dynamicStart s).retained = s.retained := by
  simp [dynamicStart]

@[simp] theorem startRecord_frame (kind : StartKind) (outcome : SignatureOutcome) (s : State) :
    (startRecord kind outcome s).pending = s.pending ∧ (startRecord kind outcome s).pins = s.pins ∧
    (startRecord kind outcome s).free = s.free ∧ (startRecord kind outcome s).mq = s.mq ∧
    (startRecord kind outcome s).tgc = s.tgc ∧ (startRecord kind outcome s).ltc = s.ltc ∧
    (startRecord kind outcome s).thu = s.thu ∧ (startRecord kind outcome s).cdec = s.cdec ∧
    (startRecord kind outcome s).shc = s.shc ∧ (startRecord kind outcome s).tac = s.tac ∧
    (startRecord kind outcome s).rrx = s.rrx ∧ (startRecord kind outcome s).fe = s.fe ∧
    (startRecord kind outcome s).retained = s.retained ∧ (startRecord kind outcome s).link = s.link ∧
    (startRecord kind outcome s).flt = s.flt := by
  simp [startRecord]

@[simp] theorem softRecord_frame (again : Bool) (s : State) :
    (softRecord again s).pending = s.pending ∧ (softRecord again s).pins = s.pins ∧
    (softRecord again s).mq = s.mq ∧ (softRecord again s).tgc = s.tgc ∧
    (softRecord again s).ltc = s.ltc ∧ (softRecord again s).thu = s.thu ∧
    (softRecord again s).cdec = s.cdec ∧ (softRecord again s).shc = s.shc ∧
    (softRecord again s).tac = s.tac ∧ (softRecord again s).rrx = s.rrx ∧
    (softRecord again s).fe = s.fe ∧ (softRecord again s).retained = s.retained ∧
    (softRecord again s).link = s.link ∧ (softRecord again s).flt = s.flt := by
  unfold softRecord; split <;> simp

@[simp] theorem softReset_frame (s : State) :
    (softReset s).pending = s.pending ∧ (softReset s).pins = s.pins ∧ (softReset s).retained.cues = s.retained.cues ∧
    (softReset s).retained.user = s.retained.user ∧ (softReset s).retained.response = s.retained.response ∧
    (softReset s).retained.keymap = s.retained.keymap ∧ (softReset s).retained.params = s.retained.params := by
  unfold softReset; dsimp only; split <;> simp

@[simp] theorem coldStart_frame (s : State) :
    (coldStart s).pending = s.pending ∧ (coldStart s).pins = s.pins ∧ (coldStart s).power = s.power ∧
    (coldStart s).free = s.free := by
  simp [coldStart]

@[simp] theorem warmStart_frame (s : State) :
    (warmStart s).pending = s.pending ∧ (warmStart s).pins = s.pins ∧ (warmStart s).power = s.power ∧
    (warmStart s).free = s.free ∧ (warmStart s).retained.cues = s.retained.cues ∧
    (warmStart s).retained.user = s.retained.user ∧ (warmStart s).retained.response = s.retained.response ∧
    (warmStart s).retained.keymap = s.retained.keymap ∧ (warmStart s).retained.params = s.retained.params := by
  simp [warmStart]

@[simp] theorem powerOn_frame (s : State) :
    (powerOn s).pending = s.pending ∧ (powerOn s).pins = s.pins ∧ (powerOn s).free = s.free := by
  simp only [powerOn]; repeat' split
  all_goals first | rfl | simp

@[simp] theorem unpower_frame (s : State) :
    (unpower s).pending = s.pending ∧ (unpower s).pins = s.pins ∧ (unpower s).free = s.free ∧
    (unpower s).retained.position = s.retained.position ∧ (unpower s).retained.map = s.retained.map ∧
    (unpower s).retained.cues = s.retained.cues ∧ (unpower s).retained.user = s.retained.user ∧
    (unpower s).retained.response = s.retained.response ∧ (unpower s).retained.keymap = s.retained.keymap ∧
    (unpower s).retained.params = s.retained.params ∧ (unpower s).tgc.present = s.tgc.present ∧
    (unpower s).tgc.phase = s.tgc.phase ∧ (unpower s).tgc.gateLoad = s.tgc.gateLoad ∧
    (unpower s).tgc.blank = s.tgc.blank ∧ (unpower s).tac.volume = s.tac.volume ∧
    (unpower s).tac.counter = s.tac.counter ∧ (unpower s).tac.beginFlag = s.tac.beginFlag ∧
    (unpower s).tac.endFlag = s.tac.endFlag ∧ (unpower s).tac.stall = s.tac.stall := by
  refine ⟨?_, ?_, ?_, ?_, ?_, ?_, ?_, ?_, ?_, ?_, ?_, ?_, ?_, ?_, ?_, ?_, ?_, ?_, ?_⟩
  all_goals first | (simp [unpower]; done) | (unfold unpower; dsimp only; split <;> simp; done) | (unfold unpower; dsimp only; repeat' split)
  all_goals first | rfl | simp

@[simp] theorem loseRetained_frame (s : State) :
    (loseRetained s).pending = s.pending ∧ (loseRetained s).pins = s.pins ∧ (loseRetained s).mq = s.mq ∧
    (loseRetained s).tgc = s.tgc ∧ (loseRetained s).ltc = s.ltc ∧ (loseRetained s).thu = s.thu ∧
    (loseRetained s).cdec = s.cdec ∧ (loseRetained s).tac = s.tac ∧ (loseRetained s).rrx = s.rrx ∧
    (loseRetained s).fe = s.fe ∧ (loseRetained s).link = s.link ∧ (loseRetained s).flt = s.flt ∧
    (loseRetained s).shc.state = s.shc.state ∧ (loseRetained s).shc.startSlot = s.shc.startSlot := by
  simp [loseRetained]

@[simp] theorem endHold_frame (s : State) :
    (endHold s).pending = s.pending ∧ (endHold s).pins = s.pins ∧ (endHold s).power = s.power ∧
    (endHold s).free = s.free ∧ (endHold s).mq = s.mq ∧ (endHold s).tgc = s.tgc ∧ (endHold s).ltc = s.ltc ∧
    (endHold s).thu = s.thu ∧ (endHold s).cdec = s.cdec ∧ (endHold s).shc = s.shc ∧ (endHold s).tac = s.tac ∧
    (endHold s).fe = s.fe ∧ (endHold s).retained = s.retained ∧ (endHold s).link = s.link ∧ (endHold s).flt = s.flt := by
  simp [endHold]

@[simp] theorem standbyTray_frame (s : State) :
    (standbyTray s).pending = s.pending ∧ (standbyTray s).pins = s.pins ∧ (standbyTray s).power = s.power ∧
    (standbyTray s).free = s.free ∧ (standbyTray s).ltc = s.ltc ∧ (standbyTray s).thu = s.thu ∧
    (standbyTray s).retained.map = s.retained.map ∧ (standbyTray s).retained.lampA = s.retained.lampA ∧
    (standbyTray s).retained.lampB = s.retained.lampB ∧ (standbyTray s).retained.cues = s.retained.cues ∧
    (standbyTray s).retained.response = s.retained.response ∧ (standbyTray s).retained.keymap = s.retained.keymap ∧
    (standbyTray s).retained.params = s.retained.params ∧ (standbyTray s).fe.level = s.fe.level ∧
    (standbyTray s).fe.timer = s.fe.timer ∧ (standbyTray s).fe.pendingResponse = s.fe.pendingResponse ∧
    (standbyTray s).fe.applied = s.fe.applied ∧ (standbyTray s).fe.dimmer = s.fe.dimmer ∧
    (standbyTray s).shc.startSlot = s.shc.startSlot := by
  unfold standbyTray; dsimp only; split <;> simp

@[simp] theorem standbyLight_frame (s : State) :
    (standbyLight s).pending = s.pending ∧ (standbyLight s).pins = s.pins ∧ (standbyLight s).power = s.power ∧
    (standbyLight s).free = s.free ∧ (standbyLight s).mq = s.mq ∧ (standbyLight s).tgc = s.tgc ∧
    (standbyLight s).ltc = s.ltc ∧ (standbyLight s).thu = s.thu ∧ (standbyLight s).cdec = s.cdec ∧
    (standbyLight s).shc = s.shc ∧ (standbyLight s).tac = s.tac ∧ (standbyLight s).rrx = s.rrx ∧
    (standbyLight s).link = s.link ∧ (standbyLight s).flt = s.flt ∧
    (standbyLight s).retained.position = s.retained.position ∧ (standbyLight s).retained.map = s.retained.map ∧
    (standbyLight s).retained.lampA = s.retained.lampA ∧ (standbyLight s).retained.lampB = s.retained.lampB ∧
    (standbyLight s).retained.cues = s.retained.cues ∧ (standbyLight s).retained.keymap = s.retained.keymap ∧
    (standbyLight s).retained.params = s.retained.params ∧ (standbyLight s).fe.applied = s.fe.applied ∧
    (standbyLight s).fe.dimmer = s.fe.dimmer := by
  unfold standbyLight; dsimp only; split <;> simp

@[simp] theorem enterStandby_frame (s : State) :
    (enterStandby s).pending = s.pending ∧ (enterStandby s).pins = s.pins ∧ (enterStandby s).free = s.free ∧
    (enterStandby s).retained.map = s.retained.map ∧ (enterStandby s).retained.lampA = s.retained.lampA ∧
    (enterStandby s).retained.lampB = s.retained.lampB ∧ (enterStandby s).retained.cues = s.retained.cues ∧
    (enterStandby s).retained.keymap = s.retained.keymap ∧ (enterStandby s).retained.params = s.retained.params ∧
    (enterStandby s).fe.applied = s.fe.applied ∧ (enterStandby s).fe.dimmer = s.fe.dimmer ∧
    (enterStandby s).shc.startSlot = s.shc.startSlot ∧ (enterStandby s).thu.effective = s.thu.effective ∧
    (enterStandby s).thu.seeing = s.thu.seeing ∧ (enterStandby s).thu.reading = s.thu.reading ∧
    (enterStandby s).thu.state = s.thu.state := by
  simp [enterStandby]

@[simp] theorem powerFadeEnded_frame (s : State) :
    (powerFadeEnded s).pending = s.pending ∧ (powerFadeEnded s).pins = s.pins ∧ (powerFadeEnded s).free = s.free ∧
    (powerFadeEnded s).retained.map = s.retained.map ∧ (powerFadeEnded s).retained.cues = s.retained.cues ∧
    (powerFadeEnded s).retained.keymap = s.retained.keymap ∧ (powerFadeEnded s).retained.params = s.retained.params ∧
    (powerFadeEnded s).shc.startSlot = s.shc.startSlot ∧ (powerFadeEnded s).thu.effective = s.thu.effective ∧
    (powerFadeEnded s).thu.seeing = s.thu.seeing ∧ (powerFadeEnded s).thu.reading = s.thu.reading ∧
    (powerFadeEnded s).thu.state = s.thu.state := by
  unfold powerFadeEnded; dsimp only; repeat' split
  all_goals first | rfl | simp

@[simp] theorem cooldownEnded_frame (s : State) :
    (cooldownEnded s).pending = s.pending ∧ (cooldownEnded s).pins = s.pins ∧ (cooldownEnded s).free = s.free ∧
    (cooldownEnded s).retained.map = s.retained.map ∧ (cooldownEnded s).retained.lampA = s.retained.lampA ∧
    (cooldownEnded s).retained.lampB = s.retained.lampB ∧ (cooldownEnded s).retained.cues = s.retained.cues ∧
    (cooldownEnded s).retained.keymap = s.retained.keymap ∧ (cooldownEnded s).retained.params = s.retained.params ∧
    (cooldownEnded s).fe.applied = s.fe.applied ∧ (cooldownEnded s).fe.dimmer = s.fe.dimmer ∧
    (cooldownEnded s).shc.startSlot = s.shc.startSlot ∧ (cooldownEnded s).thu.effective = s.thu.effective ∧
    (cooldownEnded s).thu.seeing = s.thu.seeing ∧ (cooldownEnded s).thu.reading = s.thu.reading ∧
    (cooldownEnded s).thu.state = s.thu.state := by
  unfold cooldownEnded; repeat' split
  all_goals first | rfl | simp

@[simp] theorem checkCooldown_frame (s : State) :
    (checkCooldown s).pending = s.pending ∧ (checkCooldown s).pins = s.pins ∧ (checkCooldown s).free = s.free ∧
    (checkCooldown s).retained.map = s.retained.map ∧ (checkCooldown s).retained.lampA = s.retained.lampA ∧
    (checkCooldown s).retained.lampB = s.retained.lampB ∧ (checkCooldown s).retained.cues = s.retained.cues ∧
    (checkCooldown s).retained.keymap = s.retained.keymap ∧ (checkCooldown s).retained.params = s.retained.params ∧
    (checkCooldown s).fe.applied = s.fe.applied ∧ (checkCooldown s).fe.dimmer = s.fe.dimmer ∧
    (checkCooldown s).shc.startSlot = s.shc.startSlot ∧ (checkCooldown s).thu.effective = s.thu.effective ∧
    (checkCooldown s).thu.seeing = s.thu.seeing ∧ (checkCooldown s).thu.reading = s.thu.reading ∧
    (checkCooldown s).thu.state = s.thu.state := by
  unfold checkCooldown; dsimp only; split <;> simp

@[simp] theorem takeFade_frame (target duration : Nat) (curve : Curve) (origin : FadeOrigin) (s : State) :
    (takeFade target duration curve origin s).pending = s.pending ∧
    (takeFade target duration curve origin s).pins = s.pins ∧
    (takeFade target duration curve origin s).free = s.free ∧
    (takeFade target duration curve origin s).retained.map = s.retained.map ∧
    (takeFade target duration curve origin s).retained.cues = s.retained.cues ∧
    (takeFade target duration curve origin s).retained.keymap = s.retained.keymap ∧
    (takeFade target duration curve origin s).retained.params = s.retained.params ∧
    (takeFade target duration curve origin s).shc.startSlot = s.shc.startSlot ∧
    (takeFade target duration curve origin s).thu.effective = s.thu.effective ∧
    (takeFade target duration curve origin s).thu.seeing = s.thu.seeing ∧
    (takeFade target duration curve origin s).thu.reading = s.thu.reading ∧
    (takeFade target duration curve origin s).thu.state = s.thu.state := by
  unfold takeFade; dsimp only; split <;> simp

@[simp] theorem windDown_frame (s : State) :
    (windDown s).pending = s.pending ∧ (windDown s).pins = s.pins ∧ (windDown s).free = s.free ∧
    (windDown s).retained.map = s.retained.map ∧ (windDown s).retained.cues = s.retained.cues ∧
    (windDown s).retained.keymap = s.retained.keymap ∧ (windDown s).retained.params = s.retained.params ∧
    (windDown s).shc.startSlot = s.shc.startSlot ∧ (windDown s).thu.effective = s.thu.effective ∧
    (windDown s).thu.seeing = s.thu.seeing ∧ (windDown s).thu.reading = s.thu.reading ∧
    (windDown s).thu.state = s.thu.state := by
  unfold windDown; dsimp only; split <;> simp

@[simp] theorem wakeBlocks_frame (s : State) :
    (wakeBlocks s).pending = s.pending ∧ (wakeBlocks s).pins = s.pins ∧ (wakeBlocks s).power = s.power ∧
    (wakeBlocks s).free = s.free ∧ (wakeBlocks s).mq = s.mq ∧ (wakeBlocks s).shc = s.shc ∧
    (wakeBlocks s).rrx = s.rrx ∧ (wakeBlocks s).link = s.link ∧ (wakeBlocks s).retained.lampA = s.retained.lampA ∧
    (wakeBlocks s).retained.lampB = s.retained.lampB ∧ (wakeBlocks s).retained.cues = s.retained.cues ∧
    (wakeBlocks s).retained.user = s.retained.user ∧ (wakeBlocks s).retained.response = s.retained.response ∧
    (wakeBlocks s).retained.keymap = s.retained.keymap ∧ (wakeBlocks s).retained.params = s.retained.params ∧
    (wakeBlocks s).flt.faultOn = s.flt.faultOn ∧ (wakeBlocks s).flt.eventOn = s.flt.eventOn ∧
    (wakeBlocks s).flt.switchOn = s.flt.switchOn ∧ (wakeBlocks s).flt.first = s.flt.first ∧
    (wakeBlocks s).flt.opener = s.flt.opener ∧ (wakeBlocks s).flt.causes = s.flt.causes ∧
    (wakeBlocks s).tac.volume = s.tac.volume ∧ (wakeBlocks s).tac.counter = s.tac.counter := by
  simp [wakeBlocks]

@[simp] theorem wakeRemote_frame (s : State) :
    (wakeRemote s).pending = s.pending ∧ (wakeRemote s).pins = s.pins ∧ (wakeRemote s).power = s.power ∧
    (wakeRemote s).free = s.free ∧ (wakeRemote s).mq = s.mq ∧ (wakeRemote s).tgc = s.tgc ∧
    (wakeRemote s).ltc = s.ltc ∧ (wakeRemote s).thu = s.thu ∧ (wakeRemote s).cdec = s.cdec ∧
    (wakeRemote s).shc = s.shc ∧ (wakeRemote s).tac = s.tac ∧ (wakeRemote s).fe = s.fe ∧
    (wakeRemote s).retained = s.retained ∧ (wakeRemote s).link = s.link ∧ (wakeRemote s).flt = s.flt := by
  simp [wakeRemote]

@[simp] theorem wakeUp_frame (s : State) :
    (wakeUp s).pending = s.pending ∧ (wakeUp s).pins = s.pins ∧ (wakeUp s).free = s.free ∧ (wakeUp s).link = s.link := by
  unfold wakeUp; dsimp only; split <;> simp

@[simp] theorem keyMove_frame (move : Move) (s : State) :
    (keyMove move s).1.pending = s.pending ∧ (keyMove move s).1.pins = s.pins ∧ (keyMove move s).1.power = s.power ∧
    (keyMove move s).1.free = s.free ∧ (keyMove move s).1.ltc = s.ltc ∧ (keyMove move s).1.thu = s.thu ∧
    (keyMove move s).1.retained.position = s.retained.position ∧ (keyMove move s).1.retained.map = s.retained.map ∧
    (keyMove move s).1.retained.lampA = s.retained.lampA ∧ (keyMove move s).1.retained.lampB = s.retained.lampB ∧
    (keyMove move s).1.retained.cues = s.retained.cues ∧ (keyMove move s).1.retained.response = s.retained.response ∧
    (keyMove move s).1.retained.keymap = s.retained.keymap ∧ (keyMove move s).1.retained.params = s.retained.params ∧
    (keyMove move s).1.tgc.present = s.tgc.present ∧ (keyMove move s).1.tgc.phase = s.tgc.phase ∧
    (keyMove move s).1.tgc.gateLoad = s.tgc.gateLoad ∧ (keyMove move s).1.tgc.blank = s.tgc.blank ∧
    (keyMove move s).1.tgc.lift = s.tgc.lift ∧ (keyMove move s).1.tgc.motor = s.tgc.motor ∧
    (keyMove move s).1.tgc.timer = s.tgc.timer ∧ (keyMove move s).1.fe.level = s.fe.level ∧
    (keyMove move s).1.fe.timer = s.fe.timer ∧ (keyMove move s).1.fe.pendingResponse = s.fe.pendingResponse ∧
    (keyMove move s).1.fe.applied = s.fe.applied ∧ (keyMove move s).1.fe.dimmer = s.fe.dimmer ∧
    (keyMove move s).1.shc.pointer = s.shc.pointer ∧ (keyMove move s).1.shc.startSlot = s.shc.startSlot := by
  unfold keyMove; dsimp only; split <;> simp

@[simp] theorem startFocus_frame (f : Focus) (s : State) :
    (startFocus f s).pending = s.pending ∧ (startFocus f s).pins = s.pins ∧ (startFocus f s).power = s.power ∧
    (startFocus f s).free = s.free ∧ (startFocus f s).mq = s.mq ∧ (startFocus f s).tgc = s.tgc ∧
    (startFocus f s).ltc = s.ltc ∧ (startFocus f s).thu = s.thu ∧ (startFocus f s).cdec = s.cdec ∧
    (startFocus f s).shc = s.shc ∧ (startFocus f s).tac = s.tac ∧ (startFocus f s).fe = s.fe ∧
    (startFocus f s).retained = s.retained ∧ (startFocus f s).link = s.link ∧ (startFocus f s).flt = s.flt := by
  simp [startFocus]

@[simp] theorem lightOrder_frame (up : Bool) (s : State) :
    (lightOrder up s).pending = s.pending ∧ (lightOrder up s).pins = s.pins ∧ (lightOrder up s).free = s.free ∧
    (lightOrder up s).retained.map = s.retained.map ∧ (lightOrder up s).retained.cues = s.retained.cues ∧
    (lightOrder up s).retained.keymap = s.retained.keymap ∧ (lightOrder up s).retained.params = s.retained.params ∧
    (lightOrder up s).shc.startSlot = s.shc.startSlot ∧ (lightOrder up s).thu.effective = s.thu.effective ∧
    (lightOrder up s).thu.seeing = s.thu.seeing ∧ (lightOrder up s).thu.reading = s.thu.reading ∧
    (lightOrder up s).thu.state = s.thu.state := by
  simp [lightOrder]

@[simp] theorem keyPressed_frame (f : KeyFunction) (s : State) :
    (keyPressed f s).1.pending = s.pending ∧ (keyPressed f s).1.pins = s.pins ∧ (keyPressed f s).1.free = s.free ∧
    (keyPressed f s).1.retained.map = s.retained.map ∧ (keyPressed f s).1.retained.cues = s.retained.cues ∧
    (keyPressed f s).1.retained.keymap = s.retained.keymap ∧ (keyPressed f s).1.retained.params = s.retained.params ∧
    (keyPressed f s).1.shc.startSlot = s.shc.startSlot ∧ (keyPressed f s).1.thu.effective = s.thu.effective ∧
    (keyPressed f s).1.thu.seeing = s.thu.seeing ∧ (keyPressed f s).1.thu.reading = s.thu.reading ∧
    (keyPressed f s).1.thu.state = s.thu.state := by
  unfold keyPressed; dsimp only; repeat' split
  all_goals first | rfl | simp

@[simp] theorem pressKey_frame (source : KeySource) (channel : Option Nat) (code : Nat) (s : State) :
    (pressKey source channel code s).1.pending = s.pending ∧ (pressKey source channel code s).1.pins = s.pins ∧
    (pressKey source channel code s).1.free = s.free ∧
    (pressKey source channel code s).1.retained.map = s.retained.map ∧
    (pressKey source channel code s).1.retained.cues = s.retained.cues ∧
    (pressKey source channel code s).1.retained.keymap = s.retained.keymap ∧
    (pressKey source channel code s).1.retained.params = s.retained.params ∧
    (pressKey source channel code s).1.shc.startSlot = s.shc.startSlot ∧
    (pressKey source channel code s).1.thu.effective = s.thu.effective ∧
    (pressKey source channel code s).1.thu.seeing = s.thu.seeing ∧
    (pressKey source channel code s).1.thu.reading = s.thu.reading ∧
    (pressKey source channel code s).1.thu.state = s.thu.state := by
  unfold pressKey; dsimp only; split <;> simp

@[simp] theorem repeatHeld_frame (s : State) :
    (repeatHeld s).pending = s.pending ∧ (repeatHeld s).pins = s.pins ∧ (repeatHeld s).free = s.free ∧
    (repeatHeld s).retained.map = s.retained.map ∧ (repeatHeld s).retained.cues = s.retained.cues ∧
    (repeatHeld s).retained.keymap = s.retained.keymap ∧ (repeatHeld s).retained.params = s.retained.params ∧
    (repeatHeld s).shc.startSlot = s.shc.startSlot ∧ (repeatHeld s).thu.effective = s.thu.effective ∧
    (repeatHeld s).thu.seeing = s.thu.seeing ∧ (repeatHeld s).thu.reading = s.thu.reading ∧
    (repeatHeld s).thu.state = s.thu.state := by
  unfold repeatHeld; repeat' split
  all_goals first | rfl | simp

@[simp] theorem irFault_frame (s : State) :
    (irFault s).pending = s.pending ∧ (irFault s).pins = s.pins ∧ (irFault s).power = s.power ∧
    (irFault s).free = s.free ∧ (irFault s).mq = s.mq ∧ (irFault s).tgc = s.tgc ∧ (irFault s).ltc = s.ltc ∧
    (irFault s).thu = s.thu ∧ (irFault s).cdec = s.cdec ∧ (irFault s).shc = s.shc ∧ (irFault s).tac = s.tac ∧
    (irFault s).fe = s.fe ∧ (irFault s).retained = s.retained ∧ (irFault s).link = s.link ∧ (irFault s).flt = s.flt := by
  simp [irFault]

@[simp] theorem irComplete_frame (word : BitVec 16) (s : State) :
    (irComplete word s).pending = s.pending ∧ (irComplete word s).pins = s.pins ∧ (irComplete word s).free = s.free := by
  unfold irComplete; dsimp only; repeat' split
  all_goals first | rfl | simp

@[simp] theorem irRepeated_frame (s : State) :
    (irRepeated s).pending = s.pending ∧ (irRepeated s).pins = s.pins ∧ (irRepeated s).free = s.free ∧
    (irRepeated s).retained.map = s.retained.map ∧ (irRepeated s).retained.cues = s.retained.cues ∧
    (irRepeated s).retained.keymap = s.retained.keymap ∧ (irRepeated s).retained.params = s.retained.params ∧
    (irRepeated s).shc.startSlot = s.shc.startSlot ∧ (irRepeated s).thu.effective = s.thu.effective ∧
    (irRepeated s).thu.seeing = s.thu.seeing ∧ (irRepeated s).thu.reading = s.thu.reading ∧
    (irRepeated s).thu.state = s.thu.state := by
  unfold irRepeated; repeat' split
  all_goals first | rfl | simp

@[simp] theorem irElement_frame (e : IrElement) (s : State) :
    (irElement e s).pending = s.pending ∧ (irElement e s).pins = s.pins ∧ (irElement e s).free = s.free := by
  unfold irElement; dsimp only; repeat' split
  all_goals first | rfl | simp

@[simp] theorem irInput_frame (i : IrInput) (s : State) :
    (irInput i s).pending = s.pending ∧ (irInput i s).pins = s.pins ∧ (irInput i s).free = s.free := by
  refine ⟨?_, ?_, ?_⟩
  · unfold irInput; split <;> first | (simp) | exact (foldl_keeps (fun s : State => s.pending) _ (by intros; simp) _ _)
  · unfold irInput; split <;> first | (simp) | exact (foldl_keeps (fun s : State => s.pins) _ (by intros; simp) _ _)
  · unfold irInput; split <;> first | (simp) | exact (foldl_keeps (fun s : State => s.free) _ (by intros; simp) _ _)

end Sys2Proof.Machine
end

