-- ==== Sys2Proof/Laws/Ops.lean ====
section
/-! SUPPORT. What a shared operation does, said once, beside Frames.lean's what it leaves alone. -/

namespace Sys2Proof.Machine

open Sys2Proof.Safety

/-- A code joins a set and nothing leaves it (R187, R188). -/
@[simp] theorem mem_insertCode (c d : FaultCode) (l : List FaultCode) : c ∈ insertCode d l ↔ c = d ∨ c ∈ l := by
  induction l with
  | nil => simp [insertCode]
  | cons e l ih =>
    unfold insertCode
    split
    · rename_i h; subst h; simp
    · split
      · simp
      · simp only [List.mem_cons, ih]; tauto

/-- Codes are told apart by their place in the catalogue. -/
theorem index_injective (c d : FaultCode) (h : c.index = d.index) : c = d := by
  revert h
  cases c <;> cases d <;> first | (intro _; rfl) | (intro h; exact absurd h (by decide))

/-- A set in catalogue order stays one (R188). -/
theorem catalogueOrder_insertCode (c : FaultCode) (l : List FaultCode) (h : catalogueOrder l) :
    catalogueOrder (insertCode c l) := by
  induction l with
  | nil => simp [insertCode, catalogueOrder]
  | cons d l ih =>
    have h' := List.pairwise_cons.1 h
    unfold insertCode
    split
    · exact h
    · rename_i hne
      split
      · rename_i hlt
        refine List.pairwise_cons.2 ⟨fun e he => ?_, h⟩
        rcases List.mem_cons.1 he with rfl | he
        · exact hlt
        · exact lt_trans hlt (h'.1 e he)
      · rename_i hge
        refine List.pairwise_cons.2 ⟨fun e he => ?_, ih h'.2⟩
        rcases (mem_insertCode e c l).1 he with rfl | he
        · exact lt_of_le_of_ne (not_lt.1 hge) fun heq => hne (index_injective _ _ heq.symm)
        · exact h'.1 e he

/-- An offered entry merges, joins, or finds the queue full (R33). -/
theorem offer_cases (move : Move) (source : Source) (tag : Option Nat) (s : State) :
    (∃ q, mergeInto move source s.mq = some q ∧ offer move source tag s = (s.updMq fun _ => q, .merged)) ∨
    (mergeInto move source s.mq = none ∧ 8 ≤ s.mq.length ∧
      offer move source tag s = (refusedFull source tag s, .full)) ∨
    (mergeInto move source s.mq = none ∧ s.mq.length < 8 ∧
      offer move source tag s = (s.updMq fun q => q ++ [⟨move, source, tag, false⟩], .joined)) := by
  unfold offer
  cases h : mergeInto move source s.mq with
  | some q => exact .inl ⟨q, rfl, rfl⟩
  | none =>
    by_cases h8 : 8 ≤ s.mq.length
    · exact .inr (.inl ⟨rfl, h8, if_pos h8⟩)
    · exact .inr (.inr ⟨rfl, not_le.1 h8, if_neg h8⟩)

/-- A merge changes the tail alone: the queue keeps its length (R34). -/
theorem mergeInto_length (move : Move) (source : Source) (l q : List Motion) (h : mergeInto move source l = some q) :
    q.length = l.length := by
  induction l generalizing q with
  | nil => simp [mergeInto] at h
  | cons m l ih =>
    cases l with
    | nil =>
      simp only [mergeInto, Option.map_eq_some_iff] at h
      obtain ⟨t, -, rfl⟩ := h
      rfl
    | cons n l =>
      simp only [mergeInto, Option.map_eq_some_iff] at h
      obtain ⟨r, hr, rfl⟩ := h
      simpa using ih r hr

/-- A fade record is created from the level of the moment (R47). -/
theorem createFade_fe (target duration : Nat) (curve : Curve) (origin : FadeOrigin) (tag : Option Nat) (s : State) :
    (createFade target duration curve origin tag s).fe =
      { s.fe with fade := some ⟨s.fe.level, target, duration / 20, 0, curve, origin, tag⟩ } := rfl

/-- The end of a fade: no record, no pending USER table, the table installed where one waited (R55, R63). -/
theorem endFade_some (completed : Bool) (s : State) (r : FadeRecord) (h : s.fe.fade = some r) :
    (endFade completed s).fe = { s.fe with fade := none, pendingUser := none } ∧
    (endFade completed s).retained = { s.retained with user := s.fe.pendingUser.getD s.retained.user } := by
  unfold endFade
  rw [h]
  cases s.fe.pendingUser <;> simp

/-- No fade, no ending. -/
theorem endFade_none (completed : Bool) (s : State) (h : s.fe.fade = none) : endFade completed s = s := by
  unfold endFade
  rw [h]

/-- A change of transport state: the record and the decoder's gate (R109, R154, R165). -/
@[simp] theorem enterTransport_records (new : Transport) (brake : Option Direction) (cause : TapeCause) (s : State) :
    (enterTransport new brake cause s).tac = Tac.enter s.retained.params.resumeRamp new brake s.tac ∧
    (enterTransport new brake cause s).cdec = Cdec.gate s.tac.state new s.cdec := by
  unfold enterTransport
  dsimp only
  split <;> simp

/-- The state and brake period that a transport enters (R153, R154). -/
@[simp] theorem enter_state (resumeRamp : Nat) (new : Transport) (brake : Option Direction) (t : Tac) :
    (Tac.enter resumeRamp new brake t).state = new ∧ (Tac.enter resumeRamp new brake t).brake = brake ∧
    (Tac.enter resumeRamp new brake t).counter = t.counter ∧
    (Tac.enter resumeRamp new brake t).volume = t.volume ∧
    (Tac.enter resumeRamp new brake t).beginFlag = t.beginFlag ∧
    (Tac.enter resumeRamp new brake t).endFlag = t.endFlag ∧
    (Tac.enter resumeRamp new brake t).order = t.order := by
  unfold Tac.enter Tac.startRamp
  cases new <;> dsimp only <;> repeat' split
  all_goals simp

/-- A change of show state: the record, with the return register empty and the returning flag clear (R128, R147). -/
@[simp] theorem setShow_shc (new : ShowState) (reason : ShowReason) (s : State) :
    (setShow new reason s).shc = { s.shc with state := new, register := .empty, returning := false } := by
  simp [setShow]

/-- A discard takes its WAITING entries from the queue (R39, R40, R42). -/
@[simp] theorem discardWaiting_mq (p : Motion → Bool) (reason : CancelReason) (s : State) :
    (discardWaiting p reason s).mq = s.mq.filter fun m => !(!m.active && p m) := by
  unfold discardWaiting
  exact foldl_keeps (fun s : State => s.mq) _ (by intros; simp [waitingCancelled]) _ _

/-- A cancel changes nothing but the flag and its reason, and no cycle appears or ends (R23). -/
theorem cancelActive_cycle (reason : CancelReason) (s : State) :
    (cancelActive reason s).tgc.cycle.isSome = s.tgc.cycle.isSome ∧
    { (cancelActive reason s).tgc with cycle := s.tgc.cycle } = s.tgc := by
  simp [cancelActive]

/-- The discard of the show's moves takes them as `showMovesDiscarded` says and nothing else of the show (R40, R149). -/
theorem discardShowMoves_moves (s : State) :
    showMovesDiscarded s (discardShowMoves s) ∧
    (discardShowMoves s).shc = { s.shc with issued := (discardShowMoves s).shc.issued } := by
  have stay : ∀ m : Motion, (!(!m.active && m.source == Source.theShow)) = (m.active || m.source != .theShow) := by
    intro m; cases m.active <;> cases m.source <;> rfl
  have kept : ∀ m : Motion, ((m.source == Source.theShow) && (m.active || m.source != .theShow)) =
      (m.active && m.source == .theShow) := by
    intro m; cases m.active <;> cases m.source <;> rfl
  unfold showMovesDiscarded discardShowMoves
  cases h : s.tgc.cycle with
  | none => simp [h, stay, kept]; exact h ▸ rfl
  | some c =>
    by_cases hs : c.source = .theShow
    · simp [h, hs, stay, kept, cancelActive]
    · simp [h, hs, stay, kept]; exact h ▸ rfl

/-- The applied level is within the level, the ceiling and MAX_LEVEL (R56). -/
theorem stages_applied (p : Params) (table : Vector Nat 11) (effective : Nat) (lit : Bool) (f : Fe) :
    (f.stages p table effective lit).applied ≤ f.level ∧ (f.stages p table effective lit).applied ≤ effective ∧
    (f.stages p table effective lit).applied ≤ p.maxLevel := by
  unfold Fe.stages
  dsimp only
  split
  · split <;> simp
  · simp

/-- With the hold timer stopped an expiry changes nothing, so none follows a PAUSE key out of PAUSED (R142; logs 29,
49). -/
theorem holdExpired_of_stopped (s : State) (h : s.shc.hold = none) : holdExpired s = s := by
  simp [holdExpired, h]

end Sys2Proof.Machine
end

