-- ==== Sys2Proof/Laws/PerInstr.lean ====
section
/-! SUPPORT. The statements made command by command. `WfLength`: a well-formed command has a length that its kind
allows, so that the link never answers it BAD_LENGTH (R200, R203). -/

namespace Sys2Proof.Laws.WfLength

/-- A well-formed command has an allowed length. -/
def Statement (i : Instr) : Prop := i.wf = true → lengthOk i = true

theorem setParam (number value : Nat) : Statement (.setParam number value) := fun _ => rfl
theorem getParam (number : Nat) : Statement (.getParam number) := fun _ => rfl
theorem move (kind arg : Nat) : Statement (.move kind arg) := fun _ => rfl
theorem haltMotion : Statement .haltMotion := fun _ => rfl
theorem blank : Statement .blank := fun _ => rfl
theorem getTray : Statement .getTray := fun _ => rfl
theorem fade (target duration curve : Nat) : Statement (.fade target duration curve) := fun _ => rfl
theorem setCurve (points : List Nat) : Statement (.setCurve points) := by
  intro h
  simp only [Instr.wf, Bool.and_eq_true, decide_eq_true_eq] at h
  simp [lengthOk, h]
theorem setResponse (points : List Nat) : Statement (.setResponse points) := by
  intro h
  simp only [Instr.wf, Bool.and_eq_true, decide_eq_true_eq] at h
  simp [lengthOk, h]
theorem getLight (selector : Nat) : Statement (.getLight selector) := fun _ => rfl
theorem lampOn : Statement .lampOn := fun _ => rfl
theorem lampOff : Statement .lampOff := fun _ => rfl
theorem setLampRecord (lamp wear life : Nat) : Statement (.setLampRecord lamp wear life) := fun _ => rfl
theorem getLamps : Statement .getLamps := fun _ => rfl
theorem temperature (value : Int) : Statement (.temperature value) := fun _ => rfl
theorem getThermal : Statement .getThermal := fun _ => rfl
theorem loadCue (number slot count : Nat) (actions : List RawAction) : Statement (.loadCue number slot count actions) := by
  intro h
  simp only [Instr.wf, Bool.and_eq_true, decide_eq_true_eq] at h
  simp only [lengthOk, decide_eq_true_eq]
  omega
theorem deleteCue (number : Nat) : Statement (.deleteCue number) := fun _ => rfl
theorem clearCues : Statement .clearCues := fun _ => rfl
theorem getCue (selector value : Nat) : Statement (.getCue selector value) := fun _ => rfl
theorem showStart (slot loops : Nat) : Statement (.showStart slot loops) := fun _ => rfl
theorem showPause : Statement .showPause := fun _ => rfl
theorem showResume : Statement .showResume := fun _ => rfl
theorem showStop : Statement .showStop := fun _ => rfl
theorem getShow : Statement .getShow := fun _ => rfl
theorem tapePlay : Statement .tapePlay := fun _ => rfl
theorem tapePause : Statement .tapePause := fun _ => rfl
theorem tapeStop : Statement .tapeStop := fun _ => rfl
theorem tapeFastFwd : Statement .tapeFastFwd := fun _ => rfl
theorem tapeRewind : Statement .tapeRewind := fun _ => rfl
theorem volume (volume ramp : Nat) : Statement (.volume volume ramp) := fun _ => rfl
theorem getCueStats : Statement .getCueStats := fun _ => rfl
theorem clearCueStats : Statement .clearCueStats := fun _ => rfl
theorem keyPress (code : Nat) : Statement (.keyPress code) := fun _ => rfl
theorem keyHold (code : Nat) : Statement (.keyHold code) := fun _ => rfl
theorem keyRelease (code : Nat) : Statement (.keyRelease code) := fun _ => rfl
theorem setKeymap (start : Nat) (functions : List Nat) : Statement (.setKeymap start functions) := by
  intro h
  simp only [Instr.wf, Bool.and_eq_true, decide_eq_true_eq] at h
  simp [lengthOk, h]
theorem getFaults : Statement .getFaults := fun _ => rfl
theorem clearFaults : Statement .clearFaults := fun _ => rfl
theorem setReportEnables (values : List Nat) : Statement (.setReportEnables values) := by
  intro h
  simp only [Instr.wf, Bool.and_eq_true, decide_eq_true_eq] at h
  simp [lengthOk, h]
theorem reportsOff : Statement .reportsOff := fun _ => rfl
theorem reportsOn : Statement .reportsOn := fun _ => rfl
theorem standby : Statement .standby := fun _ => rfl
theorem wake : Statement .wake := fun _ => rfl
theorem reset : Statement .reset := fun _ => rfl
theorem getStatus : Statement .getStatus := fun _ => rfl
theorem powerOn : Statement .powerOn := fun _ => rfl
theorem resetPin : Statement .resetPin := fun _ => rfl
theorem softReset : Statement .softReset := fun _ => rfl
theorem frameReceived (frame : Frame) : Statement (.frameReceived frame) := fun _ => rfl
theorem framingError : Statement .framingError := fun _ => rfl
theorem gapTimerExpiry : Statement .gapTimerExpiry := fun _ => rfl
theorem takeFrame : Statement .takeFrame := fun _ => rfl
theorem placeOverrunReply : Statement .placeOverrunReply := fun _ => rfl
theorem transmitDone : Statement .transmitDone := fun _ => rfl
theorem trayRemoval : Statement .trayRemoval := fun _ => rfl
theorem trayInsertion : Statement .trayInsertion := fun _ => rfl
theorem takeEntry : Statement .takeEntry := fun _ => rfl
theorem settleExpiry : Statement .settleExpiry := fun _ => rfl
theorem gateUp (active : Bool) : Statement (.gateUp active) := fun _ => rfl
theorem liftTimeout : Statement .liftTimeout := fun _ => rfl
theorem liftReleaseExpiry : Statement .liftReleaseExpiry := fun _ => rfl
theorem indexPulse (home : Bool) : Statement (.indexPulse home) := fun _ => rfl
theorem stepTimeout : Statement .stepTimeout := fun _ => rfl
theorem slidePresent (active : Bool) : Statement (.slidePresent active) := fun _ => rfl
theorem dropTimeout : Statement .dropTimeout := fun _ => rfl
theorem gateSeated (active : Bool) : Statement (.gateSeated active) := fun _ => rfl
theorem seatTimeout : Statement .seatTimeout := fun _ => rfl
theorem fadeStep : Statement .fadeStep := fun _ => rfl
theorem turretSensor (lamp : Lamp) (active : Bool) : Statement (.turretSensor lamp active) := fun _ => rfl
theorem turretTimerExpiry : Statement .turretTimerExpiry := fun _ => rfl
theorem preheatExpiry : Statement .preheatExpiry := fun _ => rfl
theorem currentSenseActive (lamp : Lamp) : Statement (.currentSenseActive lamp) := fun _ => rfl
theorem checkExpiry : Statement .checkExpiry := fun _ => rfl
theorem retryWaitExpiry : Statement .retryWaitExpiry := fun _ => rfl
theorem burnoutWatchStart : Statement .burnoutWatchStart := fun _ => rfl
theorem currentSenseLost (lamp : Lamp) : Statement (.currentSenseLost lamp) := fun _ => rfl
theorem litTimeExpiry : Statement .litTimeExpiry := fun _ => rfl
theorem windowEnd : Statement .windowEnd := fun _ => rfl
theorem slewExpiry : Statement .slewExpiry := fun _ => rfl
theorem tachoPulse : Statement .tachoPulse := fun _ => rfl
theorem fanStallTimerExpiry : Statement .fanStallTimerExpiry := fun _ => rfl
theorem cooldownSecondExpiry : Statement .cooldownSecondExpiry := fun _ => rfl
theorem blockTimerExpiry (tones : List Tone) : Statement (.blockTimerExpiry tones) := fun _ => rfl
theorem holdTimerExpiry : Statement .holdTimerExpiry := fun _ => rfl
theorem tapeBeginSensor (active : Bool) : Statement (.tapeBeginSensor active) := fun _ => rfl
theorem tapeEndSensor (active : Bool) : Statement (.tapeEndSensor active) := fun _ => rfl
theorem brakePeriodEnd : Statement .brakePeriodEnd := fun _ => rfl
theorem stallTimerExpiry : Statement .stallTimerExpiry := fun _ => rfl
theorem reelPulse : Statement .reelPulse := fun _ => rfl
theorem rampTimerExpiry : Statement .rampTimerExpiry := fun _ => rfl
theorem irFrame (input : IrInput) : Statement (.irFrame input) := fun _ => rfl
theorem irRepeat : Statement .irRepeat := fun _ => rfl
theorem irTimingFault : Statement .irTimingFault := fun _ => rfl
theorem releaseTimerExpiry : Statement .releaseTimerExpiry := fun _ => rfl
theorem autoRepeatExpiry : Statement .autoRepeatExpiry := fun _ => rfl
theorem focusTimerExpiry : Statement .focusTimerExpiry := fun _ => rfl
theorem clearTimerExpiry : Statement .clearTimerExpiry := fun _ => rfl
theorem secondsTick : Statement .secondsTick := fun _ => rfl
theorem byteReceived (byte : Byte) : Statement (.byteReceived byte) := fun _ => rfl
theorem resetPinRelease : Statement .resetPinRelease := fun _ => rfl
theorem backupSupplyLoss : Statement .backupSupplyLoss := fun _ => rfl
theorem mainPowerLoss : Statement .mainPowerLoss := fun _ => rfl

end Sys2Proof.Laws.WfLength
end

