-- ==== Sys2Proof/Laws/Statements.lean ====
section
/-! SUPPORT. The words of the statements, taken apart: what settling a state does, and a frame as its areas. -/

namespace Sys2Proof.Safety

open Sys2Proof.Machine

@[simp] theorem settle_link (s : State) : (settle s).link = s.link.kick := rfl

@[simp] theorem settle_tgc (s : State) : (settle s).tgc = { s.tgc with shutter := s.shutterOpen } := rfl

@[simp] theorem settle_frame (s : State) :
    (settle s).pending = s.pending ∧ (settle s).pins = s.pins ∧ (settle s).retained = s.retained ∧
    (settle s).power = s.power ∧ (settle s).flt = s.flt ∧ (settle s).mq = s.mq ∧ (settle s).fe = s.fe ∧
    (settle s).ltc = s.ltc ∧ (settle s).thu = s.thu ∧ (settle s).cdec = s.cdec ∧ (settle s).shc = s.shc ∧
    (settle s).tac = s.tac ∧ (settle s).rrx = s.rrx ∧ (settle s).free = s.free :=
  ⟨rfl, rfl, rfl, rfl, rfl, rfl, rfl, rfl, rfl, rfl, rfl, rfl, rfl, rfl⟩

/-- Starting an idle transmitter takes nothing from what is received, held or counted. -/
@[simp] theorem kick_frame (l : Link) :
    l.kick.rx = l.rx ∧ l.kick.holding = l.holding ∧ l.kick.owed = l.owed ∧ l.kick.resetTaken = l.resetTaken ∧
    l.kick.path = l.path ∧ l.kick.answer = l.answer ∧ l.kick.framing = l.framing ∧ l.kick.gaps = l.gaps ∧
    l.kick.badChecks = l.badChecks ∧ l.kick.overruns = l.overruns ∧ l.kick.lostReports = l.lostReports := by
  unfold Link.kick; repeat' split
  all_goals simp

/-- A transmitter that was started is not started again. -/
@[simp] theorem kick_kick (l : Link) : l.kick.kick = l.kick := by
  rcases l with ⟨_, _, _, _, path, _, tx, reports, _, _, _, _, _, _⟩
  cases tx <;> cases path <;> cases reports <;> rfl

/-- When the shutter is open, in words of propositions. -/
theorem shutterOpen_eq (s : State) :
    s.shutterOpen =
      decide (s.power.powered = true ∧ s.power.mode ≠ .standby ∧ s.tgc.phase = .ready ∧ s.tgc.blank = false) := by
  simp only [State.shutterOpen]
  cases s.power.powered <;> cases s.power.mode <;> cases s.tgc.phase <;> cases s.tgc.blank <;> rfl

/-- A settled state, field by field. -/
theorem settled_iff (s : State) : settled s ↔ s.tgc.shutter = s.shutterOpen ∧ s.link.kick = s.link := by
  constructor
  · intro h
    exact ⟨(congrArg (·.tgc.shutter) h).symm, congrArg (·.link) h⟩
  · rintro ⟨h, h'⟩
    change settle s = s
    simp only [settle, State.updLink, State.updTgc, ← h, h']

/-- Settling twice is settling once. -/
theorem settle_settle (s : State) : settle (settle s) = settle s := by
  refine (settled_iff _).2 ⟨?_, ?_⟩ <;> simp [State.shutterOpen]

/-- A frame, area by area. -/
theorem onlyChanges_iff (l : List Area) (s t : State) : onlyChanges l s t ↔
    (Area.pending ∈ l ∨ t.pending = s.pending) ∧ (Area.pins ∈ l ∨ t.pins = s.pins) ∧
    (Area.position ∈ l ∨ t.retained.position = s.retained.position) ∧
    (Area.map ∈ l ∨ t.retained.map = s.retained.map) ∧
    (Area.lampA ∈ l ∨ t.retained.lampA = s.retained.lampA) ∧
    (Area.lampB ∈ l ∨ t.retained.lampB = s.retained.lampB) ∧
    (Area.cues ∈ l ∨ t.retained.cues = s.retained.cues) ∧
    (Area.user ∈ l ∨ t.retained.user = s.retained.user) ∧
    (Area.response ∈ l ∨ t.retained.response = s.retained.response) ∧
    (Area.keymap ∈ l ∨ t.retained.keymap = s.retained.keymap) ∧
    (Area.params ∈ l ∨ t.retained.params = s.retained.params) ∧
    (Area.power ∈ l ∨ t.power = s.power) ∧
    (Area.linkIn ∈ l ∨ (t.link.rx = s.link.rx ∧ t.link.holding = s.link.holding ∧ t.link.owed = s.link.owed ∧
      t.link.resetTaken = s.link.resetTaken)) ∧
    (Area.linkOut ∈ l ∨ (t.link.path = s.link.path ∧ t.link.answer = s.link.answer ∧ t.link.tx = s.link.tx ∧
      t.link.reports = s.link.reports ∧ t.link.lost = s.link.lost ∧ t.link.lostReports = s.link.lostReports)) ∧
    (Area.linkErrors ∈ l ∨ (t.link.framing = s.link.framing ∧ t.link.gaps = s.link.gaps ∧ t.link.badChecks =
      s.link.badChecks ∧ t.link.overruns = s.link.overruns)) ∧
    (Area.faults ∈ l ∨ (t.flt.first = s.flt.first ∧ t.flt.later = s.flt.later ∧ t.flt.laterCount =
      s.flt.laterCount ∧ t.flt.sticky = s.flt.sticky)) ∧
    (Area.causes ∈ l ∨ (t.flt.opener = s.flt.opener ∧ t.flt.causes = s.flt.causes)) ∧
    (Area.reporting ∈ l ∨ (t.flt.faultOn = s.flt.faultOn ∧ t.flt.eventOn = s.flt.eventOn ∧ t.flt.switchOn =
      s.flt.switchOn ∧ t.flt.waiting = s.flt.waiting)) ∧
    (Area.seconds ∈ l ∨ (t.flt.seconds = s.flt.seconds ∧ t.flt.timer = s.flt.timer)) ∧
    (Area.tgc ∈ l ∨ { t.tgc with shutter := s.tgc.shutter } = s.tgc) ∧
    (Area.shutter ∈ l ∨ t.tgc.shutter = s.tgc.shutter) ∧
    (Area.mq ∈ l ∨ t.mq = s.mq) ∧
    (Area.fe ∈ l ∨ { t.fe with dimmer := s.fe.dimmer } = s.fe) ∧
    (Area.dimmer ∈ l ∨ t.fe.dimmer = s.fe.dimmer) ∧
    (Area.ltc ∈ l ∨ { t.ltc with watch := s.ltc.watch } = s.ltc) ∧
    (Area.watch ∈ l ∨ t.ltc.watch = s.ltc.watch) ∧
    (Area.thu ∈ l ∨ t.thu = s.thu) ∧ (Area.cdec ∈ l ∨ t.cdec = s.cdec) ∧ (Area.shc ∈ l ∨ t.shc = s.shc) ∧
    (Area.tac ∈ l ∨ t.tac = s.tac) ∧ (Area.rrx ∈ l ∨ t.rrx = s.rrx) ∧ (Area.free ∈ l ∨ t.free = s.free) := by
  constructor
  · intro h
    have k : ∀ p, p ∈ l ∨ p.same s t = true := fun p => (Classical.em (p ∈ l)).imp id (h p)
    refine ⟨?_, ?_, ?_, ?_, ?_, ?_, ?_, ?_, ?_, ?_, ?_, ?_, ?_, ?_, ?_, ?_, ?_, ?_, ?_, ?_, ?_, ?_, ?_, ?_, ?_,
      ?_, ?_, ?_, ?_, ?_, ?_, ?_⟩
    · simpa [Area.same] using k .pending
    · simpa [Area.same] using k .pins
    · simpa [Area.same] using k .position
    · simpa [Area.same] using k .map
    · simpa [Area.same] using k .lampA
    · simpa [Area.same] using k .lampB
    · simpa [Area.same] using k .cues
    · simpa [Area.same] using k .user
    · simpa [Area.same] using k .response
    · simpa [Area.same] using k .keymap
    · simpa [Area.same] using k .params
    · simpa [Area.same] using k .power
    · simpa [Area.same, and_assoc] using k .linkIn
    · simpa [Area.same, and_assoc] using k .linkOut
    · simpa [Area.same, and_assoc] using k .linkErrors
    · simpa [Area.same, and_assoc] using k .faults
    · simpa [Area.same, and_assoc] using k .causes
    · simpa [Area.same, and_assoc] using k .reporting
    · simpa [Area.same, and_assoc] using k .seconds
    · simpa [Area.same] using k .tgc
    · simpa [Area.same] using k .shutter
    · simpa [Area.same] using k .mq
    · simpa [Area.same] using k .fe
    · simpa [Area.same] using k .dimmer
    · simpa [Area.same] using k .ltc
    · simpa [Area.same] using k .watch
    · simpa [Area.same] using k .thu
    · simpa [Area.same] using k .cdec
    · simpa [Area.same] using k .shc
    · simpa [Area.same] using k .tac
    · simpa [Area.same] using k .rrx
    · simpa [Area.same] using k .free
  · rintro ⟨h1, h2, h3, h4, h5, h6, h7, h8, h9, h10, h11, h12, h13, h14, h15, h16, h17, h18, h19, h20, h21, h22,
    h23, h24, h25, h26, h27, h28, h29, h30, h31, h32⟩ p hp
    cases p <;> simp_all [Area.same]

end Sys2Proof.Safety
end

