-- ==== Sys2Proof/Tests/Slice0.lean ====
section
/-! SUPPORT. Tests of the model: ill-formed commands, the spec's worked examples, the reset values, and for each
obligation states that meet its premises. Expected results are the spec's, by the place named. -/

namespace Sys2Proof.Tests

open Sys2Proof.Machine Sys2Proof.Safety

/-! ## Well-formedness: for each check a term it refuses -/

theorem test_wf_one_byte : (Instr.move 1 256).wf = false ∧ (Instr.move 1 255).wf = true := by decide
theorem test_wf_two_bytes : (Instr.volume 63 65536).wf = false ∧ (Instr.volume 63 65535).wf = true := by decide
theorem test_wf_four_bytes :
    (Instr.setLampRecord 0 4294967296 200).wf = false ∧ (Instr.setLampRecord 0 4294967295 200).wf = true := by decide
theorem test_wf_curve_length : (Instr.setCurve (List.replicate 16 0)).wf = false := by decide
theorem test_wf_response_length : (Instr.setResponse (List.replicate 12 0)).wf = false := by decide
theorem test_wf_temperature : (Instr.temperature 32768).wf = false ∧ (Instr.temperature (-32768)).wf = true := by
  decide
theorem test_wf_cue_count : (Instr.loadCue 1 255 2 [.pause 1]).wf = false := by decide
theorem test_wf_cue_empty : (Instr.loadCue 1 255 0 []).wf = false := by decide
theorem test_wf_cue_long : (Instr.loadCue 1 255 5 (List.replicate 5 (.pause 1))).wf = false := by decide
theorem test_wf_cue_action : (Instr.loadCue 1 255 1 [.audio 256 0]).wf = false := by decide
theorem test_wf_cue_known_action :
    (Instr.loadCue 1 255 1 [.unknown 4 (List.replicate 7 0)]).wf = false ∧
    (Instr.loadCue 1 255 1 [.unknown 5 (List.replicate 6 0)]).wf = false := by decide
theorem test_wf_keymap_length : (Instr.setKeymap 0 (List.replicate 17 0)).wf = false := by decide
theorem test_wf_enables_length : (Instr.setReportEnables (List.replicate 38 0)).wf = false := by decide
theorem test_wf_frame : (Instr.frameReceived ⟨1, List.replicate 49 0, 0⟩).wf = false := by decide
theorem test_wf_tone : (Instr.blockTimerExpiry [⟨18500, 1001⟩]).wf = false := by decide

/-! ## The table gives no row any bits -/

theorem test_no_word_is_a_command : decodeTableWord 8 5 = none ∧ (State.reset.withFetchWord 8 5).pending = [] := by
  decide

/-! ## Helpers -/

/-- A state made from `State.reset`, as it stands at the end of a step. -/
def fix (f : State → State) : State := settle (f State.reset)

def aMotion : Motion := ⟨.advance 1, .link, none, false⟩
def aCycle : CycleRecord := CycleRecord.start aMotion false
def aFade : FadeRecord := ⟨0, 1000, 50, 49, .linear, .link, none⟩
def aKey : HeldKey := ⟨.panel, 127, .nothing, true⟩
def aHold : HeldRecord := ⟨true, .lampFailed, .paused⟩
def aReply : Reply := ⟨0xD2, okWith .nothing⟩
def aReport : Report := ⟨.event (.tapeState .play .stopped .link 0), 0, 1, false⟩
/-- MOVE ADVANCE 3, the frame that section 11.1 writes out. -/
def aFrame : Frame := ⟨0x08, [1, 3], 0xF2⟩
def aCue : CueEntry := ⟨1, [.pause 1], none⟩
def anItem : Issued := ⟨.change, none⟩
def aSeating : Tgc :=
  { State.reset.tgc with
    phase := .seating, timer := some .seat, cycle := some { aCycle with source := .theShow } }
def showsMove : Motion := { aMotion with source := .theShow, active := true }
def showsFade : FadeRecord := { aFade with origin := .theShow }
def aCut : Cut := ⟨.fadingOut, none, 0, 0, .advance 1, none⟩
/-- The assembler with 15 cells of the cue word of number 1 behind it, in the last block of the stop bit. -/
def lastBlock : Assembly :=
  .assembling 16 4 0 (.one :: List.replicate 11 .zero ++ [.one, .one, .zero])
/-- The same with the parity cell wrong. -/
def badBlock : Assembly :=
  .assembling 16 4 0 (.one :: List.replicate 11 .zero ++ [.one, .zero, .zero])

/-- The state an outcome answers. -/
def of (o : Host.Outcome State Fault Refusal) : State :=
  match o with
  | .next t => t
  | .fault f => nomatch f
  | .refused _ => State.reset

/-! ## Worked examples of the spec -/

/-- Section 11.1: C3 02 08 01 03 F2 is MOVE ADVANCE 3. -/
theorem test_frame_example :
    frameAgrees aFrame = true ∧ decodeRequest aFrame.kind aFrame.payload = .request (.move 1 3) ∧
    encodeRequest (.move 1 3) = some (0x08, [1, 3]) := ⟨rfl, rfl, rfl⟩

theorem test_frame_bytes :
    ∃ t, execAll ([0xC3, 0x02, 0x08, 0x01, 0x03, 0xF2].map .byteReceived) State.reset = .next t ∧
      t.link.holding = [⟨aFrame, 0⟩] := ⟨_, rfl, rfl⟩

/-- R32: MOVE ADVANCE 120 behind an ACTIVE SHOW GOTO 30. -/
theorem test_move_clamped :
    ∃ t, exec (.move 1 120) (fix fun s => { s with mq := [⟨.goto 30, .theShow, some 512, true⟩] }) = .next t ∧
      t.mq = [⟨.goto 30, .theShow, some 512, true⟩, ⟨.advance 90, .link, none, false⟩] ∧
      t.link.answer = some ⟨0x88, okClamped true (.moved false 2)⟩ := ⟨_, rfl, rfl, rfl⟩

/-- R12's table of GOTO distances. -/
theorem test_goto_distances :
    gotoWay 80 10 = (.forward, 21) ∧ gotoWay 45 90 = (.forward, 45) ∧ gotoWay 44 90 = (.backward, 45) ∧
    gotoWay 5 60 = (.backward, 36) ∧ gotoWay 1 0 = (.backward, 1) := by decide

/-- R47's table of durations and steps. -/
theorem test_fade_steps :
    ([0, 19, 20, 39, 100, 1000, 30000].map fun d =>
      (of (exec (.fade 500 d 0) State.reset)).fe.fade.map (·.total)) =
      [some 0, some 0, some 1, some 1, some 5, some 50, some 1500] := by decide

/-- R53: the SMOOTH table's points at every 256, and its middle. -/
theorem test_smooth_points :
    tableShape smoothTable 0 = 0 ∧ tableShape smoothTable 256 = 46 ∧ tableShape smoothTable 2048 = 2048 ∧
    tableShape smoothTable 3840 = 4050 ∧ tableShape smoothTable 4096 = 4096 := by decide

/-- R54: a quotient of -5/2 under the four modes; a quotient of 5/2 to the even number. -/
theorem test_rounding :
    roundQuotient .nearest (-10240) = -2 ∧ roundQuotient .zero (-10240) = -2 ∧ roundQuotient .up (-10240) = -2 ∧
    roundQuotient .down (-10240) = -3 ∧ roundQuotient .nearest 10240 = 2 ∧ roundQuotient .nearest 14336 = 4 ∧
    roundQuotient .up 10240 = 3 := by decide

/-- Section 4.4: LAMP_ON, and a second one while the lamp is being struck. -/
theorem test_lamp_on :
    ∃ t u, exec .lampOn State.reset = .next t ∧ exec .lampOn t = .next u ∧
      t.ltc.strike.phase = .preheat ∧ t.retained.lampA.state = .striking ∧ t.fe.dimmer = 90 ∧
      t.link.answer = some ⟨0x98, okWith (.strike .started)⟩ ∧
      u.link.answer = some ⟨0x98, okWith (.strike .inProgress)⟩ := ⟨_, _, rfl, rfl, rfl, rfl, rfl, rfl, rfl⟩

/-- R92: SEEING and NORMAL at 62 with lamp A LIT, a report of 200. -/
theorem test_temperature_trip :
    ∃ t, exec (.temperature 200)
        (fix fun s => { s with retained.lampA.state := .lit, thu.reading := some 62, thu.seeing := true,
                               thu.state := .normal, thu.target := 1000, thu.effective := 1000 }) = .next t ∧
      t.thu.reading = some 150 ∧ t.thu.state = .trip ∧ t.thu.target = 0 ∧ t.thu.effective = 0 ∧
      t.thu.latch = true ∧ t.flt.sticky = [.overheat] ∧ t.retained.lampA.state = .ready ∧
      t.link.answer = some ⟨0xA0, okClamped true (.temperature 150 .trip true 0)⟩ :=
  ⟨_, rfl, rfl, rfl, rfl, rfl, rfl, rfl, rfl, rfl⟩

/-- R99: I = 900 at 85 degrees, a report of 72, the first slew. -/
theorem test_ceiling_slews :
    ∃ t u, exec (.temperature 72)
        (fix fun s => { s with retained.lampA.state := .lit, thu.reading := some 85, thu.seeing := true,
                               thu.state := .warm, thu.target := 550, thu.effective := 550, fe.level := 900,
                               fe.applied := 550 }) = .next t ∧
      exec .slewExpiry t = .next u ∧ t.thu.target = 940 ∧ t.thu.effective = 550 ∧ t.fe.applied = 550 ∧
      u.thu.effective = 560 ∧ u.fe.applied = 560 := ⟨_, _, rfl, rfl, rfl, rfl, rfl, rfl, rfl⟩

/-- R124: cue 20 among 10, 30 and 50. -/
theorem test_load_cue_example :
    ∃ t, exec (.loadCue 20 255 1 [.pause 1])
        (fix fun s => { s with
          retained.cues := [⟨10, [.pause 1], none⟩, ⟨30, [.pause 1], none⟩, ⟨50, [.pause 1], none⟩]
          shc.pointer := 2 }) = .next t ∧
      t.retained.cues.map (·.number) = [10, 20, 30, 50] ∧ t.shc.pointer = 0 ∧
      t.link.answer = some ⟨0xA8, okWith (.cueLoaded 1 4 false)⟩ := ⟨_, rfl, rfl, rfl, rfl⟩

/-- R164, R165: the interval of the resume ramp with V at 48 and 20, and with RESUME_RAMP at 0. -/
theorem test_resume_ramp :
    (Tac.enter 500 .play none { State.reset.tac with volume := 48 }).ramp = some ⟨48, 10⟩ ∧
    (Tac.enter 500 .play none { State.reset.tac with volume := 20 }).ramp = some ⟨20, 25⟩ ∧
    (Tac.enter 0 .play none { State.reset.tac with volume := 20 }).applied = 20 := by decide

/-- R168: channel 3, key 1 has check 10: 00011 0000001 1010. -/
theorem test_ir_example :
    irChannel 0b0001100000011010#16 = 3 ∧ irKey 0b0001100000011010#16 = 1 ∧ irCheck 3 1 = 10 := by decide

/-- R168, R175: its elements, one after another, are a press of FORWARD. -/
theorem test_ir_press :
    ∃ t, exec (.irFrame (.elements (frameElements 0b0001100000011010#16))) State.reset = .next t ∧
      t.mq = [⟨.advance 1, .remote, none, false⟩] ∧ t.rrx.state = .held := ⟨_, rfl, rfl, rfl⟩

/-- R113: spans 11, 12, 80, 81, 239 and 240. -/
theorem test_burst_classes :
    ([11, 12, 80, 81].map fun n => (trackAll (List.replicate n true ++ [false, false, false]) .idle).2) =
      [[.noise], [.step], [.step], [.malformed]] := by decide

/-- R117: cue number 5 as a word: 0000 0000 0101, two sounding bits, parity silent. -/
theorem test_word_five : (assembleAll (wordBlocks 5) 20 .waiting).2 = [.good 5] := by decide

/-- Section 3.9: step 30 of a SMOOTH fade-out of 100 steps gives I = 783 and D = 868. -/
theorem test_smooth_fade_step :
    ∃ t, exec .fadeStep
        (fix fun s => { s with retained.lampA.state := .lit, thu.effective := 1000, fe.ceiling := 1000,
                               fe.level := 790, fe.fade := some ⟨1000, 0, 100, 29, .smooth, .link, none⟩ }) = .next t ∧
      t.fe.level = 783 ∧ t.fe.applied = 783 ∧ t.fe.dimmer = 868 := ⟨_, rfl, rfl, rfl, rfl⟩

/-- Section 3.9: at k = 7 of a fade down through the floor the lamp goes dark at the keep-warm drive. -/
theorem test_fade_through_floor :
    ∃ t, exec .fadeStep
        (fix fun s => { s with retained.lampA.state := .lit, thu.effective := 1000, fe.ceiling := 1000,
                               fe.level := 40, fe.fade := some ⟨100, 0, 10, 6, .linear, .link, none⟩ }) = .next t ∧
      t.fe.level = 30 ∧ t.fe.applied = 0 ∧ t.fe.dark = true ∧ t.fe.dimmer = 90 := ⟨_, rfl, rfl, rfl, rfl, rfl⟩

/-- Section 4.9: the fourth second boundary brings the wear to the due threshold, and L5. -/
theorem test_wear_reaches_due :
    ∃ t, exec .litTimeExpiry
        (fix fun s => { s with retained.lampA := ⟨.lit, 143996, 10, 0, 0, false⟩, ltc.sub := 49,
                               fe.applied := 850 }) = .next t ∧
      t.retained.lampA.wear = 144000 ∧ t.retained.lampA.due = true ∧ t.flt.sticky = [.lampDue] :=
  ⟨_, rfl, rfl, rfl, rfl⟩

/-- R149: a show stop with one show move ACTIVE and one WAITING takes the WAITING one's item and keeps the ACTIVE one's;
the later CHANGE_DONE takes that. -/
theorem test_show_stop_keeps_the_active_item :
    ∃ t u, exec .showStop (fix fun s => { s with
        shc.state := .running, shc.stopReason := none, tgc := aSeating,
        mq := [showsMove, { showsMove with active := false }],
        shc.issued := [⟨.change, some ⟨1, 90⟩⟩, ⟨.step, none⟩] }) = .next t ∧
      t.mq = [showsMove] ∧ t.shc.issued = [⟨.change, some ⟨1, 90⟩⟩] ∧
      exec (.gateSeated true) t = .next u ∧ u.mq = [] ∧ u.shc.issued = [] := ⟨_, _, rfl, rfl, rfl, rfl, rfl, rfl⟩

/-! ## The hold timer and the PAUSE key -/

/-- A show in a timed pause. -/
def timedPause : State := fix fun s => { s with shc.state := .paused, shc.hold := some 5, tac.state := .paused }

/-- R142's table and "the hold timer stops", in both orders; its last sentence says the reverse (log 49). -/
theorem test_pause_key_and_hold_expiry_by_the_table :
    (pauseKey (holdExpired timedPause)).shc.state = .paused ∧
    (pauseKey (holdExpired timedPause)).shc.hold = none ∧
    (pauseKey timedPause).shc.hold = none ∧
    (holdExpired (pauseKey timedPause)).shc.state = .running := by decide

/-! ## Reset (R209 and each chapter's reset section) -/

theorem test_reset_values :
    State.reset.tac.volume = 48 ∧ State.reset.tac.state = .stopped ∧ State.reset.thu.effective = 400 ∧
    State.reset.shc.state = .stopped ∧ State.reset.shc.stopReason = some .reset ∧ State.reset.fe.level = 0 ∧
    State.reset.retained.position = .unknown ∧ State.reset.flt.switchOn = true ∧
    State.reset.power.startKind = .cold := by decide

theorem test_reset_is_a_cold_start :
    exec .powerOn { State.reset with power.powered := false } = .next State.reset := rfl

theorem test_idle_step : step State.reset = .next State.reset := rfl

/-! ## Premises: for each obligation, and each clause of it, a state and operands that meet them (a clause whose
premises are all among another's is met by that one's) -/

theorem test_premises_StepRunsFrontCommand :
    (∃ (s : State) (i : Instr) (rest : List Instr), s.pending = i :: rest) ∧
    (∃ (s : State), s.pending = []) :=
  ⟨⟨fix fun s => { s with pending := .blank :: [] }, .blank, [], rfl⟩,
   ⟨fix fun s => { s with pending := [] }, by decide⟩⟩

theorem test_premises_SuppliesDecideColdOrWarm :
    (∃ (s : State), s.power.powered = false ∧ s.power.signature ≠ .agrees ∧ s.pins = Pins.rest ∧ s.tac.state =
      .stopped ∧ s.tac.brake = none ∧ s.ltc.strike.lamp = .a) ∧
    (∃ (s : State), s.power.powered = false ∧ s.power.signature = .agrees ∧ s.pins.resetPin = false) ∧
    (∃ (s : State), s.power.powered = true ∧ s.power.mode ≠ .standby) ∧
    (∃ (s : State), s.live = true ∧ s.power.mode = .standby ∧ s.power.signature = .agrees ∧ s.link.resetTaken = false)
      :=
  ⟨⟨fix fun s => { s with
        power.powered := false, tac.state := .stopped, tac.brake := none, ltc.strike.lamp := .a }, by decide⟩,
   ⟨fix fun s => { s with power.powered := false, power.signature := .agrees, pins.resetPin := false }, by decide⟩,
   ⟨fix fun s => { s with power.powered := true }, by decide⟩,
   ⟨fix fun s => { s with
        power.mode := .standby, power.signature := .agrees, link.resetTaken := false }, by decide⟩⟩

theorem test_premises_SoftResetsKeepRetained :
    (∃ (s : State) (r : Reply) (rest : List Reply) (part : Nat), s.live = true ∧ s.link.resetTaken = true ∧ s.link.tx
      = .reply part ∧ s.link.path = r :: rest ∧ replyParts r ≤ part + 1 ∧ r.kind = 0xD2 ∧ r.response.result = .ok) ∧
    (∃ (s : State) (t : State), s.live = true ∧ exec .softReset s = .next t) ∧
    (∃ (s : State), s.power.powered = true ∧ s.pins.resetPin = true ∧ s.pins.trayPresent = true) :=
  ⟨⟨fix fun s => { s with
        link.resetTaken := true, link.tx := .reply 0, link.path := aReply :: [] }, aReply, [], 0, by decide⟩,
   ⟨State.reset, _, by decide, rfl⟩,
   ⟨fix fun s => { s with power.powered := true, pins.resetPin := true, pins.trayPresent := true }, by decide⟩⟩

theorem test_premises_RequestLayoutsRoundTrip :
    ∃ (i : Instr) (kind : Byte) (payload : List Byte), i.wf = true ∧ encodeRequest i = some (kind, payload) :=
  ⟨.move 1 3, 8, [1, 3], by decide⟩

theorem test_premises_ReceivingHoldsFramesOrCountsErrors :
    (∃ (s : State) (payload : List Byte), alive s ∧ s.link.rx = .hunt ∧ payload.length ≤ 48 ∧ s.link.holding.length <
      4) ∧
    (∃ (s : State) (b : Byte), alive s ∧ s.link.rx = .hunt ∧ b ≠ 0xC3) ∧
    (∃ (s : State) (b : Byte), alive s ∧ s.link.rx = .count ∧ 48 < b.toNat) ∧
    (∃ (s : State), alive s ∧ s.link.rx ≠ .hunt) ∧
    (∃ (s : State), alive s ∧ s.link.holding.length < 4) ∧
    (∃ (s : State) (older : List HeldFrame) (newest : HeldFrame), alive s ∧ s.power.mode ≠ .standby ∧ s.link.holding =
      older ++ [newest] ∧ 4 ≤ s.link.holding.length) ∧
    (∃ (s : State) (older : List HeldFrame) (newest : HeldFrame), alive s ∧ s.power.mode = .standby ∧ s.link.holding =
      older ++ [newest] ∧ 4 ≤ s.link.holding.length) :=
  ⟨⟨fix fun s => { s with
        link.rx := .hunt, link.holding := List.replicate 3 ⟨aFrame, 0⟩ }, [], ⟨rfl, rfl⟩, by decide⟩,
   ⟨fix fun s => { s with link.rx := .hunt }, 0xC2, ⟨rfl, rfl⟩, by decide⟩,
   ⟨fix fun s => { s with link.rx := .count }, 49, ⟨rfl, rfl⟩, by decide⟩,
   ⟨fix fun s => { s with link.rx := .count }, ⟨rfl, rfl⟩, by decide⟩,
   ⟨fix fun s => { s with link.holding := List.replicate 3 ⟨aFrame, 0⟩ }, ⟨rfl, rfl⟩, by decide⟩,
   ⟨fix fun s => { s with
        link.holding := (List.replicate 3 ⟨aFrame, 0⟩) ++ [⟨aFrame, 0⟩] }, List.replicate 3 ⟨aFrame, 0⟩, ⟨aFrame,
          0⟩, ⟨rfl, rfl⟩, by decide⟩,
   ⟨fix fun s => { s with
        power.mode := .standby,
        link.holding := (List.replicate 3 ⟨aFrame, 0⟩) ++ [⟨aFrame, 0⟩] }, List.replicate 3 ⟨aFrame, 0⟩, ⟨aFrame,
          0⟩, ⟨rfl, rfl⟩, by decide⟩⟩

theorem test_premises_FramesAreTakenAndAnswered :
    (∃ (s : State) (h : HeldFrame) (rest : List HeldFrame) (i : Instr), s.live = true ∧ s.link.mayTake = true ∧
      s.link.holding = h :: rest ∧ frameAgrees h.frame = true ∧ decodeRequest h.frame.kind h.frame.payload = .request
      i) ∧
    (∃ (s : State) (h : HeldFrame) (rest : List HeldFrame), alive s ∧ s.link.mayTake = true ∧ s.link.holding = h ::
      rest ∧ frameAgrees h.frame = false) ∧
    (∃ (s : State) (h : HeldFrame) (rest : List HeldFrame), alive s ∧ s.link.mayTake = true ∧ s.link.holding = h ::
      rest ∧ frameAgrees h.frame = true ∧ decodeRequest h.frame.kind h.frame.payload = .unknownKind) ∧
    (∃ (s : State) (h : HeldFrame) (rest : List HeldFrame), alive s ∧ s.link.mayTake = true ∧ s.link.holding = h ::
      rest ∧ frameAgrees h.frame = true ∧ decodeRequest h.frame.kind h.frame.payload = .badLength) ∧
    (∃ (s : State) (h : HeldFrame) (rest : List HeldFrame), alive s ∧ s.link.mayTake = true ∧ s.link.holding = h ::
      rest ∧ frameAgrees h.frame = true ∧ decodeRequest h.frame.kind h.frame.payload = .unspelled ∧ s.power.mode ≠
      .standby) ∧
    (∃ (s : State) (h : HeldFrame) (rest : List HeldFrame), alive s ∧ s.link.mayTake = true ∧ s.link.holding = h ::
      rest ∧ frameAgrees h.frame = true ∧ decodeRequest h.frame.kind h.frame.payload = .unspelled ∧ s.power.mode =
      .standby) ∧
    (∃ (s : State) (i : Instr), alive s ∧ s.power.mode = .standby ∧ s.link.resetTaken = false ∧ (encodeRequest
      i).isSome ∧ lengthOk i = true ∧ i ≠ .wake ∧ i ≠ .reset ∧ i ≠ .getStatus) :=
  ⟨⟨fix fun s => { s with link.holding := ⟨aFrame, 0⟩ :: [] }, ⟨aFrame, 0⟩, [], .move 1 3, by decide⟩,
   ⟨fix fun s => { s with
        link.holding := ⟨⟨8, [1, 3], 0xF1⟩, 0⟩ :: [] }, ⟨⟨8, [1, 3], 0xF1⟩, 0⟩, [], ⟨rfl, rfl⟩, by decide⟩,
   ⟨fix fun s => { s with
        link.holding := ⟨⟨0x60, [], 0xA0⟩, 0⟩ :: [] }, ⟨⟨0x60, [], 0xA0⟩, 0⟩, [], ⟨rfl, rfl⟩, by decide⟩,
   ⟨fix fun s => { s with
        link.holding := ⟨⟨8, [1], 0xF6⟩, 0⟩ :: [] }, ⟨⟨8, [1], 0xF6⟩, 0⟩, [], ⟨rfl, rfl⟩, by decide⟩,
   ⟨fix fun s => { s with
        link.holding := [⟨⟨0x4B, [2], 0xB2⟩, 0⟩] }, ⟨⟨0x4B, [2], 0xB2⟩, 0⟩, [], ⟨rfl, rfl⟩, by decide⟩,
   ⟨fix fun s => { s with
        link.holding := [⟨⟨0x38, [5], 0xC2⟩, 0⟩],
        power.mode := .standby }, ⟨⟨0x38, [5], 0xC2⟩, 0⟩, [], ⟨rfl, rfl⟩, by decide⟩,
   ⟨fix fun s => { s with power.mode := .standby, link.resetTaken := false }, .blank, ⟨rfl, rfl⟩, by decide⟩⟩

theorem test_premises_RepliesAreSentInOrder :
    (∃ (s : State), alive s ∧ s.link.owed ≠ 0 ∧ s.link.path.length < 2) ∧
    (∃ (s : State), alive s ∧ (s.link.owed = 0 ∨ 2 ≤ s.link.path.length)) ∧
    (∃ (s : State) (sent : Report) (r : Report) (mark : Bool) (rest : List Report), alive s ∧ s.link.tx = .report sent
      mark ∧ s.link.path = [] ∧ s.link.reports = r :: rest) ∧
    (∃ (s : State) (sent : Report) (mark : Bool), alive s ∧ s.link.tx = .report sent mark ∧ s.link.path ≠ []) ∧
    (∃ (s : State) (part : Nat) (r : Reply) (rest : List Reply), alive s ∧ s.link.tx = .reply part ∧ s.link.path = r
      :: rest ∧ part + 1 < replyParts r) ∧
    (∃ (s : State) (part : Nat) (r : Reply) (q : Reply) (rest : List Reply), alive s ∧ s.link.resetTaken = false ∧
      s.link.tx = .reply part ∧ s.link.path = r :: q :: rest ∧ replyParts r ≤ part + 1) :=
  ⟨⟨fix fun s => { s with link.owed := 255, link.path := [aReply], link.tx := .reply 0 }, ⟨rfl, rfl⟩, by decide⟩,
   ⟨fix fun s => { s with
        link.owed := 255, link.path := [aReply, aReply], link.tx := .reply 0 }, ⟨rfl, rfl⟩, by decide⟩,
   ⟨fix fun s => { s with
        link.tx := .report aReport false, link.path := [],
        link.reports := aReport :: [] }, aReport, aReport, false, [], ⟨rfl, rfl⟩, by decide⟩,
   ⟨fix fun s => { s with
        link.tx := .report aReport false, link.path := [aReply] }, aReport, false, ⟨rfl, rfl⟩, by decide⟩,
   ⟨fix fun s => { s with
        link.tx := .reply 0,
        link.path := ⟨0x81, okWith (.tray State.reset.tgc .unknown Retained.unseenMap)⟩ :: [] }, 0, ⟨0x81, okWith
          (.tray State.reset.tgc .unknown Retained.unseenMap)⟩, [], ⟨rfl, rfl⟩, by decide⟩,
   ⟨fix fun s => { s with
        link.resetTaken := false, link.tx := .reply 0,
        link.path := aReply :: aReply :: [] }, 0, aReply, aReply, [], ⟨rfl, rfl⟩, by decide⟩⟩

theorem test_premises_ReportsAreSentKeptOrReleased :
    (∃ (b : ReportBody) (s : State), b.enabled s.flt = false) ∧
    (∃ (b : ReportBody) (s : State), b.enabled s.flt = true ∧ s.flt.switchOn = true) ∧
    (∃ (b : ReportBody) (s : State), b.enabled s.flt = true ∧ s.flt.switchOn = false) ∧
    (∃ (l : List Report), l.Pairwise (fun a b => a.body.key < b.body.key)) ∧
    (∃ (s : State) (values : List Nat), takes s ∧ values.length = 39 ∧ (∀ v ∈ values, v = 0 ∨ v = 1)) ∧
    (∃ (s : State) (values : List Nat), takes s ∧ values.length = 39 ∧ (∃ v ∈ values, 1 < v)) ∧
    (∃ (s : State) (values : List Nat), takes s ∧ values.length ≠ 39) ∧
    (∃ (s : State), takes s ∧ s.flt.switchOn = false ∧ s.link.reports.length + s.flt.waiting.length ≤ 16) ∧
    (∃ (s : State), takes s ∧ s.flt.switchOn = true) ∧
    (∃ (s : State), runs s ∧ s.flt.timer = true) :=
  ⟨⟨.event (.changeDone .home .link none .unknown .empty), State.reset, by decide⟩,
   ⟨.event (.tapeState .play .stopped .link 0), fix fun s => { s with flt.switchOn := true }, by decide⟩,
   ⟨.event (.tapeState .play .stopped .link 0), fix fun s => { s with flt.switchOn := false }, by decide⟩,
   ⟨[aReport], by decide⟩,
   ⟨State.reset, List.replicate 39 1, ⟨⟨rfl, rfl⟩, rfl⟩, by decide⟩,
   ⟨State.reset, 2 :: List.replicate 38 1, ⟨⟨rfl, rfl⟩, rfl⟩, by decide⟩,
   ⟨State.reset, [], ⟨⟨rfl, rfl⟩, rfl⟩, by decide⟩,
   ⟨fix fun s => { s with
        flt.switchOn := false, flt.waiting := [aReport], link.reports := List.replicate 15 aReport,
        link.tx := .reply 0 }, ⟨⟨rfl, rfl⟩, rfl⟩, by decide⟩,
   ⟨fix fun s => { s with flt.switchOn := true }, ⟨⟨rfl, rfl⟩, rfl⟩, by decide⟩,
   ⟨fix fun s => { s with flt.timer := true }, ⟨rfl, rfl⟩, by decide⟩⟩

theorem test_premises_ReadsChangeOnlyTheReply :
    (∃ (s : State), takes s ∧ s.shc.hold = none) ∧
    (∃ (s : State) (h : Nat), takes s ∧ s.shc.hold = some h) ∧
    (∃ (s : State) (index : Nat) (e : CueEntry), takes s ∧ s.retained.cues[index]? = some e ∧ (∀ x ∈
      s.retained.cues.take index, x.number ≠ e.number)) ∧
    (∃ (s : State) (number : Nat), takes s ∧ (∀ e ∈ s.retained.cues, e.number ≠ number)) ∧
    (∃ (s : State) (selector : Nat) (value : Nat), takes s ∧ (2 ≤ selector ∨ (selector = 1 ∧ s.retained.cues.length ≤
      value))) ∧
    (∃ (s : State) (selector : Nat), takes s ∧ 5 ≤ selector) :=
  ⟨⟨fix fun s => { s with shc.hold := none }, ⟨⟨rfl, rfl⟩, rfl⟩, by decide⟩,
   ⟨fix fun s => { s with shc.hold := some 1 }, 1, ⟨⟨rfl, rfl⟩, rfl⟩, by decide⟩,
   ⟨fix fun s => { s with retained.cues := [aCue] }, 0, aCue, ⟨⟨rfl, rfl⟩, rfl⟩, by decide⟩,
   ⟨State.reset, 1, ⟨⟨rfl, rfl⟩, rfl⟩, by decide⟩,
   ⟨State.reset, 1, 1, ⟨⟨rfl, rfl⟩, rfl⟩, by decide⟩,
   ⟨State.reset, 5, ⟨⟨rfl, rfl⟩, rfl⟩, by decide⟩⟩

theorem test_premises_MoveJoinsOrMerges :
    (∃ (s : State) (kind : Nat) (n : Nat) (new : Move), takes s ∧ 1 ≤ n ∧ n < 256 ∧ s.mq = [] ∧ ((kind = 1 ∧ new =
      .advance (min n 90)) ∨ (kind = 2 ∧ new = .back (min n 90)))) ∧
    (∃ (s : State), takes s ∧ s.mq.length < 8) ∧
    (∃ (s : State) (before : List Motion) (kind : Nat) (m : Nat) (n : Nat) (old : Move) (new : Move), takes s ∧ 1 ≤ n
      ∧ n < 256 ∧ ((kind = 1 ∧ old = .advance m ∧ new = .advance (min (m + min n 90) 90)) ∨ (kind = 2 ∧ old = .back m
      ∧ new = .back (min (m + min n 90) 90))) ∧ s.mq = before ++ [⟨old, .link, none, false⟩]) ∧
    (∃ (s : State) (before : List Motion) (tail : Motion) (kind : Nat) (n : Nat) (new : Move), takes s ∧ 1 ≤ n ∧ n <
      256 ∧ ((kind = 1 ∧ new = .advance (min n 90)) ∨ (kind = 2 ∧ new = .back (min n 90))) ∧ s.mq = before ++ [tail] ∧
      (tail.active = true ∨ tail.source ≠ .link ∨ tail.tag ≠ none ∨ (∀ m, tail.move ≠ (if kind = 1 then .advance m
      else .back m))) ∧ s.mq.length < 8) ∧
    (∃ (s : State) (before : List Motion) (tail : Motion) (kind : Nat) (n : Nat) (new : Move), takes s ∧ 1 ≤ n ∧ n <
      256 ∧ ((kind = 1 ∧ new = .advance (min n 90)) ∨ (kind = 2 ∧ new = .back (min n 90))) ∧ s.mq = before ++ [tail] ∧
      (tail.active = true ∨ tail.source ≠ .link ∨ tail.tag ≠ none ∨ (∀ m, tail.move ≠ (if kind = 1 then .advance m
      else .back m))) ∧ 8 ≤ s.mq.length) ∧
    (∃ (s : State), takes s ∧ 8 ≤ s.mq.length) ∧
    (∃ (s : State) (kind : Nat) (arg : Nat), takes s ∧ moveOperand kind arg = none) :=
  ⟨⟨fix fun s => { s with mq := [] }, 1, 255, .advance (min 255 90), ⟨⟨rfl, rfl⟩, rfl⟩, by decide⟩,
   ⟨fix fun s => { s with mq := List.replicate 7 aMotion }, ⟨⟨rfl, rfl⟩, rfl⟩, by decide⟩,
   ⟨fix fun s => { s with
        mq := [] ++ [⟨(.advance 1), .link, none, false⟩] }, [], 1, 1, 1, .advance 1, .advance (min (1 + min 1 90)
          90), ⟨⟨rfl, rfl⟩, rfl⟩, by decide⟩,
   ⟨fix fun s => { s with
        mq := List.replicate 6 aMotion ++ [{ aMotion with source := .remote }] }, List.replicate 6 aMotion, {
          aMotion with source := .remote }, 1, 255, .advance 90, ⟨⟨rfl, rfl⟩, rfl⟩, by decide, by decide, by decide,
          rfl, .inr (.inl (by decide)), by decide⟩,
   ⟨fix fun s => { s with
        mq := List.replicate 7 aMotion ++ [{ aMotion with move := .home }] }, List.replicate 7 aMotion, { aMotion
          with move := .home }, 1, 255, .advance 90, ⟨⟨rfl, rfl⟩, rfl⟩, by decide, by decide, by decide, rfl, .inr
          (.inr (.inr fun _ h => nomatch h)), by decide⟩,
   ⟨fix fun s => { s with mq := List.replicate 8 aMotion }, ⟨⟨rfl, rfl⟩, rfl⟩, by decide⟩,
   ⟨State.reset, 1, 0, ⟨⟨rfl, rfl⟩, rfl⟩, by decide⟩⟩

theorem test_premises_HaltMotionEmptiesTheQueue :
    (∃ (s : State), takes s ∧ showAtRest s ∧ (∀ m ∈ s.mq, m.active = false) ∧ s.tgc.cycle = none) ∧
    (∃ (s : State), takes s ∧ (∀ m ∈ s.mq, m.active = false) ∧ s.tgc.cycle = none ∧ s.shc.issued.length = (s.mq.filter
      fun m => m.source == .theShow).length ∧ (∀ x ∈ s.shc.issued, x.purpose = .change ∨ x.purpose = .step ∨ x.purpose
      = .resync)) ∧
    (∃ (s : State) (m : Motion) (rest : List Motion) (c : CycleRecord), takes s ∧ showAtRest s ∧ s.mq = m :: rest ∧
      m.active = true ∧ (∀ x ∈ rest, x.active = false) ∧ s.tgc.cycle = some c) :=
  ⟨⟨fix fun s => { s with tgc.cycle := none, mq := [aMotion] }, ⟨⟨rfl, rfl⟩, rfl⟩, by decide⟩,
   ⟨fix fun s => { s with tgc.cycle := none }, ⟨⟨rfl, rfl⟩, rfl⟩, by decide⟩,
   ⟨fix fun s => { s with
        mq := ({ aMotion with active := true }) :: ([aMotion]),
        tgc.cycle := some aCycle }, { aMotion with active := true }, [aMotion], aCycle, ⟨⟨rfl, rfl⟩, rfl⟩, by decide⟩⟩

theorem test_premises_BlankAndTrayPresence :
    (∃ (s : State), takes s) ∧
    (∃ (s : State), runs s ∧ s.tgc.phase = .ready ∧ s.tgc.gateLoad ≠ .slide) ∧
    (∃ (s : State), runs s ∧ s.tgc.phase = .ready ∧ s.tgc.gateLoad = .slide) :=
  ⟨⟨State.reset, ⟨rfl, rfl⟩, rfl⟩,
   ⟨fix fun s => { s with tgc.phase := .ready }, ⟨rfl, rfl⟩, by decide⟩,
   ⟨fix fun s => { s with tgc.phase := .ready, tgc.gateLoad := .slide }, ⟨rfl, rfl⟩, by decide⟩⟩

theorem test_premises_TakeEntryStartsOrRefuses :
    (∃ (s : State) (m : Motion) (rest : List Motion), runs s ∧ s.mq = m :: rest ∧ m.active = false ∧ s.tgc.present =
      true ∧ (s.tgc.phase = .ready ∨ s.tgc.phase = .jammed ∨ s.tgc.phase = .unseated) ∧ moveRefused m.move s.tgc.phase
      = false) ∧
    (∃ (s : State) (m : Motion) (rest : List Motion), runs s ∧ s.mq = m :: rest ∧ m.active = false ∧ s.tgc.present =
      true ∧ moveRefused m.move s.tgc.phase = true ∧ m.source ≠ .theShow) ∧
    (∃ (s : State) (m : Motion) (rest : List Motion) (item : Issued) (more : List Issued), runs s ∧ s.mq = m :: rest ∧
      m.active = false ∧ s.tgc.present = true ∧ moveRefused m.move s.tgc.phase = true ∧ m.source = .theShow ∧
      s.shc.issued = item :: more ∧ (item.purpose = .change ∨ item.purpose = .step ∨ item.purpose = .resync)) ∧
    (∃ (s : State), runs s ∧ (s.tgc.present = false ∨ s.mq = [])) :=
  ⟨⟨fix fun s => { s with
        mq := ({ aMotion with active := false }) :: [], tgc.present := true,
        tgc.phase := .ready }, { aMotion with active := false }, [], ⟨rfl, rfl⟩, by decide⟩,
   ⟨fix fun s => { s with
        mq := ({ aMotion with active := false }) :: [], tgc.present := true,
        tgc.phase := .jammed }, { aMotion with active := false }, [], ⟨rfl, rfl⟩, by decide⟩,
   ⟨fix fun s => { s with
        mq := ({ aMotion with active := false, source := .theShow }) :: [], tgc.present := true,
        shc.issued := ({ anItem with purpose := .change }) :: [],
        tgc.phase := .jammed }, { aMotion with active := false, source := .theShow }, [], { anItem with purpose :=
          .change }, [], ⟨rfl, rfl⟩, by decide⟩,
   ⟨fix fun s => { s with tgc.present := false }, ⟨rfl, rfl⟩, by decide⟩⟩

theorem test_premises_LiftChoosesThePhase :
    (∃ (s : State) (c : CycleRecord), runs s ∧ s.tgc.phase = .closing ∧ s.tgc.timer = some .settle ∧ s.tgc.cycle =
      some c ∧ s.pins.gateUp = false) ∧
    (∃ (s : State) (c : CycleRecord), runs s ∧ s.tgc.phase = .lifting ∧ s.tgc.timer = some .lift ∧ s.tgc.cycle = some
      c ∧ c.attempt < 3) ∧
    (∃ (s : State) (c : CycleRecord), runs s ∧ s.tgc.phase = .lifting ∧ s.tgc.timer = some .release ∧ s.tgc.cycle =
      some c ∧ s.pins.gateUp = false) ∧
    (∃ (s : State) (c : CycleRecord), runs s ∧ s.tgc.phase = .lifting ∧ s.tgc.timer = some .lift ∧ s.tgc.cycle = some
      c ∧ s.pins.home = false ∧ (s.pins.slidePresent = false ∨ s.retained.position = .known 0) ∧ c.attempt < 2) ∧
    (∃ (s : State) (c : CycleRecord), runs s ∧ s.tgc.phase = .lifting ∧ s.tgc.timer = some .lift ∧ s.tgc.cycle = some
      c ∧ s.pins.home = false ∧ (s.pins.slidePresent = false ∨ s.retained.position = .known 0) ∧ 2 ≤ c.attempt) ∧
    (∃ (s : State) (c : CycleRecord), runs s ∧ s.tgc.phase = .closing ∧ s.tgc.timer = some .settle ∧ s.tgc.cycle =
      some c ∧ s.pins.gateUp = true ∧ s.pins.home = false ∧ (s.pins.slidePresent = false ∨ s.retained.position =
      .known 0)) ∧
    (∃ (s : State) (c : CycleRecord), runs s ∧ s.tgc.phase = .lifting ∧ s.tgc.timer = some .release ∧ s.tgc.cycle =
      some c ∧ 1 ≤ c.attempt ∧ s.pins.gateUp = true ∧ s.pins.home = false ∧ (s.pins.slidePresent = false ∨
      s.retained.position = .known 0)) ∧
    (∃ (s : State) (c : CycleRecord), runs s ∧ s.tgc.phase = .lifting ∧ s.tgc.timer = some .lift ∧ s.tgc.cycle = some
      c ∧ c.attempt < 2 ∧ s.pins.home = true ∧ c.seatRetried = false ∧ (c.move = .home ∨ c.homeFirst = true)) ∧
    (∃ (s : State) (c : CycleRecord) (p : Slot), runs s ∧ s.tgc.phase = .lifting ∧ s.tgc.timer = some .lift ∧
      s.tgc.cycle = some c ∧ c.attempt < 2 ∧ s.pins.slidePresent = true ∧ s.pins.gateSeated = false ∧
      s.retained.position = .known p ∧ p ≠ 0 ∧ dropsAt c p) ∧
    (∃ (p : Slot) (q : Slot), p ≠ q) :=
  ⟨⟨fix fun s => { s with
        tgc.phase := .closing, tgc.timer := some .settle, tgc.cycle := some aCycle,
        pins.gateUp := false }, aCycle, ⟨rfl, rfl⟩, by decide⟩,
   ⟨fix fun s => { s with
        tgc.phase := .lifting, tgc.timer := some .lift,
        tgc.cycle := some ({ aCycle with attempt := 2 }) }, { aCycle with attempt := 2 }, ⟨rfl, rfl⟩, by decide⟩,
   ⟨fix fun s => { s with
        tgc.phase := .lifting, tgc.timer := some .release, tgc.cycle := some ({ aCycle with attempt := 2 }),
        pins.gateUp := false }, { aCycle with attempt := 2 }, ⟨rfl, rfl⟩, by decide⟩,
   ⟨fix fun s => { s with
        tgc.phase := .lifting, tgc.timer := some .lift, tgc.cycle := some aCycle, pins.home := false,
        pins.slidePresent := false }, aCycle, ⟨rfl, rfl⟩, by decide⟩,
   ⟨fix fun s => { s with
        tgc.phase := .lifting, tgc.timer := some .lift, tgc.cycle := some { aCycle with attempt := 2 },
        pins.home := false, pins.slidePresent := false }, { aCycle with attempt := 2 }, ⟨rfl, rfl⟩, by decide⟩,
   ⟨fix fun s => { s with
        tgc.phase := .closing, tgc.timer := some .settle, tgc.cycle := some aCycle, pins.gateUp := true,
        pins.home := false, pins.slidePresent := false }, aCycle, ⟨rfl, rfl⟩, by decide⟩,
   ⟨fix fun s => { s with
        tgc.phase := .lifting, tgc.timer := some .release, tgc.cycle := some aCycle, pins.gateUp := true,
        pins.home := false, pins.slidePresent := false }, aCycle, ⟨rfl, rfl⟩, by decide⟩,
   ⟨fix fun s => { s with
        tgc.phase := .lifting, tgc.timer := some .lift,
        tgc.cycle := some ({ aCycle with seatRetried := false, move := .home }),
        pins.home := true }, { aCycle with seatRetried := false, move := .home }, ⟨rfl, rfl⟩, by decide⟩,
   ⟨fix fun s => { s with
        tgc.phase := .lifting, tgc.timer := some .lift, tgc.cycle := some { aCycle with move := .goto 90 },
        pins.slidePresent := true, pins.gateSeated := false,
        retained.position := .known 90 }, { aCycle with move := .goto 90 }, 90, ⟨rfl, rfl⟩, by decide⟩,
   ⟨90, 1, by decide⟩⟩

theorem test_premises_IndexPulsesMoveTheTray :
    (∃ (s : State) (c : CycleRecord) (d : Direction) (p : Slot), runs s ∧ s.tgc.phase = .indexing ∧ s.tgc.cycle = some
      c ∧ c.direction = some d ∧ s.pins.slidePresent = false ∧ s.retained.position = .known p ∧ d = .forward) ∧
    (∃ (s : State) (c : CycleRecord) (d : Direction) (p : Slot), runs s ∧ s.tgc.phase = .indexing ∧ s.tgc.cycle = some
      c ∧ c.direction = some d ∧ s.pins.slidePresent = false ∧ s.retained.position = .known p ∧ d = .backward) ∧
    (∃ (s : State) (c : CycleRecord) (d : Direction), runs s ∧ s.tgc.phase = .indexing ∧ s.tgc.cycle = some c ∧
      c.direction = some d ∧ s.pins.slidePresent = false ∧ s.retained.position = .unknown) ∧
    (∃ (s : State) (c : CycleRecord) (d : Direction), runs s ∧ s.tgc.phase = .indexing ∧ s.tgc.cycle = some c ∧
      c.direction = some d ∧ s.pins.slidePresent = false ∧ c.cancel = false ∧ 1 < c.steps) ∧
    (∃ (s : State) (c : CycleRecord) (d : Direction), runs s ∧ s.tgc.phase = .indexing ∧ s.tgc.cycle = some c ∧
      c.direction = some d ∧ s.pins.slidePresent = false ∧ (c.cancel = true ∨ c.steps ≤ 1)) ∧
    (∃ (s : State) (c : CycleRecord) (d : Direction) (p : Slot), runs s ∧ s.tgc.phase = .indexing ∧ s.tgc.cycle = some
      c ∧ c.direction = some d ∧ (c.cancel = true ∨ c.steps ≤ 1) ∧ s.retained.position = .known p ∧ stepSlot d p ≠ 0 ∧
      s.pins.slidePresent = true ∧ s.pins.gateSeated = false) ∧
    (∃ (s : State) (c : CycleRecord), runs s ∧ s.tgc.phase = .homing ∧ s.tgc.cycle = some c ∧ c.pulses < 91) ∧
    (∃ (s : State), runs s ∧ s.tgc.phase ≠ .indexing ∧ s.tgc.phase ≠ .homing) :=
  ⟨⟨fix fun s => { s with
        tgc.phase := .indexing, tgc.cycle := some ({ aCycle with direction := some .forward }),
        pins.slidePresent := false,
        retained.position := .known 5 }, { aCycle with direction := some .forward }, .forward, 5, ⟨rfl, rfl⟩, by
          decide⟩,
   ⟨fix fun s => { s with
        tgc.phase := .indexing, tgc.cycle := some ({ aCycle with direction := some .backward }),
        pins.slidePresent := false,
        retained.position := .known 5 }, { aCycle with direction := some .backward }, .backward, 5, ⟨rfl, rfl⟩, by
          decide⟩,
   ⟨fix fun s => { s with
        tgc.phase := .indexing, tgc.cycle := some ({ aCycle with direction := some .forward }),
        pins.slidePresent := false,
        retained.position := .unknown }, { aCycle with direction := some .forward }, .forward, ⟨rfl, rfl⟩, by decide⟩,
   ⟨fix fun s => { s with
        tgc.phase := .indexing, tgc.cycle := some ({ aCycle with direction := some .forward, steps := 2 }),
        pins.slidePresent := false }, { aCycle with direction := some .forward, steps := 2 }, .forward, ⟨rfl, rfl⟩,
          by decide⟩,
   ⟨fix fun s => { s with
        tgc.phase := .indexing, tgc.cycle := some ({ aCycle with direction := some .forward, cancel := true }),
        pins.slidePresent := false }, { aCycle with direction := some .forward, cancel := true }, .forward, ⟨rfl,
          rfl⟩, by decide⟩,
   ⟨fix fun s => { s with
        tgc.phase := .indexing, tgc.cycle := some ({ aCycle with direction := some .backward, cancel := true }),
        retained.position := .known 90, pins.slidePresent := true,
        pins.gateSeated := false }, { aCycle with direction := some .backward, cancel := true }, .backward, 90,
          ⟨rfl, rfl⟩, by decide⟩,
   ⟨fix fun s => { s with
        tgc.phase := .homing,
        tgc.cycle := some ({ aCycle with pulses := 90 }) }, { aCycle with pulses := 90 }, ⟨rfl, rfl⟩, by decide⟩,
   ⟨State.reset, ⟨rfl, rfl⟩, by decide⟩⟩

theorem test_premises_DropsSetTheMap :
    (∃ (s : State) (c : CycleRecord) (m : Motion) (rest : List Motion) (p : Slot), runs s ∧ s.tgc.phase = .dropping ∧
      s.tgc.timer = some .drop ∧ s.tgc.cycle = some c ∧ c.seatRetried = false ∧ (c.homeFirst = false ∨ c.cancel =
      true) ∧ c.source ≠ .theShow ∧ s.mq = m :: rest ∧ m.source ≠ .theShow ∧ s.retained.position = .known p ∧ p ≠ 0 ∧
      s.pins.gateSeated = true ∧ c.skips s.retained.params.skipEmpty = false ∧ s.retained.map[p] ≠ .occupied) ∧
    (∃ (s : State) (c : CycleRecord) (p : Slot), runs s ∧ s.tgc.phase = .dropping ∧ s.tgc.timer = some .drop ∧
      s.tgc.cycle = some c ∧ c.skips s.retained.params.skipEmpty = false ∧ s.retained.position = .known p ∧ p ≠ 0 ∧
      s.pins.gateSeated = false ∧ s.retained.map[p] = .occupied) ∧
    (∃ (s : State) (c : CycleRecord) (p : Slot), runs s ∧ s.tgc.phase = .dropping ∧ s.tgc.timer = some .drop ∧
      s.tgc.cycle = some c ∧ c.skips s.retained.params.skipEmpty = false ∧ s.retained.position = .known p ∧ p ≠ 0 ∧
      s.pins.gateSeated = false ∧ s.retained.map[p] ≠ .occupied) ∧
    (∃ (s : State) (c : CycleRecord), runs s ∧ s.tgc.phase = .dropping ∧ s.tgc.timer = some .drop ∧ s.tgc.cycle = some
      c ∧ (s.retained.position = .known 0 ∨ s.retained.position = .unknown) ∧ c.skips s.retained.params.skipEmpty =
      false ∧ s.pins.gateSeated = false) ∧
    (∃ (s : State) (c : CycleRecord), runs s ∧ s.tgc.phase = .dropping ∧ s.tgc.timer = some .drop ∧ s.tgc.cycle = some
      c ∧ (s.retained.position = .known 0 ∨ s.retained.position = .unknown) ∧ c.skips s.retained.params.skipEmpty =
      true ∧ s.pins.gateUp = false ∧ s.retained.position = .known 0 ∧ c.emptyDrops < 90) ∧
    (∃ (s : State) (c : CycleRecord), runs s ∧ s.tgc.phase = .dropping ∧ s.tgc.timer = some .drop ∧ s.tgc.cycle = some
      c ∧ (s.retained.position = .known 0 ∨ s.retained.position = .unknown) ∧ c.skips s.retained.params.skipEmpty =
      true ∧ s.pins.gateUp = false ∧ s.retained.position = .unknown ∧ c.emptyDrops < 89) ∧
    (∃ (s : State) (c : CycleRecord) (p : Slot), runs s ∧ s.tgc.phase = .dropping ∧ s.tgc.timer = some .drop ∧
      s.tgc.cycle = some c ∧ c.skips s.retained.params.skipEmpty = true ∧ s.retained.position = .known p ∧ p ≠ 0 ∧
      c.emptyDrops < 89 ∧ s.pins.gateUp = false ∧ s.retained.map[p] = .occupied) ∧
    (∃ (s : State) (c : CycleRecord) (p : Slot), runs s ∧ s.tgc.phase = .dropping ∧ s.tgc.timer = some .drop ∧
      s.tgc.cycle = some c ∧ c.skips s.retained.params.skipEmpty = true ∧ s.retained.position = .known p ∧ p ≠ 0 ∧
      c.emptyDrops < 89 ∧ s.pins.gateUp = false ∧ s.retained.map[p] ≠ .occupied) ∧
    (∃ (s : State) (c : CycleRecord) (p : Slot) (d : Direction), runs s ∧ s.tgc.phase = .dropping ∧ s.tgc.timer = some
      .drop ∧ s.tgc.cycle = some c ∧ c.skips s.retained.params.skipEmpty = true ∧ s.retained.position = .known p ∧ p ≠
      0 ∧ c.emptyDrops < 89 ∧ s.pins.gateUp = true ∧ c.homeFirst = false ∧ c.direction = some d ∧ s.retained.map[p] ≠
      .occupied) ∧
    (∃ (s : State) (c : CycleRecord), runs s ∧ s.shc.state = .stopped ∧ s.tgc.phase = .dropping ∧ s.tgc.timer = some
      .drop ∧ s.tgc.cycle = some c ∧ c.skips s.retained.params.skipEmpty = true ∧ s.retained.position = .unknown ∧ 89
      ≤ c.emptyDrops ∧ s.pins.gateSeated = false) ∧
    (∃ (s : State) (c : CycleRecord) (p : Slot), runs s ∧ s.shc.state = .stopped ∧ s.tgc.phase = .dropping ∧
      s.tgc.timer = some .drop ∧ s.tgc.cycle = some c ∧ c.skips s.retained.params.skipEmpty = true ∧
      s.retained.position = .known p ∧ p ≠ 0 ∧ 89 ≤ c.emptyDrops ∧ s.pins.gateSeated = false ∧ s.retained.map[p] ≠
      .occupied) ∧
    (∃ (s : State) (c : CycleRecord) (p : Slot), runs s ∧ s.shc.state = .stopped ∧ s.tgc.phase = .dropping ∧
      s.tgc.timer = some .drop ∧ s.tgc.cycle = some c ∧ c.skips s.retained.params.skipEmpty = true ∧
      s.retained.position = .known p ∧ p ≠ 0 ∧ 89 ≤ c.emptyDrops ∧ s.pins.gateSeated = false ∧ s.retained.map[p] =
      .occupied) :=
  ⟨⟨fix fun s => { s with
        tgc.phase := .dropping, tgc.timer := some .drop, tgc.cycle := some ({ aCycle with cancel := true }),
        mq := [aMotion], retained.position := .known 90,
        pins.gateSeated := true }, { aCycle with cancel := true }, aMotion, [], 90, ⟨rfl, rfl⟩, by decide⟩,
   ⟨fix fun s => { s with
        tgc.phase := .dropping, tgc.timer := some .drop, tgc.cycle := some ({ aCycle with move := .goto 90 }),
        retained.position := .known 90, pins.gateSeated := false,
        retained.map := .replicate 91 .occupied }, { aCycle with move := .goto 90 }, 90, ⟨rfl, rfl⟩, by decide⟩,
   ⟨fix fun s => { s with
        tgc.phase := .dropping, tgc.timer := some .drop, tgc.cycle := some ({ aCycle with move := .goto 90 }),
        retained.position := .known 90,
        pins.gateSeated := false }, { aCycle with move := .goto 90 }, 90, ⟨rfl, rfl⟩, by decide⟩,
   ⟨fix fun s => { s with
        tgc.phase := .dropping, tgc.timer := some .drop, tgc.cycle := some { aCycle with move := .home },
        retained.position := .known 0, pins.gateSeated := false,
        retained.params.skipEmpty := true }, { aCycle with move := .home }, ⟨rfl, rfl⟩, by decide⟩,
   ⟨fix fun s => { s with
        tgc.phase := .dropping, tgc.timer := some .drop, tgc.cycle := some { aCycle with emptyDrops := 89 },
        retained.position := .known 0, pins.gateUp := false,
        retained.params.skipEmpty := true }, { aCycle with emptyDrops := 89 }, ⟨rfl, rfl⟩, by decide⟩,
   ⟨fix fun s => { s with
        tgc.phase := .dropping, tgc.timer := some .drop, tgc.cycle := some { aCycle with emptyDrops := 88 },
        retained.position := .unknown, pins.gateUp := false,
        retained.params.skipEmpty := true }, { aCycle with emptyDrops := 88 }, ⟨rfl, rfl⟩, by decide⟩,
   ⟨fix fun s => { s with
        tgc.phase := .dropping, tgc.timer := some .drop, tgc.cycle := some { aCycle with emptyDrops := 88 },
        retained.position := .known 90, pins.gateUp := false, retained.params.skipEmpty := true,
        retained.map := .replicate 91 .occupied }, { aCycle with emptyDrops := 88 }, 90, ⟨rfl, rfl⟩, by decide⟩,
   ⟨fix fun s => { s with
        tgc.phase := .dropping, tgc.timer := some .drop, tgc.cycle := some { aCycle with emptyDrops := 88 },
        retained.position := .known 90, pins.gateUp := false,
        retained.params.skipEmpty := true }, { aCycle with emptyDrops := 88 }, 90, ⟨rfl, rfl⟩, by decide⟩,
   ⟨fix fun s => { s with
        tgc.phase := .dropping, tgc.timer := some .drop,
        tgc.cycle := some { aCycle with emptyDrops := 88, direction := some .backward },
        retained.position := .known 90, pins.gateUp := true,
        retained.params.skipEmpty := true }, { aCycle with emptyDrops := 88, direction := some .backward }, 90,
          .backward, ⟨rfl, rfl⟩, by decide⟩,
   ⟨fix fun s => { s with
        shc.state := .stopped, tgc.phase := .dropping, tgc.timer := some .drop,
        tgc.cycle := some { aCycle with emptyDrops := 89 }, retained.position := .unknown, pins.gateSeated := false,
        retained.params.skipEmpty := true }, { aCycle with emptyDrops := 89 }, ⟨rfl, rfl⟩, by decide⟩,
   ⟨fix fun s => { s with
        shc.state := .stopped, tgc.phase := .dropping, tgc.timer := some .drop,
        tgc.cycle := some { aCycle with emptyDrops := 89 }, retained.position := .known 90,
        pins.gateSeated := false,
        retained.params.skipEmpty := true }, { aCycle with emptyDrops := 89 }, 90, ⟨rfl, rfl⟩, by decide⟩,
   ⟨fix fun s => { s with
        shc.state := .stopped, tgc.phase := .dropping, tgc.timer := some .drop,
        tgc.cycle := some { aCycle with emptyDrops := 89 }, retained.position := .known 90,
        pins.gateSeated := false, retained.params.skipEmpty := true,
        retained.map := .replicate 91 .occupied }, { aCycle with emptyDrops := 89 }, 90, ⟨rfl, rfl⟩, by decide⟩⟩

theorem test_premises_SeatingEndsTheCycle :
    (∃ (s : State) (c : CycleRecord) (m : Motion) (rest : List Motion), runs s ∧ s.tgc.phase = .seating ∧ s.tgc.timer
      = some .seat ∧ s.tgc.cycle = some c ∧ c.seatRetried = false ∧ (c.homeFirst = false ∨ c.cancel = true) ∧ c.source
      ≠ .theShow ∧ s.mq = m :: rest ∧ m.source ≠ .theShow) ∧
    (∃ (s : State) (m : Motion) (rest : List Motion) (item : Issued) (more : List Issued), runs s ∧ showMoveEnds m
      rest item more s ∧ (item.purpose = .change ∨ item.purpose = .step ∨ item.purpose = .resync) ∧ (item.check = none
      ∨ (s.shc.state = .stopped ∨ s.shc.state = .starting ∨ s.shc.state = .looping) ∨ (∃ (cue : Nat) (p : Slot),
      item.check = some ⟨cue, p.val⟩ ∧ s.retained.position = .known p))) ∧
    (∃ (s : State) (m : Motion) (rest : List Motion) (item : Issued) (more : List Issued) (cue : Nat) (p : Slot), runs
      s ∧ showMoveEnds m rest item more s ∧ (item.purpose = .change ∨ item.purpose = .step ∨ item.purpose = .resync) ∧
      (s.shc.state = .running ∨ s.shc.state = .paused ∨ s.shc.state = .held ∨ s.shc.state = .excursion) ∧ item.check =
      some ⟨cue, p.val⟩ ∧ s.retained.position ≠ .known p ∧ rest.length < 8 ∧ s.retained.params.resync = false) ∧
    (∃ (s : State) (m : Motion) (rest : List Motion) (item : Issued) (more : List Issued) (cue : Nat) (p : Slot), runs
      s ∧ showMoveEnds m rest item more s ∧ (item.purpose = .change ∨ item.purpose = .step ∨ item.purpose = .resync) ∧
      (s.shc.state = .running ∨ s.shc.state = .paused ∨ s.shc.state = .held ∨ s.shc.state = .excursion) ∧ item.check =
      some ⟨cue, p.val⟩ ∧ s.retained.position ≠ .known p ∧ rest.length < 8 ∧ s.retained.params.resync = true) ∧
    (∃ (s : State) (m : Motion) (rest : List Motion) (item : Issued) (more : List Issued) (c : CycleRecord), runs s ∧
      showMoveLeaves m rest item more c s ∧ (c.cancel = true ∨ (c.seatRetried = true ∧ item.check = none)) ∧
      (item.purpose = .change ∨ item.purpose = .step ∨ item.purpose = .resync ∨ (item.purpose = .cutChange ∧ s.shc.cut
      = none) ∨ (item.purpose = .excursionReturn ∧ s.shc.state ≠ .excursion) ∨ ((item.purpose = .start ∨ item.purpose
      = .loopReturn) ∧ s.shc.state = .stopped ∧ s.shc.parts = .empty)) ∧ c.seatRetried = true) ∧
    (∃ (s : State) (m : Motion) (rest : List Motion) (item : Issued) (more : List Issued) (c : CycleRecord), runs s ∧
      showMoveLeaves m rest item more c s ∧ (c.cancel = true ∨ (c.seatRetried = true ∧ item.check = none)) ∧
      (item.purpose = .change ∨ item.purpose = .step ∨ item.purpose = .resync ∨ (item.purpose = .cutChange ∧ s.shc.cut
      = none) ∨ (item.purpose = .excursionReturn ∧ s.shc.state ≠ .excursion) ∨ ((item.purpose = .start ∨ item.purpose
      = .loopReturn) ∧ s.shc.state = .stopped ∧ s.shc.parts = .empty)) ∧ c.seatRetried = false) ∧
    (∃ (s : State) (m : Motion) (rest : List Motion) (item : Issued) (more : List Issued) (c : CycleRecord) (parts :
      Parts), runs s ∧ showMoveLeaves m rest item more c s ∧ c.cancel = true ∧ c.seatRetried = false ∧ (item.purpose =
      .start ∨ item.purpose = .loopReturn) ∧ s.shc.parts.goto = some .outstanding ∧ parts =
      { s.shc.parts with goto := some .failed } ∧ parts.outstanding = true) ∧
    (∃ (s : State) (c : CycleRecord) (m : Motion) (rest : List Motion), runs s ∧ s.tgc.timer = some .seat ∧
      s.tgc.cycle = some c ∧ c.seatRetried = true ∧ (c.homeFirst = false ∨ c.cancel = true) ∧ c.source ≠ .theShow ∧
      s.mq = m :: rest ∧ m.source ≠ .theShow) ∧
    (∃ (s : State) (c : CycleRecord), runs s ∧ s.tgc.phase = .seating ∧ s.tgc.timer = some .seat ∧ s.tgc.cycle = some
      c ∧ c.homeFirst = true ∧ c.cancel = false ∧ c.seatRetried = true) ∧
    (∃ (s : State) (c : CycleRecord), runs s ∧ s.tgc.phase = .seating ∧ s.tgc.timer = some .seat ∧ s.tgc.cycle = some
      c ∧ c.homeFirst = true ∧ c.cancel = false ∧ c.seatRetried = false) ∧
    (∃ (s : State) (c : CycleRecord), runs s ∧ s.tgc.phase = .seating ∧ s.tgc.timer = some .seat ∧ s.tgc.cycle = some
      c ∧ c.seatRetried = false ∧ s.pins.gateUp = false) :=
  ⟨⟨fix fun s => { s with
        tgc.phase := .seating, tgc.timer := some .seat,
        tgc.cycle := some ({ aCycle with seatRetried := false, homeFirst := false }),
        mq := aMotion :: [] }, { aCycle with seatRetried := false, homeFirst := false }, aMotion, [], ⟨rfl, rfl⟩, by
          decide⟩,
   ⟨fix fun s => { s with
        mq := showsMove :: [], tgc := aSeating, shc.issued := [⟨.change, some ⟨1, 90⟩⟩],
        retained.position := .known 90,
        shc.state := .running }, showsMove, [], ⟨.change, some ⟨1, 90⟩⟩, [], ⟨rfl, rfl⟩, ⟨rfl, rfl, rfl, rfl, _,
          rfl, rfl, rfl, rfl, rfl⟩, by decide, .inr (.inr ⟨1, 90, rfl, rfl⟩)⟩,
   ⟨fix fun s => { s with
        mq := showsMove :: List.replicate 7 aMotion, tgc := aSeating, shc.issued := [⟨.resync, some ⟨1, 90⟩⟩],
        shc.state := .running,
        retained.params.resync := false }, showsMove, List.replicate 7 aMotion, ⟨.resync, some ⟨1, 90⟩⟩, [], 1, 90,
          ⟨rfl, rfl⟩, ⟨rfl, rfl, rfl, rfl, _, rfl, rfl, rfl, rfl, rfl⟩, by decide⟩,
   ⟨fix fun s => { s with
        mq := showsMove :: List.replicate 7 aMotion, tgc := aSeating, shc.issued := [⟨.resync, some ⟨1, 90⟩⟩],
        shc.state := .running,
        retained.params.resync := true }, showsMove, List.replicate 7 aMotion, ⟨.resync, some ⟨1, 90⟩⟩, [], 1, 90,
          ⟨rfl, rfl⟩, ⟨rfl, rfl, rfl, rfl, _, rfl, rfl, rfl, rfl, rfl⟩, by decide⟩,
   ⟨fix fun s => { s with
        mq := [showsMove],
        tgc := { aSeating with cycle := some { aCycle with source := .theShow, seatRetried := true } },
        shc.issued := [{ anItem with purpose := .change }] }, showsMove, [], { anItem with purpose := .change }, [],
          { aCycle with source := .theShow, seatRetried := true }, ⟨rfl, rfl⟩, ⟨rfl, rfl, rfl, rfl, rfl, rfl, by
          decide⟩, by decide⟩,
   ⟨fix fun s => { s with
        mq := [showsMove],
        tgc := { aSeating with cycle := some { aCycle with source := .theShow, cancel := true } },
        shc.issued := [{ anItem with purpose := .change }] }, showsMove, [], { anItem with purpose := .change }, [],
          { aCycle with source := .theShow, cancel := true }, ⟨rfl, rfl⟩, ⟨rfl, rfl, rfl, rfl, rfl, rfl, by decide⟩,
          by decide⟩,
   ⟨fix fun s => { s with
        mq := [showsMove],
        tgc := { aSeating with cycle := some { aCycle with source := .theShow, cancel := true } },
        shc.issued := [{ anItem with purpose := .start }],
        shc.parts := { Parts.empty with goto := some .outstanding, rewind := some .outstanding } }, showsMove, [], {
          anItem with purpose := .start }, [], { aCycle with source := .theShow, cancel := true }, _, ⟨rfl, rfl⟩,
          ⟨rfl, rfl, rfl, rfl, rfl, rfl, by decide⟩, by decide, by decide, by decide, by decide, rfl, by decide⟩,
   ⟨fix fun s => { s with
        tgc.timer := some .seat, tgc.cycle := some ({ aCycle with seatRetried := true, homeFirst := false }),
        mq := aMotion :: [] }, { aCycle with seatRetried := true, homeFirst := false }, aMotion, [], ⟨rfl, rfl⟩, by
          decide⟩,
   ⟨fix fun s => { s with
        tgc.phase := .seating, tgc.timer := some .seat,
        tgc.cycle := some ({ aCycle with homeFirst := true, cancel := false, seatRetried := true }) }, { aCycle with
          homeFirst := true, cancel := false, seatRetried := true }, ⟨rfl, rfl⟩, by decide⟩,
   ⟨fix fun s => { s with
        tgc.phase := .seating, tgc.timer := some .seat,
        tgc.cycle := some ({ aCycle with homeFirst := true, cancel := false, seatRetried := false }) }, { aCycle
          with homeFirst := true, cancel := false, seatRetried := false }, ⟨rfl, rfl⟩, by decide⟩,
   ⟨fix fun s => { s with
        tgc.phase := .seating, tgc.timer := some .seat, tgc.cycle := some ({ aCycle with seatRetried := false }),
        pins.gateUp := false }, { aCycle with seatRetried := false }, ⟨rfl, rfl⟩, by decide⟩⟩

theorem test_premises_JamsEmptyTheQueue :
    (∃ (s : State) (c : CycleRecord), runs s ∧ showAtRest s ∧ s.tgc.timer = some .lift ∧ s.tgc.cycle = some c ∧ 3 ≤
      c.attempt) ∧
    (∃ (s : State), runs s ∧ showAtRest s ∧ s.tgc.timer = some .step) ∧
    (∃ (s : State) (c : CycleRecord), runs s ∧ showAtRest s ∧ s.tgc.timer = some .seat ∧ s.tgc.cycle = some c ∧
      c.seatRetried = true) ∧
    (∃ (s : State) (c : CycleRecord), runs s ∧ showAtRest s ∧ s.tgc.phase = .homing ∧ s.tgc.cycle = some c ∧ 91 ≤
      c.pulses) ∧
    (∃ (s : State) (c : CycleRecord), runs s ∧ (s.shc.state = .running ∨ s.shc.state = .paused) ∧ s.shc.issued.length
      = (s.mq.filter fun m => m.source == .theShow).length ∧ (∀ x ∈ s.shc.issued, x.purpose = .change ∨ x.purpose =
      .step ∨ x.purpose = .resync) ∧ s.tgc.timer = some .lift ∧ s.tgc.cycle = some c ∧ 3 ≤ c.attempt) ∧
    (∃ (s : State), runs s ∧ showAtRest s ∧ s.tgc.phase ≠ .ready ∧ s.tgc.phase ≠ .jammed) :=
  ⟨⟨fix fun s => { s with
        tgc.timer := some .lift,
        tgc.cycle := some ({ aCycle with attempt := 3 }) }, { aCycle with attempt := 3 }, ⟨rfl, rfl⟩, by decide⟩,
   ⟨fix fun s => { s with tgc.timer := some .step }, ⟨rfl, rfl⟩, by decide⟩,
   ⟨fix fun s => { s with
        tgc.timer := some .seat,
        tgc.cycle := some ({ aCycle with seatRetried := true }) }, { aCycle with seatRetried := true }, ⟨rfl, rfl⟩,
          by decide⟩,
   ⟨fix fun s => { s with
        tgc.phase := .homing,
        tgc.cycle := some ({ aCycle with pulses := 91 }) }, { aCycle with pulses := 91 }, ⟨rfl, rfl⟩, by decide⟩,
   ⟨fix fun s => { s with
        shc.state := .running, tgc.timer := some .lift,
        tgc.cycle := some ({ aCycle with attempt := 3 }) }, { aCycle with attempt := 3 }, ⟨rfl, rfl⟩, by decide⟩,
   ⟨fix fun s => { s with tgc.phase := .lifting }, ⟨rfl, rfl⟩, by decide⟩⟩

theorem test_premises_FadeRequestReplacesTheFade :
    (∃ (s : State) (curve : Nat) (c : Curve), takes s ∧ curveOperand curve = some c ∧ (∀ r, s.fe.fade = some r →
      r.origin = .link ∨ r.origin = .remote ∨ (r.origin = .theShow ∧ s.shc.cut = none ∧ s.shc.parts.fade ≠ some
      .outstanding) ∨ (r.origin = .power ∧ s.power.mode = .active)) ∧ s.fe.fade.isSome) ∧
    (∃ (s : State) (curve : Nat) (c : Curve), takes s ∧ curveOperand curve = some c ∧ (∀ r, s.fe.fade = some r →
      r.origin = .link ∨ r.origin = .remote ∨ (r.origin = .theShow ∧ s.shc.cut = none ∧ s.shc.parts.fade ≠ some
      .outstanding) ∨ (r.origin = .power ∧ s.power.mode = .active)) ∧ s.fe.fade = none) ∧
    (∃ (s : State) (curve : Nat) (c : Curve) (r : FadeRecord), takes s ∧ curveOperand curve = some c ∧ s.fe.fade =
      some r ∧ r.origin = .power ∧ s.power.mode = .windingDown ∧ s.power.step = some .fading ∧ showAtRest s ∧
      s.ltc.strike.phase = .idle ∧ s.litLamp = none ∧ s.strikingLamp = none ∧ s.thu.cooldown = none) ∧
    (∃ (s : State) (curve : Nat), takes s ∧ curveOperand curve = none) :=
  ⟨⟨fix fun s => { s with
        fe.fade := some showsFade }, 0, .linear, ⟨⟨rfl, rfl⟩, rfl⟩, by decide, fun _ h => (by cases h; decide), rfl⟩,
   ⟨fix fun s => { s with
        fe.fade := none }, 2, .user, ⟨⟨rfl, rfl⟩, rfl⟩, by decide, fun _ h => (nomatch (show none = some _ from h)),
          by decide⟩,
   ⟨fix fun s => { s with
        fe.fade := some ({ aFade with origin := .power }), power.mode := .windingDown, power.step := some .fading,
        ltc.strike.phase := .idle,
        thu.cooldown := none }, 0, .linear, { aFade with origin := .power }, ⟨⟨rfl, rfl⟩, rfl⟩, by decide⟩,
   ⟨State.reset, 3, ⟨⟨rfl, rfl⟩, rfl⟩, by decide⟩⟩

theorem test_premises_FadeStepAdvancesTheFade :
    (∃ (s : State) (r : FadeRecord), runs s ∧ s.fe.timer = true ∧ (∀ r, s.fe.fade = some r → r.origin = .link ∨
      r.origin = .remote ∨ (r.origin = .theShow ∧ s.shc.cut = none ∧ s.shc.parts.fade ≠ some .outstanding) ∨ (r.origin
      = .power ∧ s.power.mode = .active)) ∧ s.fe.fade = some r ∧ r.total ≠ 0 ∧ r.index + 1 ≠ r.total) ∧
    (∃ (s : State) (r : FadeRecord), runs s ∧ s.fe.timer = true ∧ (∀ r, s.fe.fade = some r → r.origin = .link ∨
      r.origin = .remote ∨ (r.origin = .theShow ∧ s.shc.cut = none ∧ s.shc.parts.fade ≠ some .outstanding) ∨ (r.origin
      = .power ∧ s.power.mode = .active)) ∧ s.fe.fade = some r ∧ (r.total = 0 ∨ r.index + 1 = r.total)) ∧
    (∃ (s : State), runs s ∧ s.fe.timer = true ∧ (∀ r, s.fe.fade = some r → r.origin = .link ∨ r.origin = .remote ∨
      (r.origin = .theShow ∧ s.shc.cut = none ∧ s.shc.parts.fade ≠ some .outstanding) ∨ (r.origin = .power ∧
      s.power.mode = .active)) ∧ s.fe.fade = none) ∧
    (∃ (s : State), runs s ∧ s.fe.timer = true ∧ (∀ r, s.fe.fade = some r → r.origin = .link ∨ r.origin = .remote ∨
      (r.origin = .theShow ∧ s.shc.cut = none ∧ s.shc.parts.fade ≠ some .outstanding) ∨ (r.origin = .power ∧
      s.power.mode = .active)) ∧ s.litLamp = none) :=
  ⟨⟨fix fun s => { s with
        fe.timer := true,
        fe.fade := some { aFade with index := 48 } }, { aFade with index := 48 }, ⟨rfl, rfl⟩, by decide, fun _ h =>
          (by cases h; decide), by decide⟩,
   ⟨fix fun s => { s with
        fe.timer := true,
        fe.fade := some ({ aFade with total := 0 }) }, { aFade with total := 0 }, ⟨rfl, rfl⟩, by decide⟩,
   ⟨fix fun s => { s with fe.timer := true, fe.fade := none }, ⟨rfl, rfl⟩, by decide⟩,
   ⟨fix fun s => { s with fe.timer := true }, ⟨rfl, rfl⟩, by decide⟩⟩

theorem test_premises_FadeProgressRunsToTheEnd :
    (∃ (j : Nat) (k : Nat) (total : Nat), 0 < total ∧ j ≤ k ∧ k ≤ total) ∧
    (∃ (s : State) (r : FadeRecord), runs s ∧ s.fe.timer = true ∧ s.fe.fade = some r ∧ 1 < r.total ∧ r.index = 0) ∧
    (∃ (s : State) (r : FadeRecord), runs s ∧ s.fe.timer = true ∧ s.fe.fade = some r ∧ r.total = 0 ∧ (r.origin = .link
      ∨ r.origin = .remote)) :=
  ⟨⟨0, 1, 1, by decide⟩,
   ⟨fix fun s => { s with
        fe.timer := true,
        fe.fade := some ⟨0, 1000, 2, 0, .linear, .link, none⟩ }, ⟨0, 1000, 2, 0, .linear, .link, none⟩, ⟨rfl, rfl⟩,
          by decide⟩,
   ⟨fix fun s => { s with
        fe.timer := true,
        fe.fade := some ⟨0, 1000, 0, 0, .linear, .link, none⟩ }, ⟨0, 1000, 0, 0, .linear, .link, none⟩, ⟨rfl, rfl⟩,
          by decide⟩⟩

theorem test_premises_LightStagesStayWithinTheirBounds :
    (∃ (user : Vector Nat 17) (r : FadeRecord) (k : Nat), userOk user.toList = true ∧ k ≤ r.total ∧ 0 < r.total) ∧
    (∃ (p : Params) (effective : Nat) (f : Fe), min f.level (min effective p.maxLevel) < p.floorLevel) ∧
    (∃ (p : Params) (effective : Nat) (f : Fe), p.floorLevel ≤ min f.level (min effective p.maxLevel)) ∧
    (∃ (table : Vector Nat 11) (a : Nat) (b : Nat), responseOk table.toList = true ∧ a ≤ b ∧ b ≤ 1000) :=
  ⟨⟨straightTable, aFade, 50, by decide⟩,
   ⟨.cold, 39, { Fe.start with level := 39 }, by decide⟩,
   ⟨.cold, 40, { Fe.start with level := 40 }, by decide⟩,
   ⟨defaultResponse, 0, 1000, by decide⟩⟩

theorem test_premises_TablesAreCheckedWhole :
    (∃ (s : State) (points : List Nat), takes s ∧ points.length = 17 ∧ userOk points = true ∧ s.fe.userFade = false) ∧
    (∃ (s : State) (points : List Nat), takes s ∧ points.length = 17 ∧ userOk points = true ∧ s.fe.userFade = true) ∧
    (∃ (s : State) (points : List Nat), takes s ∧ points.length = 17 ∧ userOk points = false) ∧
    (∃ (s : State) (points : List Nat), takes s ∧ points.length = 11 ∧ responseOk points = true) ∧
    (∃ (s : State) (points : List Nat), takes s ∧ points.length = 11 ∧ responseOk points = false) ∧
    (∃ (s : State) (points : List Nat), takes s ∧ points.length ≠ 17) ∧
    (∃ (s : State) (points : List Nat), takes s ∧ points.length ≠ 11) :=
  ⟨⟨State.reset, straightTable.toList, ⟨⟨rfl, rfl⟩, rfl⟩, by decide⟩,
   ⟨fix fun s => { s with
        fe.fade := some { aFade with curve := .user } }, straightTable.toList, ⟨⟨rfl, rfl⟩, rfl⟩, by decide⟩,
   ⟨State.reset, List.replicate 17 0, ⟨⟨rfl, rfl⟩, rfl⟩, by decide⟩,
   ⟨State.reset, List.replicate 11 1023, ⟨⟨rfl, rfl⟩, rfl⟩, by decide⟩,
   ⟨State.reset, List.replicate 11 1024, ⟨⟨rfl, rfl⟩, rfl⟩, by decide⟩,
   ⟨State.reset, List.replicate 18 0, ⟨⟨rfl, rfl⟩, rfl⟩, by decide⟩,
   ⟨State.reset, [], ⟨⟨rfl, rfl⟩, rfl⟩, by decide⟩⟩

theorem test_premises_ParametersKeepTheirRanges :
    (∃ (s : State) (number : Nat) (value : Nat) (lo : Nat) (hi : Nat) (m : Nat), takes s ∧ paramRange number = some
      (lo, hi) ∧ lo ≤ value ∧ value ≤ hi ∧ m ≠ number) ∧
    (∃ (s : State) (number : Nat) (value : Nat) (lo : Nat) (hi : Nat), takes s ∧ paramRange number = some (lo, hi) ∧
      lo ≤ value ∧ value ≤ hi ∧ (number < 3 ∨ 6 < number)) ∧
    (∃ (s : State) (number : Nat) (value : Nat) (lo : Nat) (hi : Nat), takes s ∧ paramRange number = some (lo, hi) ∧
      (value < lo ∨ hi < value)) ∧
    (∃ (s : State) (number : Nat), takes s ∧ paramRange number ≠ none) ∧
    (∃ (s : State) (number : Nat), takes s ∧ paramRange number = none) :=
  ⟨⟨State.reset, 16, 2, 0, 2, 1, ⟨⟨rfl, rfl⟩, rfl⟩, by decide⟩,
   ⟨State.reset, 16, 2, 0, 2, ⟨⟨rfl, rfl⟩, rfl⟩, by decide⟩,
   ⟨State.reset, 3, 99, 100, 1000, ⟨⟨rfl, rfl⟩, rfl⟩, by decide⟩,
   ⟨State.reset, 1, ⟨⟨rfl, rfl⟩, rfl⟩, by decide⟩,
   ⟨State.reset, 17, ⟨⟨rfl, rfl⟩, rfl⟩, by decide⟩⟩

theorem test_premises_LampOnStrikesTheSelectedLamp :
    (∃ (s : State), takes s ∧ s.power.mode = .active ∧ s.litLamp.isSome) ∧
    (∃ (s : State), takes s ∧ (s.power.mode = .windingDown ∨ (s.litLamp = none ∧ s.ltc.strike.phase = .idle ∧
      s.thu.bars = true))) ∧
    (∃ (s : State) (l : Lamp), takes s ∧ s.power.mode = .active ∧ s.ltc.strike.phase = .idle ∧ s.litLamp = none ∧
      s.strikingLamp = none ∧ s.thu.bars = false ∧ (s.retained.lampA.state = .ready ∨ s.retained.lampB.state = .ready)
      ∧ s.selectLamp = l ∧ (s.ltc.position = .facing l ∨ s.pins.turret l = true) ∧ s.ltc.position ≠ .facing l) ∧
    (∃ (s : State) (l : Lamp), takes s ∧ s.power.mode = .active ∧ s.ltc.strike.phase = .idle ∧ s.litLamp = none ∧
      s.strikingLamp = none ∧ s.thu.bars = false ∧ (s.retained.lampA.state = .ready ∨ s.retained.lampB.state = .ready)
      ∧ s.selectLamp = l ∧ s.ltc.position ≠ .facing l ∧ s.pins.turret l = false) ∧
    (∃ (s : State), takes s ∧ s.power.mode = .active ∧ s.litLamp = none ∧ s.ltc.strike.phase ≠ .idle ∧
      (s.ltc.strike.follow = true ∨ s.strikingLamp.isSome)) ∧
    (∃ (s : State), takes s ∧ s.power.mode = .active ∧ s.litLamp = none ∧ s.ltc.strike.phase ≠ .idle ∧
      s.ltc.strike.phase = .turning ∧ s.ltc.strike.follow = false ∧ s.strikingLamp = none ∧ s.thu.bars = false) ∧
    (∃ (s : State), takes s ∧ s.power.mode = .active ∧ s.litLamp = none ∧ s.ltc.strike.phase ≠ .idle ∧
      s.ltc.strike.phase = .turning ∧ s.ltc.strike.follow = false ∧ s.strikingLamp = none ∧ s.thu.bars = true) ∧
    (∃ (s : State) (l : Lamp), s.ltc.position = .facing l) ∧
    (∃ (s : State), takes s ∧ s.power.mode = .active ∧ s.shc.state = .stopped ∧ s.ltc.strike.phase = .idle ∧
      s.thu.bars = false ∧ s.retained.lampA.state = .failed ∧ s.retained.lampB.state = .failed) :=
  ⟨⟨fix fun s => { s with power.mode := .active, retained.lampA.state := .lit }, ⟨⟨rfl, rfl⟩, rfl⟩, by decide⟩,
   ⟨fix fun s => { s with power.mode := .windingDown, power.step := some .fading }, ⟨⟨rfl, rfl⟩, rfl⟩, by decide⟩,
   ⟨fix fun s => { s with
        power.mode := .active, ltc.strike.phase := .idle, retained.lampA.state := .ready, ltc.position := .moving,
        pins.turretA := true }, .a, ⟨⟨rfl, rfl⟩, rfl⟩, by decide⟩,
   ⟨fix fun s => { s with
        power.mode := .active, ltc.strike.phase := .idle, retained.lampA.state := .failed,
        pins.turretB := false }, .b, ⟨⟨rfl, rfl⟩, rfl⟩, by decide⟩,
   ⟨fix fun s => { s with
        power.mode := .active, ltc.strike.follow := true,
        ltc.strike.phase := .turning }, ⟨⟨rfl, rfl⟩, rfl⟩, by decide⟩,
   ⟨fix fun s => { s with
        power.mode := .active, ltc.strike.phase := .turning,
        ltc.strike.follow := false }, ⟨⟨rfl, rfl⟩, rfl⟩, by decide⟩,
   ⟨fix fun s => { s with
        power.mode := .active, ltc.strike.phase := .turning, ltc.strike.follow := false,
        thu.latch := true }, ⟨⟨rfl, rfl⟩, rfl⟩, by decide⟩,
   ⟨fix fun s => { s with ltc.position := .facing .a }, .a, by decide⟩,
   ⟨fix fun s => { s with
        power.mode := .active, shc.state := .stopped, ltc.strike.phase := .idle, retained.lampA.state := .failed,
        retained.lampB.state := .failed }, ⟨⟨rfl, rfl⟩, rfl⟩, by decide⟩⟩

theorem test_premises_LampOffAndLampRecords :
    (∃ (s : State) (l : Lamp), takes s ∧ (s.lampRecord l).state = .lit ∧ ((s.lampRecord (otherLamp l)).state = .ready
      ∨ (s.lampRecord (otherLamp l)).state = .failed) ∧ s.ltc.strike.phase = .idle) ∧
    (∃ (s : State) (l : Lamp), takes s ∧ (s.ltc.strike.phase = .preheat ∨ s.ltc.strike.phase = .check ∨
      s.ltc.strike.phase = .retryWait) ∧ s.ltc.strike.lamp = l ∧ (s.lampRecord l).state = .striking ∧ s.litLamp =
      none) ∧
    (∃ (s : State), takes s ∧ s.litLamp = none ∧ s.ltc.strike.phase = .idle) ∧
    (∃ (s : State), takes s ∧ s.litLamp = none ∧ s.ltc.strike.phase = .turning) ∧
    (∃ (s : State) (l : Lamp) (lamp : Nat) (wear : Nat) (life : Nat), takes s ∧ ((lamp = 0 ∧ l = .a) ∨ (lamp = 1 ∧ l =
      .b)) ∧ 10 ≤ life ∧ life ≤ 2000 ∧ wear ≤ 4294967295 ∧ ((s.lampRecord l).state = .ready ∨ (s.lampRecord l).state =
      .failed)) ∧
    (∃ (s : State) (l : Lamp) (lamp : Nat) (wear : Nat) (life : Nat), takes s ∧ ((lamp = 0 ∧ l = .a) ∨ (lamp = 1 ∧ l =
      .b)) ∧ 10 ≤ life ∧ life ≤ 2000 ∧ wear ≤ 4294967295 ∧ (s.lampRecord l).state = .ready) ∧
    (∃ (s : State) (l : Lamp) (lamp : Nat) (wear : Nat) (life : Nat), takes s ∧ ((lamp = 0 ∧ l = .a) ∨ (lamp = 1 ∧ l =
      .b)) ∧ 10 ≤ life ∧ life ≤ 2000 ∧ wear ≤ 4294967295 ∧ (s.lampRecord l).state = .failed) ∧
    (∃ (s : State) (l : Lamp) (lamp : Nat) (wear : Nat) (life : Nat), takes s ∧ ((lamp = 0 ∧ l = .a) ∨ (lamp = 1 ∧ l =
      .b)) ∧ 10 ≤ life ∧ life ≤ 2000 ∧ wear ≤ 4294967295 ∧ ((s.lampRecord l).state = .lit ∨ (s.lampRecord l).state =
      .striking)) ∧
    (∃ (s : State) (lamp : Nat) (life : Nat), takes s ∧ (1 < lamp ∨ life < 10 ∨ 2000 < life)) :=
  ⟨⟨fix fun s => { s with
        retained.lampA.state := .lit, retained.lampB.state := .ready,
        ltc.strike.phase := .idle }, .a, ⟨⟨rfl, rfl⟩, rfl⟩, by decide⟩,
   ⟨fix fun s => { s with
        ltc.strike.phase := .preheat, ltc.strike.lamp := .a,
        retained.lampA.state := .striking }, .a, ⟨⟨rfl, rfl⟩, rfl⟩, by decide⟩,
   ⟨fix fun s => { s with ltc.strike.phase := .idle }, ⟨⟨rfl, rfl⟩, rfl⟩, by decide⟩,
   ⟨fix fun s => { s with ltc.strike.phase := .turning }, ⟨⟨rfl, rfl⟩, rfl⟩, by decide⟩,
   ⟨fix fun s => { s with retained.lampB.state := .ready }, .b, 1, 4294967295, 2000, ⟨⟨rfl, rfl⟩, rfl⟩, by decide⟩,
   ⟨fix fun s => { s with retained.lampB.state := .ready }, .b, 1, 4294967295, 2000, ⟨⟨rfl, rfl⟩, rfl⟩, by decide⟩,
   ⟨fix fun s => { s with retained.lampB.state := .failed }, .b, 1, 4294967295, 2000, ⟨⟨rfl, rfl⟩, rfl⟩, by decide⟩,
   ⟨fix fun s => { s with retained.lampB.state := .lit }, .b, 1, 4294967295, 2000, ⟨⟨rfl, rfl⟩, rfl⟩, by decide⟩,
   ⟨State.reset, 2, 9, ⟨⟨rfl, rfl⟩, rfl⟩, by decide⟩⟩

theorem test_premises_StrikeAttemptsSucceedOrRetry :
    (∃ (s : State), runs s ∧ s.ltc.strike.phase = .preheat ∧ s.pins.sense s.ltc.strike.lamp = false) ∧
    (∃ (s : State) (l : Lamp), runs s ∧ showAtRest s ∧ s.ltc.strike.phase = .check ∧ s.ltc.strike.lamp = l ∧
      (s.lampRecord l).state = .striking ∧ s.litLamp = none ∧ s.ltc.strike.retried = true) ∧
    (∃ (s : State) (l : Lamp), runs s ∧ showAtRest s ∧ s.ltc.strike.phase = .check ∧ s.ltc.strike.lamp = l ∧
      (s.lampRecord l).state = .striking ∧ s.litLamp = none ∧ s.ltc.strike.retried = false) ∧
    (∃ (s : State), runs s ∧ s.ltc.strike.phase ≠ .check) ∧
    (∃ (s : State) (l : Lamp), runs s ∧ s.ltc.strike.phase = .check ∧ s.ltc.strike.lamp = l ∧ (s.lampRecord
      l).failures < 2) ∧
    (∃ (s : State) (l : Lamp), runs s ∧ showAtRest s ∧ s.ltc.strike.phase = .check ∧ s.ltc.strike.lamp = l ∧
      (s.lampRecord l).state = .striking ∧ 2 ≤ (s.lampRecord l).failures ∧ s.litLamp = none ∧ (s.lampRecord (otherLamp
      l)).state = .ready ∧ s.pins.turret (otherLamp l) = false) ∧
    (∃ (s : State), runs s ∧ s.ltc.strike.phase = .retryWait ∧ (s.lampRecord s.ltc.strike.lamp).state = .striking) :=
  ⟨⟨fix fun s => { s with ltc.strike.phase := .preheat, pins.senseA := false }, ⟨rfl, rfl⟩, by decide⟩,
   ⟨fix fun s => { s with
        ltc.strike.phase := .check, ltc.strike.lamp := .a, retained.lampA.state := .striking,
        ltc.strike.retried := true }, .a, ⟨rfl, rfl⟩, by decide⟩,
   ⟨fix fun s => { s with
        ltc.strike.phase := .check, ltc.strike.lamp := .a, retained.lampA.state := .striking,
        ltc.strike.retried := false }, .a, ⟨rfl, rfl⟩, by decide⟩,
   ⟨State.reset, ⟨rfl, rfl⟩, by decide⟩,
   ⟨fix fun s => { s with
        ltc.strike.phase := .check, ltc.strike.lamp := .a,
        retained.lampA.failures := 1 }, .a, ⟨rfl, rfl⟩, by decide⟩,
   ⟨fix fun s => { s with
        ltc.strike.phase := .check, ltc.strike.lamp := .a, retained.lampA.state := .striking,
        retained.lampB.state := .ready, pins.turretB := false,
        retained.lampA.failures := 2 }, .a, ⟨rfl, rfl⟩, by decide⟩,
   ⟨fix fun s => { s with
        ltc.strike.phase := .retryWait, retained.lampA.state := .striking }, ⟨rfl, rfl⟩, by decide⟩⟩

theorem test_premises_TurretMovesAndBurnouts :
    (∃ (s : State) (l : Lamp), runs s ∧ s.ltc.target = some l ∧ s.ltc.strike.follow = false) ∧
    (∃ (s : State) (l : Lamp), runs s ∧ s.ltc.target = some l ∧ s.ltc.strike.follow = true ∧ s.ltc.strike.lamp = l ∧
      (s.lampRecord l).state = .ready ∧ s.litLamp = none) ∧
    (∃ (s : State), runs s ∧ s.ltc.target = none ∧ s.ltc.position = .moving) ∧
    (∃ (s : State) (l : Lamp), runs s ∧ s.shc.state = .stopped ∧ s.ltc.target = some l) ∧
    (∃ (s : State) (l : Lamp), runs s ∧ s.ltc.watch = some .settling ∧ s.litLamp = some l ∧ s.pins.sense l = true) ∧
    (∃ (s : State), runs s ∧ s.ltc.watch ≠ some .settling) ∧
    (∃ (s : State) (l : Lamp), runs s ∧ s.power.mode = .active ∧ s.shc.state = .stopped ∧ s.ltc.watch = some .running
      ∧ (s.lampRecord l).state = .lit ∧ (s.lampRecord (otherLamp l)).state = .ready ∧ s.thu.bars = false ∧
      s.pins.turret (otherLamp l) = false ∧ s.thu.monitor ≠ .stalled) ∧
    (∃ (s : State), runs s ∧ s.ltc.watch ≠ some .running) :=
  ⟨⟨fix fun s => { s with ltc.target := some .a, ltc.strike.follow := false }, .a, ⟨rfl, rfl⟩, by decide⟩,
   ⟨fix fun s => { s with
        ltc.target := some .a, ltc.strike.follow := true, ltc.strike.lamp := .a,
        retained.lampA.state := .ready }, .a, ⟨rfl, rfl⟩, by decide⟩,
   ⟨fix fun s => { s with ltc.target := none, ltc.position := .moving }, ⟨rfl, rfl⟩, by decide⟩,
   ⟨fix fun s => { s with shc.state := .stopped, ltc.target := some .a }, .a, ⟨rfl, rfl⟩, by decide⟩,
   ⟨fix fun s => { s with
        ltc.watch := some .settling, retained.lampA.state := .lit, pins.senseA := true }, .a, ⟨rfl, rfl⟩, by decide⟩,
   ⟨State.reset, ⟨rfl, rfl⟩, by decide⟩,
   ⟨fix fun s => { s with
        power.mode := .active, shc.state := .stopped, ltc.watch := some .running, retained.lampA.state := .lit,
        retained.lampB.state := .ready, pins.turretB := false }, .a, ⟨rfl, rfl⟩, by decide⟩,
   ⟨State.reset, ⟨rfl, rfl⟩, by decide⟩⟩

theorem test_premises_WearGrowsBySeconds :
    (∃ (s : State), runs s ∧ s.litLamp = none) ∧
    (∃ (s : State) (l : Lamp), runs s ∧ s.ltc.timer = true ∧ s.litLamp = some l ∧ s.ltc.sub < 49) ∧
    (∃ (s : State) (l : Lamp) (add : Nat), runs s ∧ s.ltc.timer = true ∧ s.litLamp = some l ∧ 49 ≤ s.ltc.sub ∧
      (s.fe.applied = 0 → add = 1) ∧ (1 ≤ s.fe.applied → s.fe.applied ≤ 499 → add = 2) ∧ (500 ≤ s.fe.applied →
      s.fe.applied ≤ 799 → add = 3) ∧ (800 ≤ s.fe.applied → add = 4)) :=
  ⟨⟨State.reset, ⟨rfl, rfl⟩, by decide⟩,
   ⟨fix fun s => { s with
        ltc.timer := true, retained.lampA.state := .lit, ltc.sub := 48 }, .a, ⟨rfl, rfl⟩, by decide⟩,
   ⟨fix fun s => { s with
        ltc.timer := true, retained.lampA.state := .lit, ltc.sub := 49,
        fe.applied := 499 }, .a, 2, ⟨rfl, rfl⟩, by decide⟩⟩

theorem test_premises_TemperaturesDecideTheBand :
    (∃ (s : State) (value : Int) (t : Int) (target : Nat), takes s ∧ t = max (-20) (min value 150) ∧ t ≤ 89 ∧
      s.thu.cooldown = none ∧ (s.thu.seeing = false → target = 400) ∧ (s.thu.seeing = true → t ≤ 70 → target = 1000) ∧
      (s.thu.seeing = true → 71 ≤ t → (target : Int) = 1000 - 30 * (t - 70))) ∧
    (∃ (s : State) (value : Int), takes s ∧ 90 ≤ value ∧ value ≤ 99 ∧ s.thu.cooldown = none ∧ (s.thu.state = .unread ∨
      s.thu.state = .normal ∨ s.thu.state = .warm)) ∧
    (∃ (s : State) (value : Int) (l : Lamp), takes s ∧ s.shc.state = .stopped ∧ 100 ≤ value ∧ s.thu.state ≠ .trip ∧
      (s.lampRecord l).state = .lit ∧ ((s.lampRecord (otherLamp l)).state = .ready ∨ (s.lampRecord (otherLamp
      l)).state = .failed) ∧ s.ltc.strike.phase = .idle) :=
  ⟨⟨fix fun s => { s with thu.cooldown := none, thu.seeing := true }, 89, 89, 430, ⟨⟨rfl, rfl⟩, rfl⟩, by decide⟩,
   ⟨fix fun s => { s with thu.cooldown := none, thu.state := .unread }, 99, ⟨⟨rfl, rfl⟩, rfl⟩, by decide⟩,
   ⟨fix fun s => { s with
        shc.state := .stopped, retained.lampA.state := .lit, retained.lampB.state := .ready,
        ltc.strike.phase := .idle }, 100, .a, ⟨⟨rfl, rfl⟩, rfl⟩, by decide⟩⟩

theorem test_premises_HeatTimersAct :
    (∃ (s : State) (miss : Nat) (good : Nat) (seeing : Bool), runs s ∧ s.thu.timers = true ∧ s.thu.cooldown = none ∧
      miss = (if s.thu.window then 0 else min (s.thu.miss + 1) 2) ∧ good = (if s.thu.window then min (s.thu.good + 1)
      2 else 0) ∧ seeing = (if s.thu.seeing then decide (miss ≠ 2) else decide (good = 2)) ∧ seeing = false ∧
      s.thu.seeing = true) ∧
    (∃ (s : State) (miss : Nat) (good : Nat) (seeing : Bool), runs s ∧ s.thu.timers = true ∧ s.thu.cooldown = none ∧
      miss = (if s.thu.window then 0 else min (s.thu.miss + 1) 2) ∧ good = (if s.thu.window then min (s.thu.good + 1)
      2 else 0) ∧ seeing = (if s.thu.seeing then decide (miss ≠ 2) else decide (good = 2)) ∧ seeing = s.thu.seeing) ∧
    (∃ (s : State) (miss : Nat) (good : Nat) (seeing : Bool), runs s ∧ s.thu.timers = true ∧ s.thu.cooldown = none ∧
      miss = (if s.thu.window then 0 else min (s.thu.miss + 1) 2) ∧ good = (if s.thu.window then min (s.thu.good + 1)
      2 else 0) ∧ seeing = (if s.thu.seeing then decide (miss ≠ 2) else decide (good = 2)) ∧ s.thu.miss ≠ 2 ∧ miss =
      2) ∧
    (∃ (s : State) (miss : Nat) (good : Nat) (seeing : Bool), runs s ∧ s.thu.timers = true ∧ s.thu.cooldown = none ∧
      miss = (if s.thu.window then 0 else min (s.thu.miss + 1) 2) ∧ good = (if s.thu.window then min (s.thu.good + 1)
      2 else 0) ∧ seeing = (if s.thu.seeing then decide (miss ≠ 2) else decide (good = 2)) ∧ (s.thu.miss = 2 ∨ miss ≠
      2)) ∧
    (∃ (s : State), runs s ∧ s.thu.timers = true ∧ s.thu.effective < s.thu.target) ∧
    (∃ (s : State), runs s ∧ s.thu.target ≤ s.thu.effective) ∧
    (∃ (s : State), runs s ∧ s.thu.monitor = .stalled) ∧
    (∃ (s : State), runs s ∧ s.thu.monitor ≠ .stalled) ∧
    (∃ (s : State), runs s ∧ s.shc.state = .stopped ∧ s.thu.monitor = .watching ∧ s.litLamp = none ∧
      s.ltc.strike.phase = .idle) ∧
    (∃ (s : State) (l : Lamp), runs s ∧ s.shc.state = .stopped ∧ s.thu.monitor = .watching ∧ (s.lampRecord l).state =
      .lit ∧ ((s.lampRecord (otherLamp l)).state = .ready ∨ (s.lampRecord (otherLamp l)).state = .failed) ∧
      s.ltc.strike.phase = .idle) ∧
    (∃ (s : State) (n : Nat), runs s ∧ s.thu.cooldown = some n ∧ (s.thu.seeing = true → n + 1 < 90 ∨ ∀ t,
      s.thu.reading = some t → 45 < t) ∧ (s.thu.seeing = false → n + 1 < 300)) ∧
    (∃ (s : State) (n : Nat), runs s ∧ s.power.mode = .active ∧ s.thu.cooldown = some n ∧ ((s.thu.seeing = true ∧ 89 ≤
      n ∧ ∃ t, s.thu.reading = some t ∧ t ≤ 45) ∨ (s.thu.seeing = false ∧ 299 ≤ n)) ∧ s.litLamp = none ∧
      s.strikingLamp = none ∧ s.thu.state ≠ .trip ∧ s.thu.seeing = false) :=
  ⟨⟨fix fun s => { s with
        thu.timers := true, thu.cooldown := none, thu.seeing := true,
        thu.miss := 1 }, 2, 0, false, ⟨rfl, rfl⟩, by decide⟩,
   ⟨fix fun s => { s with
        thu.timers := true, thu.cooldown := none, thu.miss := 0,
        thu.seeing := true }, 1, 0, true, ⟨rfl, rfl⟩, by decide⟩,
   ⟨fix fun s => { s with
        thu.timers := true, thu.cooldown := none, thu.miss := 1,
        thu.seeing := true }, 2, 0, false, ⟨rfl, rfl⟩, by decide⟩,
   ⟨fix fun s => { s with
        thu.timers := true, thu.cooldown := none, thu.miss := 0,
        thu.seeing := true }, 1, 0, true, ⟨rfl, rfl⟩, by decide⟩,
   ⟨fix fun s => { s with thu.timers := true, thu.effective := 999, thu.target := 1000 }, ⟨rfl, rfl⟩, by decide⟩,
   ⟨State.reset, ⟨rfl, rfl⟩, by decide⟩,
   ⟨fix fun s => { s with thu.monitor := .stalled }, ⟨rfl, rfl⟩, by decide⟩,
   ⟨State.reset, ⟨rfl, rfl⟩, by decide⟩,
   ⟨fix fun s => { s with
        shc.state := .stopped, thu.monitor := .watching, ltc.strike.phase := .idle }, ⟨rfl, rfl⟩, by decide⟩,
   ⟨fix fun s => { s with
        shc.state := .stopped, thu.monitor := .watching, retained.lampA.state := .lit,
        retained.lampB.state := .ready, ltc.strike.phase := .idle }, .a, ⟨rfl, rfl⟩, by decide⟩,
   ⟨fix fun s => { s with thu.cooldown := some 298 }, 298, ⟨rfl, rfl⟩, by decide⟩,
   ⟨fix fun s => { s with power.mode := .active, thu.cooldown := some 299 }, 299, ⟨rfl, rfl⟩, by decide⟩⟩

theorem test_premises_BlocksReachTheTrackers :
    (∃ (k : Nat), 1 ≤ k ∧ k ≤ 8) ∧
    (∃ (s : State) (tones : List Tone) (d : Cdec), runs s ∧ s.cdec.timer = true ∧ d = heard tones s ∧ (s.shc.state =
      .stopped ∨ s.shc.state = .starting ∨ s.shc.state = .looping) ∧ s.cdec.gateOpen = false) ∧
    (∃ (s : State) (tones : List Tone) (d : Cdec), runs s ∧ s.cdec.timer = true ∧ d = heard tones s ∧ (s.shc.state =
      .stopped ∨ s.shc.state = .starting ∨ s.shc.state = .looping) ∧ s.cdec.gateOpen = true ∧ d.decode.2 = (none,
      none)) ∧
    (∃ (s : State) (tones : List Tone) (d : Cdec), runs s ∧ s.cdec.timer = true ∧ d = heard tones s ∧ (s.shc.state =
      .stopped ∨ s.shc.state = .starting ∨ s.shc.state = .looping) ∧ s.cdec.gateOpen = true ∧ d.decode.2 = (some
      .noise, none)) ∧
    (∃ (s : State) (tones : List Tone) (d : Cdec), runs s ∧ s.cdec.timer = true ∧ d = heard tones s ∧ (s.shc.state =
      .stopped ∨ s.shc.state = .starting ∨ s.shc.state = .looping) ∧ s.cdec.gateOpen = true ∧ d.decode.2 = (some
      .step, none)) ∧
    (∃ (s : State) (tones : List Tone) (d : Cdec), runs s ∧ s.cdec.timer = true ∧ d = heard tones s ∧ (s.shc.state =
      .stopped ∨ s.shc.state = .starting ∨ s.shc.state = .looping) ∧ s.cdec.gateOpen = true ∧ d.decode.2 = (some
      .tapeEnd, none)) ∧
    (∃ (s : State) (tones : List Tone) (d : Cdec), runs s ∧ s.cdec.timer = true ∧ d = heard tones s ∧ (s.shc.state =
      .stopped ∨ s.shc.state = .starting ∨ s.shc.state = .looping) ∧ s.cdec.gateOpen = true ∧ d.decode.2 = (some
      .malformed, none)) ∧
    (∃ (s : State) (tones : List Tone) (d : Cdec) (n : Nat), runs s ∧ s.cdec.timer = true ∧ d = heard tones s ∧
      (s.shc.state = .stopped ∨ s.shc.state = .starting ∨ s.shc.state = .looping) ∧ s.cdec.gateOpen = true ∧
      d.decode.2 = (none, some (.good n))) ∧
    (∃ (s : State) (tones : List Tone) (d : Cdec) (e : WordError), runs s ∧ s.cdec.timer = true ∧ d = heard tones s ∧
      (s.shc.state = .stopped ∨ s.shc.state = .starting ∨ s.shc.state = .looping) ∧ s.cdec.gateOpen = true ∧
      d.decode.2 = (none, some (.failed e))) ∧
    (∃ (s : State) (tones : List Tone) (d : Cdec) (burst : BurstEnd) (w : WordResult), runs s ∧ s.cdec.timer = true ∧
      d = heard tones s ∧ (s.shc.state = .stopped ∨ s.shc.state = .starting ∨ s.shc.state = .looping) ∧
      s.cdec.gateOpen = true ∧ d.decode.2 = (some burst, some w) ∧ burst = .malformed) ∧
    (∃ (s : State) (tones : List Tone) (d : Cdec) (burst : BurstEnd) (w : WordResult) (n : Nat), runs s ∧ s.cdec.timer
      = true ∧ d = heard tones s ∧ (s.shc.state = .stopped ∨ s.shc.state = .starting ∨ s.shc.state = .looping) ∧
      s.cdec.gateOpen = true ∧ d.decode.2 = (some burst, some w) ∧ w = .good n) ∧
    (∃ (s : State) (tones : List Tone) (d : Cdec) (burst : BurstEnd) (w : WordResult) (e : WordError), runs s ∧
      s.cdec.timer = true ∧ d = heard tones s ∧ (s.shc.state = .stopped ∨ s.shc.state = .starting ∨ s.shc.state =
      .looping) ∧ s.cdec.gateOpen = true ∧ d.decode.2 = (some burst, some w) ∧ w = .failed e) :=
  ⟨⟨8, by decide⟩,
   ⟨fix fun s => { s with
        cdec.timer := true, shc.state := .stopped,
        cdec.gateOpen := false }, [], _, ⟨rfl, rfl⟩, by decide, rfl, by decide⟩,
   ⟨fix fun s => { s with
        cdec.timer := true, shc.state := .stopped,
        cdec.gateOpen := true }, [], _, ⟨rfl, rfl⟩, by decide, rfl, by decide, by decide, rfl⟩,
   ⟨fix fun s => { s with
        cdec.timer := true, shc.state := .stopped, cdec.gateOpen := true,
        cdec.tracker := .inBurst 5 2 }, [], _, ⟨rfl, rfl⟩, by decide, rfl, by decide, by decide, rfl⟩,
   ⟨fix fun s => { s with
        cdec.timer := true, shc.state := .stopped, cdec.gateOpen := true,
        cdec.tracker := .inBurst 20 2 }, [], _, ⟨rfl, rfl⟩, by decide, rfl, by decide, by decide, rfl⟩,
   ⟨fix fun s => { s with
        cdec.timer := true, shc.state := .stopped, cdec.gateOpen := true,
        cdec.tracker := .inBurst 239 0 }, [⟨18500, 1000⟩], _, ⟨rfl, rfl⟩, by decide, rfl, by decide, by decide, rfl⟩,
   ⟨fix fun s => { s with
        cdec.timer := true, shc.state := .stopped, cdec.gateOpen := true,
        cdec.tracker := .inBurst 100 2 }, [], _, ⟨rfl, rfl⟩, by decide, rfl, by decide, by decide, rfl⟩,
   ⟨fix fun s => { s with
        cdec.timer := true, shc.state := .stopped, cdec.gateOpen := true,
        cdec.word := lastBlock }, [], _, 1, ⟨rfl, rfl⟩, by decide, rfl, by decide, by decide, rfl⟩,
   ⟨fix fun s => { s with
        cdec.timer := true, shc.state := .stopped, cdec.gateOpen := true,
        cdec.word := badBlock }, [], _, .parity, ⟨rfl, rfl⟩, by decide, rfl, by decide, by decide, rfl⟩,
   ⟨fix fun s => { s with
        cdec.timer := true, shc.state := .stopped, cdec.gateOpen := true, cdec.tracker := .inBurst 100 2,
        cdec.word := lastBlock }, [], _, .malformed, .good 1, ⟨rfl, rfl⟩, by decide, rfl, by decide, by decide, rfl,
          by decide⟩,
   ⟨fix fun s => { s with
        cdec.timer := true, shc.state := .stopped, cdec.gateOpen := true, cdec.tracker := .inBurst 20 2,
        cdec.word := lastBlock }, [], _, .step, .good 1, 1, ⟨rfl, rfl⟩, by decide, rfl, by decide, by decide, rfl,
          by decide⟩,
   ⟨fix fun s => { s with
        cdec.timer := true, shc.state := .stopped, cdec.gateOpen := true, cdec.tracker := .inBurst 20 2,
        cdec.word := badBlock }, [], _, .step, .failed .parity, .parity, ⟨rfl, rfl⟩, by decide, rfl, by decide, by
          decide, rfl, by decide⟩⟩

theorem test_premises_BurstsAndCleanWordsDecode :
    (∃ (n : Nat), 1 ≤ n) ∧
    (∃ (n : Nat), n < 4096) :=
  ⟨⟨240, by decide⟩,
   ⟨4095, by decide⟩⟩

theorem test_premises_ClearCueStatsClearsTheCounts :
    (∃ (s : State), takes s) ∧
    (∃ (s : State), alive s ∧ s.power.mode = .standby ∧ s.link.resetTaken = false) :=
  ⟨⟨State.reset, ⟨rfl, rfl⟩, rfl⟩,
   ⟨fix fun s => { s with power.mode := .standby, link.resetTaken := false }, ⟨rfl, rfl⟩, by decide⟩⟩

theorem test_premises_CueTableRequestsKeepTheTable :
    (∃ (s : State) (number : Nat) (slot : Nat) (count : Nat) (actions : List RawAction) (e : CueEntry), takes s ∧
      s.shc.state = .stopped ∧ lengthOk (.loadCue number slot count actions) = true ∧ cueOperand number slot count
      actions = some e ∧ ascending s.retained.cues = true ∧ (s.retained.cues.length < 128 ∨ hasCue e.number
      s.retained.cues = true)) ∧
    (∃ (s : State) (number : Nat) (slot : Nat) (count : Nat) (actions : List RawAction) (e : CueEntry), takes s ∧
      lengthOk (.loadCue number slot count actions) = true ∧ cueOperand number slot count actions = some e ∧
      s.shc.state ≠ .stopped) ∧
    (∃ (s : State) (number : Nat) (slot : Nat) (count : Nat) (actions : List RawAction) (e : CueEntry), takes s ∧
      lengthOk (.loadCue number slot count actions) = true ∧ cueOperand number slot count actions = some e ∧
      s.shc.state = .stopped ∧ 128 ≤ s.retained.cues.length ∧ hasCue e.number s.retained.cues = false) ∧
    (∃ (s : State) (number : Nat) (slot : Nat) (count : Nat) (actions : List RawAction), takes s ∧ lengthOk (.loadCue
      number slot count actions) = true ∧ cueOperand number slot count actions = none) ∧
    (∃ (s : State) (number : Nat), takes s ∧ number ≤ 4095 ∧ s.shc.state = .stopped) ∧
    (∃ (s : State) (number : Nat), takes s ∧ 4095 < number) ∧
    (∃ (s : State) (number : Nat), takes s ∧ number ≤ 4095 ∧ s.shc.state ≠ .stopped) ∧
    (∃ (s : State), alive s ∧ s.power.mode = .standby ∧ s.link.resetTaken = false) :=
  ⟨⟨fix fun s => { s with
        shc.state := .stopped,
        retained.cues := [aCue] }, 4095, 90, 1, [.pause 1], ⟨4095, [.pause 1], some 90⟩, ⟨⟨rfl, rfl⟩, rfl⟩, by decide⟩,
   ⟨fix fun s => { s with
        shc.state := .running }, 0, 255, 1, [.pause 600], ⟨0, [.pause 600], none⟩, ⟨⟨rfl, rfl⟩, rfl⟩, by decide⟩,
   ⟨fix fun s => { s with
        shc.state := .stopped,
        retained.cues := List.replicate 128 aCue }, 0, 255, 1, [.pause 600], ⟨0, [.pause 600], none⟩, ⟨⟨rfl, rfl⟩,
          rfl⟩, rfl, rfl, rfl, List.length_replicate.ge, rfl⟩,
   ⟨State.reset, 4095, 90, 2, [.pause 600, .pause 1], ⟨⟨rfl, rfl⟩, rfl⟩, by decide⟩,
   ⟨fix fun s => { s with shc.state := .stopped }, 4095, ⟨⟨rfl, rfl⟩, rfl⟩, by decide⟩,
   ⟨State.reset, 4096, ⟨⟨rfl, rfl⟩, rfl⟩, by decide⟩,
   ⟨fix fun s => { s with shc.state := .running }, 1, ⟨⟨rfl, rfl⟩, rfl⟩, by decide⟩,
   ⟨fix fun s => { s with power.mode := .standby, link.resetTaken := false }, ⟨rfl, rfl⟩, by decide⟩⟩

theorem test_premises_ShowStartsWithItsParts :
    (∃ (s : State) (slot : Nat) (loops : Nat) (p : Slot), takes s ∧ p.val = slot ∧ 1 ≤ slot ∧ loops ≤ 255 ∧
      s.shc.state = .stopped ∧ s.power.mode = .active ∧ s.litLamp.isSome ∧ s.mq.length < 8 ∧ s.tac.state = .stopped ∧
      s.tac.brake = none ∧ s.tac.beginFlag = false) ∧
    (∃ (s : State) (slot : Nat) (loops : Nat) (p : Slot) (l : Lamp), takes s ∧ p.val = slot ∧ 1 ≤ slot ∧ loops ≤ 255 ∧
      s.shc.state = .stopped ∧ s.power.mode = .active ∧ s.litLamp = none ∧ s.strikingLamp = none ∧ s.ltc.strike.phase
      = .idle ∧ (s.retained.lampA.state = .ready ∨ s.retained.lampB.state = .ready) ∧ s.selectLamp = l ∧
      s.ltc.position = .facing l ∧ s.mq.length < 8 ∧ s.retained.params.rewindOnStart = false ∧ s.tac.state = .play ∧
      s.thu.bars = false) ∧
    (∃ (s : State) (slot : Nat) (loops : Nat) (p : Slot) (l : Lamp), takes s ∧ p.val = slot ∧ 1 ≤ slot ∧ loops ≤ 255 ∧
      s.shc.state = .stopped ∧ s.power.mode = .active ∧ s.litLamp = none ∧ s.strikingLamp = none ∧ s.ltc.strike.phase
      = .idle ∧ (s.retained.lampA.state = .ready ∨ s.retained.lampB.state = .ready) ∧ s.selectLamp = l ∧
      s.ltc.position = .facing l ∧ s.mq.length < 8 ∧ s.retained.params.rewindOnStart = false ∧ s.tac.state = .play ∧
      s.thu.bars = true) ∧
    (∃ (s : State) (slot : Nat) (loops : Nat) (p : Slot), takes s ∧ p.val = slot ∧ 1 ≤ slot ∧ loops ≤ 255 ∧
      s.shc.state = .stopped ∧ s.power.mode = .active ∧ s.litLamp.isSome ∧ 8 ≤ s.mq.length ∧
      s.retained.params.rewindOnStart = true ∧ s.tac.state = .play) ∧
    (∃ (s : State) (slot : Nat) (loops : Nat), takes s ∧ (slot = 0 ∨ 90 < slot ∨ 255 < loops)) ∧
    (∃ (s : State) (slot : Nat) (loops : Nat), takes s ∧ 1 ≤ slot ∧ slot ≤ 90 ∧ loops ≤ 255 ∧ (s.shc.state ≠ .stopped
      ∨ s.power.mode = .windingDown)) :=
  ⟨⟨fix fun s => { s with
        shc.state := .stopped, power.mode := .active, retained.lampA.state := .lit, tac.state := .stopped,
        tac.brake := none, tac.beginFlag := false }, 5, 1, 5, ⟨⟨rfl, rfl⟩, rfl⟩, by decide⟩,
   ⟨fix fun s => { s with
        shc.state := .stopped, power.mode := .active, ltc.strike.phase := .idle, retained.lampA.state := .ready,
        ltc.position := .facing .a, retained.params.rewindOnStart := false,
        tac.state := .play }, 5, 1, 5, .a, ⟨⟨rfl, rfl⟩, rfl⟩, by decide⟩,
   ⟨fix fun s => { s with
        shc.state := .stopped, power.mode := .active, ltc.strike.phase := .idle, retained.lampA.state := .ready,
        ltc.position := .facing .a, retained.params.rewindOnStart := false, tac.state := .play,
        thu.latch := true }, 5, 1, 5, .a, ⟨⟨rfl, rfl⟩, rfl⟩, by decide⟩,
   ⟨fix fun s => { s with
        shc.state := .stopped, power.mode := .active, retained.lampA.state := .lit,
        retained.params.rewindOnStart := true, tac.state := .play,
        mq := List.replicate 8 aMotion }, 5, 1, 5, ⟨⟨rfl, rfl⟩, rfl⟩, by decide⟩,
   ⟨State.reset, 91, 1, ⟨⟨rfl, rfl⟩, rfl⟩, by decide⟩,
   ⟨fix fun s => { s with shc.state := .running }, 1, 1, ⟨⟨rfl, rfl⟩, rfl⟩, by decide⟩⟩

theorem test_premises_ShowPausesAndResumes :
    (∃ (s : State), takes s ∧ s.shc.state = .running ∧ s.tac.state = .play) ∧
    (∃ (s : State), takes s ∧ s.shc.state ≠ .running ∧ s.shc.state ≠ .paused) ∧
    (∃ (s : State), takes s ∧ s.shc.state = .paused ∧ s.shc.cues = [] ∧ s.tac.state = .paused ∧ s.tac.endFlag = false)
      ∧
    (∃ (s : State), runs s ∧ s.shc.state = .paused ∧ s.shc.hold.isSome ∧ s.shc.cues = [] ∧ s.tac.state = .paused ∧
      s.tac.endFlag = false) ∧
    (∃ (s : State) (h : HeldRecord), runs s ∧ s.shc.state = .held ∧ s.shc.hold.isSome ∧ s.shc.held = some h) ∧
    (∃ (s : State), takes s ∧ s.shc.state = .held ∧ s.obstacles ≠ []) ∧
    (∃ (s : State) (h : HeldRecord), takes s ∧ s.shc.state = .held ∧ s.obstacles = [] ∧ s.shc.held = some h ∧ h.resume
      = .paused) ∧
    (∃ (s : State) (h : HeldRecord), takes s ∧ s.shc.state = .held ∧ s.obstacles = [] ∧ s.shc.held = some h ∧ h.resume
      = .running ∧ s.shc.cues = [] ∧ s.tac.state = .paused ∧ s.tac.endFlag = false) ∧
    (∃ (s : State) (h : HeldRecord), takes s ∧ s.shc.state = .held ∧ s.obstacles = [] ∧ s.shc.held = some h ∧
      (h.resume = .starting ∨ h.resume = .looping) ∧ s.shc.parts.outstanding = true) ∧
    (∃ (s : State) (h : HeldRecord), takes s ∧ s.shc.state = .held ∧ s.obstacles = [] ∧ s.shc.held = some h ∧
      (h.resume = .starting ∨ h.resume = .looping) ∧ s.shc.parts.outstanding = false ∧ s.shc.parts.anyFailed = false ∧
      s.shc.cues = [] ∧ s.tac.state = .stopped ∧ s.tac.brake = none ∧ s.tac.endFlag = false) ∧
    (∃ (s : State) (h : HeldRecord) (p : Slot), takes s ∧ s.shc.state = .held ∧ s.obstacles = [] ∧ s.shc.held = some h
      ∧ (h.resume = .starting ∨ h.resume = .looping) ∧ s.shc.parts.outstanding = false ∧ s.shc.parts.goto = some
      .failed ∧ s.shc.parts.rewind ≠ some .failed ∧ s.shc.startSlot = some p ∧ s.mq.length < 8) ∧
    (∃ (s : State) (h : HeldRecord) (l : Lamp), runs s ∧ s.ltc.strike.phase = .check ∧ s.ltc.strike.lamp = l ∧
      (s.lampRecord l).state = .striking ∧ s.litLamp = none ∧ s.shc.state = .held ∧ s.shc.held = some h ∧ h.resume =
      .paused ∧ h.hold = true ∧ s.obstacles = [] ∧ s.ltc.strike.retried = false) ∧
    (∃ (s : State) (h : HeldRecord) (l : Lamp), runs s ∧ s.ltc.strike.phase = .check ∧ s.ltc.strike.lamp = l ∧
      (s.lampRecord l).state = .striking ∧ s.litLamp = none ∧ s.shc.state = .held ∧ s.shc.held = some h ∧ h.resume =
      .paused ∧ (h.hold = false ∨ s.obstacles ≠ [])) ∧
    (∃ (s : State) (waiting : List Arrival), takes s ∧ s.shc.state = .paused ∧ s.shc.cut = none ∧ s.shc.cues = waiting
      ∧ (∀ a ∈ waiting, a = .step) ∧ s.retained.params.stepAction = .advance ∧ s.mq.length + waiting.length ≤ 8 ∧
      s.tac.state = .paused ∧ s.tac.endFlag = false) ∧
    (∃ (s : State) (p : Slot), takes s ∧ s.shc.state = .excursion ∧ s.shc.register = .known p ∧ s.mq.length < 8) ∧
    (∃ (s : State), takes s ∧ (s.shc.state = .stopped ∨ s.shc.state = .starting ∨ s.shc.state = .looping)) :=
  ⟨⟨fix fun s => { s with shc.state := .running, tac.state := .play }, ⟨⟨rfl, rfl⟩, rfl⟩, by decide⟩,
   ⟨State.reset, ⟨⟨rfl, rfl⟩, rfl⟩, by decide⟩,
   ⟨fix fun s => { s with
        shc.state := .paused, shc.cues := [], tac.state := .paused,
        tac.endFlag := false }, ⟨⟨rfl, rfl⟩, rfl⟩, by decide⟩,
   ⟨fix fun s => { s with
        shc.state := .paused, shc.hold := some 5, shc.cues := [], tac.state := .paused,
        tac.endFlag := false }, ⟨rfl, rfl⟩, by decide⟩,
   ⟨fix fun s => { s with
        shc.state := .held, shc.hold := some 5, shc.held := some aHold }, aHold, ⟨rfl, rfl⟩, by decide⟩,
   ⟨fix fun s => { s with shc.state := .held, tgc.phase := .jammed }, ⟨⟨rfl, rfl⟩, rfl⟩, by decide⟩,
   ⟨fix fun s => { s with
        shc.state := .held, shc.held := some ({ aHold with resume := .paused }),
        retained.position := .known 1 }, { aHold with resume := .paused }, ⟨⟨rfl, rfl⟩, rfl⟩, by decide⟩,
   ⟨fix fun s => { s with
        shc.state := .held, shc.held := some ⟨false, .tapeStall, .running⟩, shc.cues := [], tac.state := .paused,
        tac.endFlag := false,
        retained.position := .known 1 }, ⟨false, .tapeStall, .running⟩, ⟨⟨rfl, rfl⟩, rfl⟩, by decide⟩,
   ⟨fix fun s => { s with
        shc.state := .held, shc.held := some ⟨false, .tapeStall, .starting⟩, shc.parts.goto := some .outstanding,
        retained.position := .known 1 }, ⟨false, .tapeStall, .starting⟩, ⟨⟨rfl, rfl⟩, rfl⟩, by decide⟩,
   ⟨fix fun s => { s with
        shc.state := .held, shc.held := some ⟨false, .tapeStall, .starting⟩, shc.cues := [], tac.state := .stopped,
        tac.brake := none, tac.endFlag := false,
        retained.position := .known 1 }, ⟨false, .tapeStall, .starting⟩, ⟨⟨rfl, rfl⟩, rfl⟩, by decide⟩,
   ⟨fix fun s => { s with
        shc.state := .held, shc.held := some ⟨false, .tapeStall, .starting⟩, shc.parts.goto := some .failed,
        shc.startSlot := some 90, mq := List.replicate 7 aMotion,
        retained.position := .known 1 }, ⟨false, .tapeStall, .starting⟩, 90, ⟨⟨rfl, rfl⟩, rfl⟩, by decide⟩,
   ⟨fix fun s => { s with
        ltc.strike.phase := .check, ltc.strike.lamp := .a, retained.lampA.state := .striking, shc.state := .held,
        shc.held := some aHold, ltc.strike.retried := false,
        retained.position := .known 1 }, { aHold with hold := true }, .a, ⟨rfl, rfl⟩, by decide⟩,
   ⟨fix fun s => { s with
        ltc.strike.phase := .check, ltc.strike.lamp := .a, retained.lampA.state := .striking, shc.state := .held,
        shc.held := some ({ aHold with resume := .paused, hold := false }) }, { aHold with resume := .paused, hold
          := false }, .a, ⟨rfl, rfl⟩, by decide⟩,
   ⟨fix fun s => { s with
        shc.state := .paused, shc.cut := none, shc.cues := [], retained.params.stepAction := .advance,
        tac.state := .paused, tac.endFlag := false }, [], ⟨⟨rfl, rfl⟩, rfl⟩, by decide⟩,
   ⟨fix fun s => { s with
        shc.state := .excursion, shc.register := .known 90,
        mq := List.replicate 7 aMotion }, 90, ⟨⟨rfl, rfl⟩, rfl⟩, by decide⟩,
   ⟨fix fun s => { s with shc.state := .stopped }, ⟨⟨rfl, rfl⟩, rfl⟩, by decide⟩⟩

theorem test_premises_StopsAndSeveritiesMoveTheShow :
    (∃ (s : State), takes s ∧ s.shc.state ≠ .stopped) ∧
    (∃ (s : State), takes s ∧ s.shc.state = .stopped) :=
  ⟨⟨fix fun s => { s with shc.state := .held, fe.fade := some aFade }, ⟨⟨rfl, rfl⟩, rfl⟩, by decide⟩,
   ⟨fix fun s => { s with shc.state := .stopped }, ⟨⟨rfl, rfl⟩, rfl⟩, by decide⟩⟩

theorem test_premises_ArrivalsAreHandledOrKept :
    (∃ (s : State) (tones : List Tone) (n : Nat), hears tones none (some (.good n)) s ∧ s.shc.state = .running ∧
      s.shc.cut = none ∧ (∀ e ∈ s.retained.cues, e.number ≠ n)) ∧
    (∃ (s : State) (tones : List Tone) (i : Nat) (e : CueEntry), hears tones none (some (.good e.number)) s ∧
      s.shc.state = .running ∧ s.shc.cut = none ∧ s.retained.cues[i]? = some e ∧ ascending s.retained.cues = true ∧ i
      = s.shc.pointer) ∧
    (∃ (s : State) (tones : List Tone) (i : Nat) (e : CueEntry), hears tones none (some (.good e.number)) s ∧
      s.shc.state = .running ∧ s.shc.cut = none ∧ s.retained.cues[i]? = some e ∧ ascending s.retained.cues = true ∧
      s.shc.pointer < i ∧ s.flt.first = none) ∧
    (∃ (s : State) (tones : List Tone) (i : Nat) (e : CueEntry), hears tones none (some (.good e.number)) s ∧
      s.shc.state = .running ∧ s.shc.cut = none ∧ s.retained.cues[i]? = some e ∧ ascending s.retained.cues = true ∧ i
      < s.shc.pointer ∧ s.flt.first = none) ∧
    (∃ (s : State) (tones : List Tone) (n : Nat) (a : CueAction) (x : Option Nat) (target : Nat) (duration : Nat)
      (curve : Curve), takes s ∧ hears tones none (some (.good n)) s ∧ s.shc.state = .running ∧ s.shc.cut = none ∧
      s.retained.cues[s.shc.pointer]? = some ⟨n, [a], x⟩ ∧ ascending s.retained.cues = true ∧ a = .fade target
      duration curve ∧ x = none) ∧
    (∃ (s : State) (tones : List Tone) (n : Nat) (a : CueAction) (x : Option Nat) (outMs : Nat) (inMs : Nat) (m :
      Move), takes s ∧ hears tones none (some (.good n)) s ∧ s.shc.state = .running ∧ s.shc.cut = none ∧
      s.retained.cues[s.shc.pointer]? = some ⟨n, [a], x⟩ ∧ ascending s.retained.cues = true ∧ a = .cut outMs inMs m) ∧
    (∃ (s : State) (tones : List Tone) (n : Nat) (a : CueAction) (x : Option Nat) (m : Move), takes s ∧ hears tones
      none (some (.good n)) s ∧ s.shc.state = .running ∧ s.shc.cut = none ∧ s.retained.cues[s.shc.pointer]? = some ⟨n,
      [a], x⟩ ∧ ascending s.retained.cues = true ∧ a = .change m ∧ s.mq.length < 8) ∧
    (∃ (s : State) (tones : List Tone) (n : Nat) (a : CueAction) (x : Option Nat) (m : Move), takes s ∧ hears tones
      none (some (.good n)) s ∧ s.shc.state = .running ∧ s.shc.cut = none ∧ s.retained.cues[s.shc.pointer]? = some ⟨n,
      [a], x⟩ ∧ ascending s.retained.cues = true ∧ a = .change m ∧ 8 ≤ s.mq.length) ∧
    (∃ (s : State) (tones : List Tone) (n : Nat) (a : CueAction) (x : Option Nat) (volume : Nat) (ramp : Nat), takes s
      ∧ hears tones none (some (.good n)) s ∧ s.shc.state = .running ∧ s.shc.cut = none ∧
      s.retained.cues[s.shc.pointer]? = some ⟨n, [a], x⟩ ∧ ascending s.retained.cues = true ∧ a = .audio volume ramp ∧
      x = none ∧ s.flt.switchOn = false ∧ s.flt.eventOn[3] = true) ∧
    (∃ (s : State) (tones : List Tone) (n : Nat) (a : CueAction) (x : Option Nat) (hold : Nat), takes s ∧ hears tones
      none (some (.good n)) s ∧ s.shc.state = .running ∧ s.shc.cut = none ∧ s.retained.cues[s.shc.pointer]? = some ⟨n,
      [a], x⟩ ∧ ascending s.retained.cues = true ∧ a = .pause hold ∧ x = none) ∧
    (∃ (s : State) (tones : List Tone) (n : Nat) (a : CueAction) (x : Option Nat) (volume : Nat) (ramp : Nat) (p :
      Slot), takes s ∧ hears tones none (some (.good n)) s ∧ s.shc.state = .running ∧ s.shc.cut = none ∧
      s.retained.cues[s.shc.pointer]? = some ⟨n, [a], x⟩ ∧ ascending s.retained.cues = true ∧ a = .audio volume ramp ∧
      x = some p.val ∧ s.retained.position = .known p) ∧
    (∃ (s : State) (tones : List Tone) (n : Nat) (a : CueAction) (x : Option Nat) (volume : Nat) (ramp : Nat) (p :
      Slot), takes s ∧ hears tones none (some (.good n)) s ∧ s.shc.state = .running ∧ s.shc.cut = none ∧
      s.retained.cues[s.shc.pointer]? = some ⟨n, [a], x⟩ ∧ ascending s.retained.cues = true ∧ a = .audio volume ramp ∧
      x = some p.val ∧ s.retained.position ≠ .known p ∧ (s.retained.params.resync = false ∨ s.mq.length < 8) ∧
      s.retained.params.resync = false) ∧
    (∃ (s : State) (tones : List Tone) (n : Nat) (a : CueAction) (x : Option Nat) (volume : Nat) (ramp : Nat) (p :
      Slot), takes s ∧ hears tones none (some (.good n)) s ∧ s.shc.state = .running ∧ s.shc.cut = none ∧
      s.retained.cues[s.shc.pointer]? = some ⟨n, [a], x⟩ ∧ ascending s.retained.cues = true ∧ a = .audio volume ramp ∧
      x = some p.val ∧ s.retained.position ≠ .known p ∧ (s.retained.params.resync = false ∨ s.mq.length < 8) ∧
      s.retained.params.resync = true) ∧
    (∃ (s : State) (tones : List Tone) (n : Nat) (p : Nat) (m : Move) (m' : Move), hears tones none (some (.good n)) s
      ∧ s.shc.state = .running ∧ s.shc.cut = none ∧ ascending s.retained.cues = true ∧ s.mq.length < 7 ∧
      s.retained.cues[s.shc.pointer]? = some ⟨n, [.change m, .change m'], some p⟩) ∧
    (∃ (s : State) (tones : List Tone) (n : Nat) (p : Nat) (m : Move) (m' : Move) (outMs : Nat) (inMs : Nat), hears
      tones none (some (.good n)) s ∧ s.shc.state = .running ∧ s.shc.cut = none ∧ ascending s.retained.cues = true ∧
      s.mq.length < 7 ∧ s.retained.cues[s.shc.pointer]? = some ⟨n, [.cut outMs inMs m, .change m'], some p⟩) ∧
    (∃ (s : State) (tones : List Tone), hears tones (some .step) none s ∧ s.shc.state = .running ∧ s.shc.cut = none ∧
      s.retained.params.stepAction = .advance ∧ s.mq.length < 8) ∧
    (∃ (s : State) (tones : List Tone), hears tones (some .step) none s ∧ s.shc.state = .running ∧ s.shc.cut = none ∧
      s.retained.params.stepAction = .cut) ∧
    (∃ (s : State) (tones : List Tone) (n : Nat), ((s.shc.state = .running ∧ s.shc.cut.isSome) ∨ s.shc.state = .paused
      ∨ s.shc.state = .held ∨ s.shc.state = .excursion) ∧ hears tones none (some (.good n)) s ∧ s.shc.cues.length < 4)
      ∧
    (∃ (s : State) (tones : List Tone) (n : Nat), ((s.shc.state = .running ∧ s.shc.cut.isSome) ∨ s.shc.state = .paused
      ∨ s.shc.state = .held ∨ s.shc.state = .excursion) ∧ hears tones none (some (.good n)) s ∧ 4 ≤ s.shc.cues.length)
      ∧
    (∃ (s : State) (tones : List Tone) (a : Arrival) (burst : BurstEnd), ((s.shc.state = .running ∧ s.shc.cut.isSome)
      ∨ s.shc.state = .paused ∨ s.shc.state = .held ∨ s.shc.state = .excursion) ∧ hears tones (some burst) none s ∧
      ((burst = .step ∧ a = .step) ∨ (burst = .tapeEnd ∧ a = .tapeEnd)) ∧ s.shc.cues.length < 4) ∧
    (∃ (s : State) (tones : List Tone) (a : Arrival) (burst : BurstEnd), ((s.shc.state = .running ∧ s.shc.cut.isSome)
      ∨ s.shc.state = .paused ∨ s.shc.state = .held ∨ s.shc.state = .excursion) ∧ hears tones (some burst) none s ∧
      ((burst = .step ∧ a = .step) ∨ (burst = .tapeEnd ∧ a = .tapeEnd)) ∧ 4 ≤ s.shc.cues.length) :=
  ⟨⟨fix fun s => { s with
        cdec.gateOpen := true, tac.state := .play, cdec.word := lastBlock, shc.state := .running,
        shc.cut := none }, [], 1, ⟨⟨rfl, rfl⟩, rfl, rfl, rfl⟩, by decide⟩,
   ⟨fix fun s => { s with
        cdec.gateOpen := true, tac.state := .play, cdec.word := lastBlock, shc.state := .running, shc.cut := none,
        retained.cues := [aCue], shc.pointer := 0 }, [], 0, aCue, ⟨⟨rfl, rfl⟩, rfl, rfl, rfl⟩, by decide⟩,
   ⟨fix fun s => { s with
        cdec.gateOpen := true, tac.state := .play, cdec.word := lastBlock, shc.state := .running, shc.cut := none,
        flt.first := none, retained.cues := [⟨0, [.pause 1], none⟩, aCue],
        shc.pointer := 0 }, [], 1, aCue, ⟨⟨rfl, rfl⟩, rfl, rfl, rfl⟩, by decide⟩,
   ⟨fix fun s => { s with
        cdec.gateOpen := true, tac.state := .play, cdec.word := lastBlock, shc.state := .running, shc.cut := none,
        flt.first := none, retained.cues := [aCue],
        shc.pointer := 1 }, [], 0, aCue, ⟨⟨rfl, rfl⟩, rfl, rfl, rfl⟩, by decide⟩,
   ⟨fix fun s => { s with
        cdec.gateOpen := true, tac.state := .play, cdec.word := lastBlock, shc.state := .running, shc.cut := none,
        retained.cues := [⟨1, [.fade 1000 30000 .user], none⟩] }, [], 1, .fade 1000 30000 .user, none, 1000, 30000,
          .user, ⟨⟨rfl, rfl⟩, rfl⟩, ⟨⟨rfl, rfl⟩, rfl, rfl, rfl⟩, by decide⟩,
   ⟨fix fun s => { s with
        cdec.gateOpen := true, tac.state := .play, cdec.word := lastBlock, shc.state := .running, shc.cut := none,
        retained.cues := [⟨1, [.cut 1 1 (.advance 1)], some 90⟩] }, [], 1, .cut 1 1 (.advance 1), some 90, 1, 1,
          .advance 1, ⟨⟨rfl, rfl⟩, rfl⟩, ⟨⟨rfl, rfl⟩, rfl, rfl, rfl⟩, by decide⟩,
   ⟨fix fun s => { s with
        cdec.gateOpen := true, tac.state := .play, cdec.word := lastBlock, shc.state := .running, shc.cut := none,
        retained.cues := [⟨1, [.change (.advance 1)], some 90⟩],
        mq := List.replicate 7 aMotion }, [], 1, .change (.advance 1), some 90, .advance 1, ⟨⟨rfl, rfl⟩, rfl⟩,
          ⟨⟨rfl, rfl⟩, rfl, rfl, rfl⟩, by decide⟩,
   ⟨fix fun s => { s with
        cdec.gateOpen := true, tac.state := .play, cdec.word := lastBlock, shc.state := .running, shc.cut := none,
        retained.cues := [⟨1, [.change (.advance 1)], none⟩],
        mq := List.replicate 8 aMotion }, [], 1, .change (.advance 1), none, .advance 1, ⟨⟨rfl, rfl⟩, rfl⟩, ⟨⟨rfl,
          rfl⟩, rfl, rfl, rfl⟩, by decide⟩,
   ⟨fix fun s => { s with
        cdec.gateOpen := true, tac.state := .play, cdec.word := lastBlock, shc.state := .running, shc.cut := none,
        flt.switchOn := false, retained.cues := [⟨1, [.audio 63 10000], none⟩],
        flt.eventOn := .replicate 9 true }, [], 1, .audio 63 10000, none, 63, 10000, ⟨⟨rfl, rfl⟩, rfl⟩, ⟨⟨rfl, rfl⟩,
          rfl, rfl, rfl⟩, by decide⟩,
   ⟨fix fun s => { s with
        cdec.gateOpen := true, tac.state := .play, cdec.word := lastBlock, shc.state := .running, shc.cut := none,
        retained.cues := [⟨1, [.pause 600], none⟩] }, [], 1, .pause 600, none, 600, ⟨⟨rfl, rfl⟩, rfl⟩, ⟨⟨rfl, rfl⟩,
          rfl, rfl, rfl⟩, by decide⟩,
   ⟨fix fun s => { s with
        cdec.gateOpen := true, tac.state := .play, cdec.word := lastBlock, shc.state := .running, shc.cut := none,
        retained.position := .known 90,
        retained.cues := [⟨1, [.audio 63 0], some 90⟩] }, [], 1, .audio 63 0, some 90, 63, 0, 90, ⟨⟨rfl, rfl⟩, rfl⟩,
          ⟨⟨rfl, rfl⟩, rfl, rfl, rfl⟩, by decide⟩,
   ⟨fix fun s => { s with
        cdec.gateOpen := true, tac.state := .play, cdec.word := lastBlock, shc.state := .running, shc.cut := none,
        retained.params.resync := false,
        retained.cues := [⟨1, [.audio 63 0], some 90⟩] }, [], 1, .audio 63 0, some 90, 63, 0, 90, ⟨⟨rfl, rfl⟩, rfl⟩,
          ⟨⟨rfl, rfl⟩, rfl, rfl, rfl⟩, by decide⟩,
   ⟨fix fun s => { s with
        cdec.gateOpen := true, tac.state := .play, cdec.word := lastBlock, shc.state := .running, shc.cut := none,
        retained.params.resync := true, retained.cues := [⟨1, [.audio 63 0], some 90⟩],
        mq := List.replicate 7 aMotion }, [], 1, .audio 63 0, some 90, 63, 0, 90, ⟨⟨rfl, rfl⟩, rfl⟩, ⟨⟨rfl, rfl⟩,
          rfl, rfl, rfl⟩, by decide⟩,
   ⟨fix fun s => { s with
        cdec.gateOpen := true, tac.state := .play, cdec.word := lastBlock, shc.state := .running, shc.cut := none,
        retained.cues := [⟨1, [.change (.advance 1), .change (.advance 1)], some 90⟩],
        mq := List.replicate 6 aMotion }, [], 1, 90, .advance 1, .advance 1, ⟨⟨rfl, rfl⟩, rfl, rfl, rfl⟩, by decide⟩,
   ⟨fix fun s => { s with
        cdec.gateOpen := true, tac.state := .play, cdec.word := lastBlock, shc.state := .running, shc.cut := none,
        retained.cues := [⟨1, [.cut 0 5000 (.advance 1), .change (.advance 1)], some 90⟩],
        mq := List.replicate 6 aMotion }, [], 1, 90, .advance 1, .advance 1, 0, 5000, ⟨⟨rfl, rfl⟩, rfl, rfl, rfl⟩,
          by decide⟩,
   ⟨fix fun s => { s with
        cdec.gateOpen := true, tac.state := .play, cdec.tracker := .inBurst 20 2, shc.state := .running,
        shc.cut := none, retained.params.stepAction := .advance }, [], ⟨⟨rfl, rfl⟩, rfl, rfl, rfl⟩, by decide⟩,
   ⟨fix fun s => { s with
        cdec.gateOpen := true, tac.state := .play, cdec.tracker := .inBurst 20 2, shc.state := .running,
        shc.cut := none, retained.params.stepAction := .cut }, [], ⟨⟨rfl, rfl⟩, rfl, rfl, rfl⟩, by decide⟩,
   ⟨fix fun s => { s with
        shc.state := .running, shc.cut := some aCut, cdec.gateOpen := true, tac.state := .play,
        cdec.word := lastBlock,
        shc.cues := List.replicate 3 .step }, [], 1, by decide, ⟨⟨rfl, rfl⟩, rfl, rfl, rfl⟩, by decide⟩,
   ⟨fix fun s => { s with
        shc.state := .running, shc.cut := some aCut, cdec.gateOpen := true, tac.state := .play,
        cdec.word := lastBlock,
        shc.cues := List.replicate 4 .step }, [], 1, by decide, ⟨⟨rfl, rfl⟩, rfl, rfl, rfl⟩, by decide⟩,
   ⟨fix fun s => { s with
        shc.state := .running, shc.cut := some aCut, cdec.gateOpen := true, tac.state := .play,
        cdec.tracker := .inBurst 20 2,
        shc.cues := List.replicate 3 .step }, [], .step, .step, by decide, ⟨⟨rfl, rfl⟩, rfl, rfl, rfl⟩, by decide⟩,
   ⟨fix fun s => { s with
        shc.state := .running, shc.cut := some aCut, cdec.gateOpen := true, tac.state := .play,
        cdec.tracker := .inBurst 20 2,
        shc.cues := List.replicate 4 .step }, [], .step, .step, by decide, ⟨⟨rfl, rfl⟩, rfl, rfl, rfl⟩, by decide⟩⟩

theorem test_premises_CutsRunInThreePhases :
    (∃ (s : State) (r : FadeRecord) (k : Cut), runs s ∧ showFadeEnds r s ∧ s.shc.parts.fade ≠ some .outstanding ∧
      s.shc.cut = some k ∧ k.phase = .fadingOut ∧ s.mq.length < 8) ∧
    (∃ (s : State) (r : FadeRecord) (k : Cut), runs s ∧ showFadeEnds r s ∧ s.shc.parts.fade ≠ some .outstanding ∧
      s.shc.cut = some k ∧ k.phase = .fadingOut ∧ 8 ≤ s.mq.length ∧ s.shc.state = .running) ∧
    (∃ (s : State) (r : FadeRecord) (k : Cut) (curve : Nat) (c : Curve), takes s ∧ s.fe.fade = some r ∧ r.origin =
      .theShow ∧ s.shc.parts.fade ≠ some .outstanding ∧ s.shc.cut = some k ∧ k.phase = .fadingOut ∧ curveOperand curve
      = some c ∧ s.mq.length < 8) ∧
    (∃ (s : State) (m : Motion) (rest : List Motion) (item : Issued) (more : List Issued) (k : Cut) (cue : Nat) (p :
      Slot), runs s ∧ showMoveEnds m rest item more s ∧ item.purpose = .cutChange ∧ s.shc.cut = some k ∧ k.phase =
      .changing ∧ (item.check = none ∨ (item.check = some ⟨cue, p.val⟩ ∧ s.retained.position = .known p))) ∧
    (∃ (s : State) (m : Motion) (item : Issued) (k : Cut), takes s ∧ s.mq = [m] ∧ m.active = false ∧ m.source =
      .theShow ∧ s.tgc.cycle = none ∧ s.shc.issued = [item] ∧ item.purpose = .cutChange ∧ s.shc.cut = some k ∧ k.phase
      = .changing ∧ s.shc.cues = []) ∧
    (∃ (s : State) (r : FadeRecord) (k : Cut), runs s ∧ showFadeEnds r s ∧ s.shc.parts.fade ≠ some .outstanding ∧
      s.shc.cut = some k ∧ k.phase = .fadingIn ∧ (s.shc.state ≠ .running ∨ s.shc.cues = [])) ∧
    (∃ (s : State) (r : FadeRecord) (k : Cut) (waiting : List Arrival), runs s ∧ showFadeEnds r s ∧ s.shc.parts.fade ≠
      some .outstanding ∧ s.shc.cut = some k ∧ k.phase = .fadingIn ∧ s.shc.state = .running ∧ s.shc.cues = waiting ∧
      (∀ a ∈ waiting, a = .step) ∧ s.retained.params.stepAction = .advance ∧ s.mq.length + waiting.length ≤ 8) ∧
    (∃ (s : State) (r : FadeRecord) (k : Cut) (waiting : List Arrival), runs s ∧ showFadeEnds r s ∧ s.shc.parts.fade ≠
      some .outstanding ∧ s.shc.cut = some k ∧ k.phase = .fadingIn ∧ s.shc.state = .running ∧ s.shc.cues = .step ::
      waiting ∧ s.retained.params.stepAction = .cut) ∧
    (∃ (s : State) (m : Motion) (rest : List Motion) (item : Issued) (more : List Issued), runs s ∧ showMoveEnds m
      rest item more s ∧ item.purpose = .cutChange ∧ s.shc.cut = none ∧ item.check = none) :=
  ⟨⟨fix fun s => { s with
        fe.fade := some showsFade,
        shc.cut := some ({ aCut with phase := .fadingOut }) }, showsFade, { aCut with phase := .fadingOut }, ⟨rfl,
          rfl⟩, ⟨rfl, rfl, rfl, by decide⟩, by decide⟩,
   ⟨fix fun s => { s with
        fe.fade := some showsFade, shc.cut := some ({ aCut with phase := .fadingOut }), shc.state := .running,
        mq := List.replicate 8 aMotion }, showsFade, { aCut with phase := .fadingOut }, ⟨rfl, rfl⟩, ⟨rfl, rfl, rfl,
          by decide⟩, by decide⟩,
   ⟨fix fun s => { s with
        fe.fade := some ({ aFade with origin := .theShow }),
        shc.cut := some ({ aCut with phase := .fadingOut }) }, { aFade with origin := .theShow }, { aCut with phase
          := .fadingOut }, 0, .linear, ⟨⟨rfl, rfl⟩, rfl⟩, by decide⟩,
   ⟨fix fun s => { s with
        mq := showsMove :: [], tgc := aSeating, shc.issued := [⟨.cutChange, some ⟨1, 90⟩⟩],
        shc.cut := some ({ aCut with phase := .changing }),
        retained.position := .known 90 }, showsMove, [], ⟨.cutChange, some ⟨1, 90⟩⟩, [], { aCut with phase :=
          .changing }, 1, 90, ⟨rfl, rfl⟩, ⟨rfl, rfl, rfl, rfl, _, rfl, rfl, rfl, rfl, rfl⟩, by decide⟩,
   ⟨fix fun s => { s with
        mq := [({ aMotion with active := false, source := .theShow })], tgc.cycle := none,
        shc.issued := [({ anItem with purpose := .cutChange })], shc.cut := some ({ aCut with phase := .changing }),
        shc.cues := [] }, { aMotion with active := false, source := .theShow }, { anItem with purpose := .cutChange
          }, { aCut with phase := .changing }, ⟨⟨rfl, rfl⟩, rfl⟩, by decide⟩,
   ⟨fix fun s => { s with
        fe.fade := some showsFade,
        shc.cut := some ({ aCut with phase := .fadingIn }) }, showsFade, { aCut with phase := .fadingIn }, ⟨rfl,
          rfl⟩, ⟨rfl, rfl, rfl, by decide⟩, by decide⟩,
   ⟨fix fun s => { s with
        fe.fade := some showsFade, shc.cut := some ({ aCut with phase := .fadingIn }), shc.state := .running,
        shc.cues := [],
        retained.params.stepAction := .advance }, showsFade, { aCut with phase := .fadingIn }, [], ⟨rfl, rfl⟩, ⟨rfl,
          rfl, rfl, by decide⟩, by decide⟩,
   ⟨fix fun s => { s with
        fe.fade := some showsFade, shc.cut := some ({ aCut with phase := .fadingIn }), shc.state := .running,
        shc.cues := .step :: [],
        retained.params.stepAction := .cut }, showsFade, { aCut with phase := .fadingIn }, [], ⟨rfl, rfl⟩, ⟨rfl,
          rfl, rfl, by decide⟩, by decide⟩,
   ⟨fix fun s => { s with
        mq := showsMove :: [], tgc := aSeating,
        shc.issued := [{ anItem with purpose := .cutChange, check := none }],
        shc.cut := none }, showsMove, [], { anItem with purpose := .cutChange, check := none }, [], ⟨rfl, rfl⟩,
          ⟨rfl, rfl, rfl, rfl, _, rfl, rfl, rfl, rfl, rfl⟩, by decide⟩⟩

theorem test_premises_EndsLoopAndPartsStart :
    (∃ (s : State) (tones : List Tone), hears tones (some .tapeEnd) none s ∧ s.shc.state = .running ∧ s.tac.state =
      .play ∧ s.shc.loops ≠ 0 ∧ min (s.shc.loopsDone + 1) 255 = s.shc.loops ∧ s.shc.cut = none) ∧
    (∃ (s : State) (tones : List Tone), hears tones (some .tapeEnd) none s ∧ s.shc.state = .running ∧ s.tac.state =
      .play ∧ (s.shc.loops = 0 ∨ min (s.shc.loopsDone + 1) 255 ≠ s.shc.loops) ∧ s.shc.cut = none) ∧
    (∃ (s : State) (tones : List Tone), hears tones (some .tapeEnd) none s ∧ s.shc.state = .running ∧ s.tac.state =
      .play ∧ s.shc.cut.isSome ∧ s.shc.cues.length < 4) ∧
    (∃ (s : State), runs s ∧ s.shc.state = .running ∧ s.tac.state = .play ∧ s.shc.loops ≠ 0 ∧ min (s.shc.loopsDone +
      1) 255 = s.shc.loops) ∧
    (∃ (s : State), runs s ∧ s.shc.state = .running ∧ s.tac.state = .play ∧ (s.shc.loops = 0 ∨ min (s.shc.loopsDone +
      1) 255 ≠ s.shc.loops)) ∧
    (∃ (s : State) (r : FadeRecord) (p : Slot), runs s ∧ showFadeEnds r s ∧ s.shc.state = .looping ∧ s.shc.parts.fade
      = some .outstanding ∧ s.shc.startSlot = some p ∧ s.mq.length < 8) ∧
    (∃ (s : State) (m : Motion) (rest : List Motion) (item : Issued) (more : List Issued) (parts : Parts), runs s ∧
      showMoveEnds m rest item more s ∧ (item.purpose = .start ∨ item.purpose = .loopReturn) ∧ (s.shc.state =
      .starting ∨ s.shc.state = .looping) ∧ s.shc.parts.goto = some .outstanding ∧ parts =
      { s.shc.parts with goto := some .done } ∧ parts.outstanding = true) ∧
    (∃ (s : State) (m : Motion) (rest : List Motion) (item : Issued) (more : List Issued) (parts : Parts), runs s ∧
      showMoveEnds m rest item more s ∧ (item.purpose = .start ∨ item.purpose = .loopReturn) ∧ (s.shc.state =
      .starting ∨ s.shc.state = .looping) ∧ s.shc.parts.goto = some .outstanding ∧ parts =
      { s.shc.parts with goto := some .done } ∧ parts.outstanding = false ∧ parts.anyFailed = false ∧ s.shc.cues = []
      ∧ s.tac.state = .stopped ∧ s.tac.brake = none ∧ s.tac.endFlag = false) ∧
    (∃ (s : State) (parts : Parts), runs s ∧ s.tac.state = .rewind ∧ (s.shc.state = .starting ∨ s.shc.state =
      .looping) ∧ s.shc.parts.rewind = some .outstanding ∧ parts = { s.shc.parts with rewind := some .done } ∧
      parts.outstanding = true) ∧
    (∃ (s : State) (parts : Parts) (p : Slot), runs s ∧ s.tac.state = .rewind ∧ (s.shc.state = .starting ∨ s.shc.state
      = .looping) ∧ s.shc.parts.rewind = some .outstanding ∧ parts = { s.shc.parts with rewind := some .done } ∧
      parts.outstanding = false ∧ parts.goto = some .failed ∧ s.shc.startSlot = some p ∧ s.mq.length < 8) ∧
    (∃ (s : State) (parts : Parts), runs s ∧ s.tac.state = .rewind ∧ (s.shc.state = .starting ∨ s.shc.state =
      .looping) ∧ s.shc.parts.rewind = some .outstanding ∧ parts = { s.shc.parts with rewind := some .done } ∧
      parts.outstanding = false ∧ parts.anyFailed = false ∧ s.shc.cues = []) ∧
    (∃ (s : State) (m : Motion) (item : Issued), takes s ∧ s.mq = [m] ∧ m.active = false ∧ m.source = .theShow ∧
      s.tgc.cycle = none ∧ s.shc.issued = [item] ∧ (item.purpose = .start ∨ item.purpose = .loopReturn) ∧
      s.shc.parts.goto = some .outstanding ∧ { s.shc.parts with goto := some .failed }.outstanding = true) ∧
    (∃ (s : State) (l : Lamp) (parts : Parts), runs s ∧ s.ltc.strike.phase = .check ∧ s.ltc.strike.lamp = l ∧
      (s.lampRecord l).state = .striking ∧ s.litLamp = none ∧ s.shc.state = .starting ∧ s.shc.parts.strike = some
      .outstanding ∧ parts = { s.shc.parts with strike := some .done } ∧ parts.outstanding = true) ∧
    (∃ (s : State) (l : Lamp) (parts : Parts), runs s ∧ s.ltc.strike.phase = .check ∧ s.ltc.strike.lamp = l ∧
      (s.lampRecord l).state = .striking ∧ s.litLamp = none ∧ s.shc.state = .starting ∧ s.shc.parts.strike = some
      .outstanding ∧ parts = { s.shc.parts with strike := some .done } ∧ parts.outstanding = false ∧ parts.anyFailed =
      false ∧ s.shc.cues = [] ∧ s.tac.state = .stopped ∧ s.tac.brake = none ∧ s.tac.endFlag = false) :=
  ⟨⟨fix fun s => { s with
        cdec.gateOpen := true, tac.state := .play, cdec.tracker := .inBurst 239 0, shc.state := .running,
        shc.cut := none, shc.loops := 1 }, [⟨18500, 1000⟩], ⟨⟨rfl, rfl⟩, rfl, rfl, rfl⟩, by decide⟩,
   ⟨fix fun s => { s with
        cdec.gateOpen := true, tac.state := .play, cdec.tracker := .inBurst 239 0, shc.state := .running,
        shc.loops := 0, shc.cut := none }, [⟨18500, 1000⟩], ⟨⟨rfl, rfl⟩, rfl, rfl, rfl⟩, by decide⟩,
   ⟨fix fun s => { s with
        cdec.gateOpen := true, tac.state := .play, cdec.tracker := .inBurst 239 0, shc.state := .running,
        shc.cut := some aCut }, [⟨18500, 1000⟩], ⟨⟨rfl, rfl⟩, rfl, rfl, rfl⟩, by decide⟩,
   ⟨fix fun s => { s with
        shc.state := .running, tac.state := .play, shc.loops := 255, shc.loopsDone := 254 }, ⟨rfl, rfl⟩, by decide⟩,
   ⟨fix fun s => { s with shc.state := .running, tac.state := .play, shc.loops := 0 }, ⟨rfl, rfl⟩, by decide⟩,
   ⟨fix fun s => { s with
        fe.fade := some showsFade, shc.state := .looping, shc.parts.fade := some .outstanding,
        shc.startSlot := some 5 }, showsFade, 5, ⟨rfl, rfl⟩, ⟨rfl, rfl, rfl, by decide⟩, by decide⟩,
   ⟨fix fun s => { s with
        mq := showsMove :: [], tgc := aSeating, shc.issued := [{ anItem with purpose := .start }],
        shc.state := .starting, shc.parts.goto := some .outstanding,
        shc.parts.rewind := some .outstanding }, showsMove, [], { anItem with purpose := .start }, [], _, ⟨rfl,
          rfl⟩, ⟨rfl, rfl, rfl, rfl, _, rfl, rfl, rfl, rfl, rfl⟩, by decide, by decide, by decide, rfl, by decide⟩,
   ⟨fix fun s => { s with
        mq := showsMove :: [], tgc := aSeating, shc.issued := [{ anItem with purpose := .start }],
        shc.state := .starting, shc.parts.goto := some .outstanding, shc.cues := [], tac.state := .stopped,
        tac.brake := none,
        tac.endFlag := false }, showsMove, [], { anItem with purpose := .start }, [], _, ⟨rfl, rfl⟩, ⟨rfl, rfl, rfl,
          rfl, _, rfl, rfl, rfl, rfl, rfl⟩, by decide, by decide, by decide, rfl, by decide⟩,
   ⟨fix fun s => { s with
        tac.state := .rewind, shc.state := .starting, shc.parts.rewind := some .outstanding,
        shc.parts.goto := some .outstanding }, _, ⟨rfl, rfl⟩, by decide, by decide, by decide, rfl, by decide⟩,
   ⟨fix fun s => { s with
        tac.state := .rewind, shc.state := .starting, shc.parts.rewind := some .outstanding,
        shc.startSlot := some 5, shc.parts.goto := some .failed,
        mq := List.replicate 7 aMotion }, _, 5, ⟨rfl, rfl⟩, by decide, by decide, by decide, rfl, by decide⟩,
   ⟨fix fun s => { s with
        tac.state := .rewind, shc.state := .starting, shc.parts.rewind := some .outstanding,
        shc.cues := [] }, _, ⟨rfl, rfl⟩, by decide, by decide, by decide, rfl, by decide⟩,
   ⟨fix fun s => { s with
        mq := [({ aMotion with active := false, source := .theShow })], tgc.cycle := none,
        shc.issued := [({ anItem with purpose := .start })], shc.parts.goto := some .outstanding,
        shc.parts.rewind := some .outstanding }, { aMotion with active := false, source := .theShow }, { anItem with
          purpose := .start }, ⟨⟨rfl, rfl⟩, rfl⟩, by decide⟩,
   ⟨fix fun s => { s with
        ltc.strike.phase := .check, ltc.strike.lamp := .a, retained.lampA.state := .striking,
        shc.state := .starting, shc.parts.strike := some .outstanding,
        shc.parts.goto := some .outstanding }, .a, _, ⟨rfl, rfl⟩, by decide, by decide, by decide, by decide, by
          decide, by decide, rfl, by decide⟩,
   ⟨fix fun s => { s with
        ltc.strike.phase := .check, ltc.strike.lamp := .a, retained.lampA.state := .striking,
        shc.state := .starting, shc.parts.strike := some .outstanding, shc.cues := [], tac.state := .stopped,
        tac.brake := none,
        tac.endFlag := false }, .a, _, ⟨rfl, rfl⟩, by decide, by decide, by decide, by decide, by decide, by decide,
          rfl, by decide⟩⟩

theorem test_premises_ExcursionsStepAsideAndReturn :
    (∃ (s : State) (code : Nat) (move : Move), takes s ∧ code ≤ 127 ∧ s.shc.state = .running ∧ ((s.keyFunction code =
      .forward ∧ move = .advance 1) ∨ (s.keyFunction code = .backward ∧ move = .back 1) ∨ (s.keyFunction code = .enter
      ∧ ∃ (d : Fin 10) (p : Slot), s.rrx.digits = [d.val] ∧ p.val = d.val ∧ p ≠ 0 ∧ move = .goto p)) ∧ (∀ m ∈ s.mq,
      m.source ≠ .remote) ∧ s.mq.length < 8 ∧ s.tac.state = .play) ∧
    (∃ (s : State) (code : Nat) (move : Move), takes s ∧ code ≤ 127 ∧ s.shc.state = .running ∧ ((s.keyFunction code =
      .forward ∧ move = .advance 1) ∨ (s.keyFunction code = .backward ∧ move = .back 1) ∨ (s.keyFunction code = .enter
      ∧ ∃ (d : Fin 10) (p : Slot), s.rrx.digits = [d.val] ∧ p.val = d.val ∧ p ≠ 0 ∧ move = .goto p)) ∧ (∀ m ∈ s.mq,
      m.source ≠ .remote) ∧ s.mq.length < 8 ∧ s.tac.state ≠ .play) ∧
    (∃ (s : State) (code : Nat), takes s ∧ code ≤ 127 ∧ s.keyFunction code = .returnShow ∧ (s.shc.state ≠ .excursion ∨
      (s.shc.register = .empty ∧ s.shc.returning = true))) ∧
    (∃ (s : State) (code : Nat) (p : Slot), takes s ∧ code ≤ 127 ∧ s.keyFunction code = .returnShow ∧ s.shc.state =
      .excursion ∧ s.shc.register = .known p ∧ s.mq.length < 8) ∧
    (∃ (s : State), takes s ∧ s.shc.state = .excursion ∧ s.shc.register = .empty ∧ s.shc.returning = true) ∧
    (∃ (s : State), takes s ∧ s.shc.state = .excursion ∧ s.shc.register = .unknown ∧ s.shc.cues = [] ∧ s.tac.state =
      .paused ∧ s.tac.endFlag = false) ∧
    (∃ (s : State), takes s ∧ s.shc.state = .excursion ∧ s.shc.register = .empty ∧ s.shc.returning = false ∧
      s.shc.cues = [] ∧ s.tac.state = .paused ∧ s.tac.endFlag = false) ∧
    (∃ (s : State) (m : Motion) (rest : List Motion) (item : Issued) (more : List Issued), runs s ∧ showMoveEnds m
      rest item more s ∧ item.purpose = .excursionReturn ∧ s.shc.state ≠ .excursion) ∧
    (∃ (s : State) (m : Motion) (rest : List Motion) (item : Issued) (more : List Issued), runs s ∧ showMoveEnds m
      rest item more s ∧ item.purpose = .excursionReturn ∧ s.shc.state = .excursion ∧ s.shc.cues = [] ∧ s.tac.state =
      .paused ∧ s.tac.endFlag = false) :=
  ⟨⟨fix fun s => { s with
        shc.state := .running, retained.keymap := .replicate 128 .forward,
        tac.state := .play }, 127, .advance 1, ⟨⟨rfl, rfl⟩, rfl⟩, by decide⟩,
   ⟨fix fun s => { s with
        shc.state := .running,
        retained.keymap := .replicate 128 .forward }, 127, .advance 1, ⟨⟨rfl, rfl⟩, rfl⟩, by decide⟩,
   ⟨fix fun s => { s with retained.keymap := .replicate 128 .returnShow }, 127, ⟨⟨rfl, rfl⟩, rfl⟩, by decide⟩,
   ⟨fix fun s => { s with
        retained.keymap := .replicate 128 .returnShow, shc.state := .excursion,
        shc.register := .known 5 }, 127, 5, ⟨⟨rfl, rfl⟩, rfl⟩, by decide⟩,
   ⟨fix fun s => { s with
        shc.state := .excursion, shc.register := .empty, shc.returning := true }, ⟨⟨rfl, rfl⟩, rfl⟩, by decide⟩,
   ⟨fix fun s => { s with
        shc.state := .excursion, shc.register := .unknown, shc.cues := [], tac.state := .paused,
        tac.endFlag := false }, ⟨⟨rfl, rfl⟩, rfl⟩, by decide⟩,
   ⟨fix fun s => { s with
        shc.state := .excursion, shc.register := .empty, shc.returning := false, shc.cues := [],
        tac.state := .paused, tac.endFlag := false }, ⟨⟨rfl, rfl⟩, rfl⟩, by decide⟩,
   ⟨fix fun s => { s with
        mq := showsMove :: [], tgc := aSeating, shc.issued := [{ anItem with purpose := .excursionReturn }],
        shc.state := .paused }, showsMove, [], { anItem with purpose := .excursionReturn }, [], ⟨rfl, rfl⟩, ⟨rfl,
          rfl, rfl, rfl, _, rfl, rfl, rfl, rfl, rfl⟩, by decide⟩,
   ⟨fix fun s => { s with
        mq := showsMove :: [], tgc := aSeating, shc.issued := [{ anItem with purpose := .excursionReturn }],
        shc.state := .excursion, shc.cues := [], tac.state := .paused,
        tac.endFlag := false }, showsMove, [], { anItem with purpose := .excursionReturn }, [], ⟨rfl, rfl⟩, ⟨rfl,
          rfl, rfl, rfl, _, rfl, rfl, rfl, rfl, rfl⟩, by decide⟩⟩

theorem test_premises_TapeRequestsMoveTheTape :
    (∃ (s : State), takes s ∧ s.shc.state = .stopped ∧ s.power.mode = .active ∧ (s.tac.state = .fastFwd ∨
      ((s.tac.state = .paused ∨ (s.tac.state = .stopped ∧ s.tac.brake = none)) ∧ s.tac.endFlag = false)) ∧
      s.tac.volume = 0) ∧
    (∃ (s : State), takes s ∧ s.shc.state = .stopped ∧ s.power.mode = .active ∧ (s.tac.state = .fastFwd ∨
      ((s.tac.state = .paused ∨ (s.tac.state = .stopped ∧ s.tac.brake = none)) ∧ s.tac.endFlag = false)) ∧ 0 <
      s.tac.volume ∧ s.retained.params.resumeRamp < s.tac.volume) ∧
    (∃ (s : State), takes s ∧ s.shc.state = .stopped ∧ s.power.mode = .active ∧ (s.tac.state = .fastFwd ∨
      ((s.tac.state = .paused ∨ (s.tac.state = .stopped ∧ s.tac.brake = none)) ∧ s.tac.endFlag = false)) ∧ 0 <
      s.tac.volume ∧ s.tac.volume ≤ s.retained.params.resumeRamp) ∧
    (∃ (s : State), takes s ∧ showAtRest s ∧ s.power.mode = .active ∧ (s.tac.state = .paused ∨ (s.tac.state = .stopped
      ∧ s.tac.brake = none)) ∧ s.tac.endFlag = true) ∧
    (∃ (s : State), takes s ∧ s.shc.state = .stopped ∧ s.power.mode = .active ∧ s.tac.state = .play) ∧
    (∃ (s : State) (d : Direction), takes s ∧ s.shc.state = .stopped ∧ s.power.mode = .active ∧ s.tac.state.direction
      = some d) ∧
    (∃ (s : State), takes s ∧ s.shc.state = .stopped ∧ s.power.mode = .active ∧ (s.tac.state = .paused ∨ (s.tac.state
      = .stopped ∧ s.tac.brake = none)) ∧ s.tac.endFlag = false) ∧
    (∃ (s : State), takes s ∧ s.shc.state = .stopped ∧ s.power.mode = .active ∧ (s.tac.state = .paused ∨ (s.tac.state
      = .stopped ∧ s.tac.brake = none)) ∧ s.tac.endFlag = true) ∧
    (∃ (s : State), takes s ∧ showAtRest s ∧ s.power.mode = .active ∧ (s.tac.state = .paused ∨ (s.tac.state = .stopped
      ∧ s.tac.brake = none)) ∧ s.tac.beginFlag = false) ∧
    (∃ (s : State), takes s ∧ showAtRest s ∧ s.power.mode = .active ∧ (s.tac.state = .paused ∨ (s.tac.state = .stopped
      ∧ s.tac.brake = none)) ∧ s.tac.beginFlag = true) ∧
    (∃ (s : State) (i : Instr) (o : MoveOrder), takes s ∧ s.shc.state = .stopped ∧ s.power.mode = .active ∧
      s.tac.state = .rewind ∧ ((i = .tapePlay ∧ o = .play) ∨ (i = .tapeFastFwd ∧ o = .fastFwd))) ∧
    (∃ (s : State), takes s ∧ s.shc.state = .stopped ∧ s.power.mode = .active ∧ s.tac.state = .fastFwd) ∧
    (∃ (s : State) (i : Instr), takes s ∧ s.shc.state = .stopped ∧ s.power.mode = .active ∧ ((i = .tapeFastFwd ∧
      s.tac.state = .fastFwd) ∨ (i = .tapeRewind ∧ s.tac.state = .rewind) ∨ (i = .tapePause ∧ (s.tac.state = .paused ∨
      s.tac.state = .fastFwd ∨ s.tac.state = .rewind ∨ (s.tac.state = .stopped ∧ s.tac.brake = none))) ∨ (i =
      .tapeStop ∧ s.tac.state = .stopped ∧ s.tac.brake = none))) ∧
    (∃ (s : State), takes s ∧ s.shc.state = .stopped ∧ s.power.mode = .active ∧ s.tac.state = .paused) ∧
    (∃ (s : State) (i : Instr), takes s ∧ s.shc.state = .stopped ∧ s.power.mode = .active ∧ s.tac.state = .stopped ∧
      s.tac.brake.isSome ∧ (i = .tapeStop ∨ i = .tapePause)) ∧
    (∃ (s : State) (i : Instr) (o : MoveOrder), takes s ∧ s.shc.state = .stopped ∧ s.power.mode = .active ∧
      s.tac.state = .stopped ∧ s.tac.brake.isSome ∧ ((i = .tapePlay ∧ o = .play) ∨ (i = .tapeFastFwd ∧ o = .fastFwd) ∨
      (i = .tapeRewind ∧ o = .rewind))) ∧
    (∃ (s : State) (i : Instr), takes s ∧ (s.shc.state ≠ .stopped ∨ s.power.mode = .windingDown) ∧ (i = .tapePlay ∨ i
      = .tapePause ∨ i = .tapeStop ∨ i = .tapeFastFwd ∨ i = .tapeRewind)) :=
  ⟨⟨fix fun s => { s with
        shc.state := .stopped, power.mode := .active, tac.state := .fastFwd,
        tac.volume := 0 }, ⟨⟨rfl, rfl⟩, rfl⟩, by decide⟩,
   ⟨fix fun s => { s with
        shc.state := .stopped, power.mode := .active, tac.state := .fastFwd, tac.volume := 63,
        retained.params.resumeRamp := 62 }, ⟨⟨rfl, rfl⟩, rfl⟩, by decide⟩,
   ⟨fix fun s => { s with
        shc.state := .stopped, power.mode := .active, tac.state := .fastFwd }, ⟨⟨rfl, rfl⟩, rfl⟩, by decide⟩,
   ⟨fix fun s => { s with
        power.mode := .active, tac.state := .paused, tac.endFlag := true }, ⟨⟨rfl, rfl⟩, rfl⟩, by decide⟩,
   ⟨fix fun s => { s with
        shc.state := .stopped, power.mode := .active, tac.state := .play }, ⟨⟨rfl, rfl⟩, rfl⟩, by decide⟩,
   ⟨fix fun s => { s with
        shc.state := .stopped, power.mode := .active, tac.state := .play }, .forward, ⟨⟨rfl, rfl⟩, rfl⟩, by decide⟩,
   ⟨fix fun s => { s with
        shc.state := .stopped, power.mode := .active, tac.state := .paused,
        tac.endFlag := false }, ⟨⟨rfl, rfl⟩, rfl⟩, by decide⟩,
   ⟨fix fun s => { s with
        shc.state := .stopped, power.mode := .active, tac.state := .paused,
        tac.endFlag := true }, ⟨⟨rfl, rfl⟩, rfl⟩, by decide⟩,
   ⟨fix fun s => { s with
        power.mode := .active, tac.state := .paused, tac.beginFlag := false }, ⟨⟨rfl, rfl⟩, rfl⟩, by decide⟩,
   ⟨fix fun s => { s with
        power.mode := .active, tac.state := .paused, tac.beginFlag := true }, ⟨⟨rfl, rfl⟩, rfl⟩, by decide⟩,
   ⟨fix fun s => { s with
        shc.state := .stopped, power.mode := .active,
        tac.state := .rewind }, .tapePlay, .play, ⟨⟨rfl, rfl⟩, rfl⟩, by decide⟩,
   ⟨fix fun s => { s with
        shc.state := .stopped, power.mode := .active, tac.state := .fastFwd }, ⟨⟨rfl, rfl⟩, rfl⟩, by decide⟩,
   ⟨fix fun s => { s with
        shc.state := .stopped, power.mode := .active,
        tac.state := .fastFwd }, .tapeFastFwd, ⟨⟨rfl, rfl⟩, rfl⟩, by decide⟩,
   ⟨fix fun s => { s with
        shc.state := .stopped, power.mode := .active, tac.state := .paused }, ⟨⟨rfl, rfl⟩, rfl⟩, by decide⟩,
   ⟨fix fun s => { s with
        shc.state := .stopped, power.mode := .active, tac.state := .stopped,
        tac.brake := some .forward }, .tapeStop, ⟨⟨rfl, rfl⟩, rfl⟩, by decide⟩,
   ⟨fix fun s => { s with
        shc.state := .stopped, power.mode := .active, tac.state := .stopped,
        tac.brake := some .forward }, .tapePlay, .play, ⟨⟨rfl, rfl⟩, rfl⟩, by decide⟩,
   ⟨fix fun s => { s with shc.state := .running }, .tapePlay, ⟨⟨rfl, rfl⟩, rfl⟩, by decide⟩⟩

theorem test_premises_TapeEventsFollowTheTape :
    (∃ (s : State), runs s ∧ showAtRest s ∧ s.tac.state = .rewind) ∧
    (∃ (s : State), runs s ∧ showAtRest s ∧ s.tac.state = .play) ∧
    (∃ (s : State), runs s ∧ s.tac.state = .stopped ∧ s.tac.brake = some .backward) ∧
    (∃ (s : State), runs s ∧ s.tac.state = .stopped ∧ s.tac.brake ≠ some .backward) ∧
    (∃ (s : State), runs s ∧ (s.tac.state = .play ∨ s.tac.state = .paused ∨ s.tac.state = .fastFwd)) ∧
    (∃ (s : State), runs s ∧ s.tac.state = .fastFwd) ∧
    (∃ (s : State), runs s ∧ (s.tac.state = .stopped ∨ s.tac.state = .paused ∨ s.tac.state = .rewind)) ∧
    (∃ (s : State) (d : Direction), runs s ∧ showAtRest s ∧ s.tac.state.direction = some d) ∧
    (∃ (s : State), runs s ∧ s.tac.state.direction = none) ∧
    (∃ (s : State), runs s ∧ s.tac.brake.isSome ∧ s.tac.order = none) ∧
    (∃ (s : State), runs s ∧ s.tac.state = .stopped ∧ s.tac.brake.isSome ∧ s.tac.order = some ⟨.rewind, .theShow⟩ ∧
      s.tac.beginFlag = false) ∧
    (∃ (s : State) (issuer : TapeIssuer), runs s ∧ s.tac.state = .stopped ∧ s.tac.brake.isSome ∧ s.tac.endFlag = false
      ∧ s.tac.order = some ⟨.play, issuer⟩ ∧ (s.shc.state = .stopped ∨ s.shc.state = .running)) ∧
    (∃ (s : State) (issuer : TapeIssuer), runs s ∧ s.tac.state = .stopped ∧ s.tac.brake.isSome ∧ s.tac.endFlag = false
      ∧ s.tac.order = some ⟨.play, issuer⟩ ∧ s.shc.state ≠ .stopped ∧ s.shc.state ≠ .running) ∧
    (∃ (s : State) (issuer : TapeIssuer), runs s ∧ s.tac.state = .stopped ∧ s.tac.brake.isSome ∧ s.tac.endFlag = false
      ∧ s.tac.order = some ⟨.fastFwd, issuer⟩) ∧
    (∃ (s : State), runs s ∧ (s.tac.state = .paused ∨ (s.tac.state = .stopped ∧ s.tac.brake = none))) ∧
    (∃ (s : State), runs s ∧ (s.tac.state = .play ∨ s.tac.state = .fastFwd ∨ (s.tac.state = .stopped ∧ s.tac.brake =
      some .forward))) ∧
    (∃ (s : State), runs s ∧ (s.tac.state = .rewind ∨ (s.tac.state = .stopped ∧ s.tac.brake = some .backward))) ∧
    (∃ (s : State), takes s) ∧
    (∃ (s : State) (r : Ramp), runs s ∧ s.tac.ramp = some r ∧ s.tac.applied < r.target) ∧
    (∃ (s : State) (r : Ramp), runs s ∧ s.tac.ramp = some r ∧ r.target < s.tac.applied) ∧
    (∃ (s : State) (r : Ramp), runs s ∧ s.tac.ramp = some r ∧ s.tac.applied ≠ r.target) :=
  ⟨⟨fix fun s => { s with tac.state := .rewind }, ⟨rfl, rfl⟩, by decide⟩,
   ⟨fix fun s => { s with tac.state := .play }, ⟨rfl, rfl⟩, by decide⟩,
   ⟨fix fun s => { s with tac.state := .stopped, tac.brake := some .backward }, ⟨rfl, rfl⟩, by decide⟩,
   ⟨fix fun s => { s with tac.state := .stopped }, ⟨rfl, rfl⟩, by decide⟩,
   ⟨fix fun s => { s with tac.state := .play }, ⟨rfl, rfl⟩, by decide⟩,
   ⟨fix fun s => { s with tac.state := .fastFwd }, ⟨rfl, rfl⟩, by decide⟩,
   ⟨fix fun s => { s with tac.state := .stopped }, ⟨rfl, rfl⟩, by decide⟩,
   ⟨fix fun s => { s with tac.state := .play }, .forward, ⟨rfl, rfl⟩, by decide⟩,
   ⟨State.reset, ⟨rfl, rfl⟩, by decide⟩,
   ⟨fix fun s => { s with tac.brake := some .forward, tac.order := none }, ⟨rfl, rfl⟩, by decide⟩,
   ⟨fix fun s => { s with
        tac.state := .stopped, tac.brake := some .forward, tac.order := some ⟨.rewind, .theShow⟩,
        tac.beginFlag := false }, ⟨rfl, rfl⟩, by decide⟩,
   ⟨fix fun s => { s with
        tac.state := .stopped, tac.brake := some .forward, tac.endFlag := false, tac.order := some ⟨.play, .link⟩,
        shc.state := .stopped }, .link, ⟨rfl, rfl⟩, by decide⟩,
   ⟨fix fun s => { s with
        tac.state := .stopped, tac.brake := some .forward, tac.endFlag := false, tac.order := some ⟨.play, .link⟩,
        shc.state := .paused }, .link, ⟨rfl, rfl⟩, by decide⟩,
   ⟨fix fun s => { s with
        tac.state := .stopped, tac.brake := some .forward, tac.endFlag := false,
        tac.order := some ⟨.fastFwd, .link⟩ }, .link, ⟨rfl, rfl⟩, by decide⟩,
   ⟨fix fun s => { s with tac.state := .paused }, ⟨rfl, rfl⟩, by decide⟩,
   ⟨fix fun s => { s with tac.state := .play }, ⟨rfl, rfl⟩, by decide⟩,
   ⟨fix fun s => { s with tac.state := .rewind }, ⟨rfl, rfl⟩, by decide⟩,
   ⟨State.reset, ⟨rfl, rfl⟩, rfl⟩,
   ⟨fix fun s => { s with tac.ramp := some ⟨10, 5⟩ }, ⟨10, 5⟩, ⟨rfl, rfl⟩, by decide⟩,
   ⟨fix fun s => { s with tac.ramp := some ⟨10, 5⟩, tac.applied := 11 }, ⟨10, 5⟩, ⟨rfl, rfl⟩, by decide⟩,
   ⟨fix fun s => { s with tac.ramp := some ⟨10, 5⟩ }, ⟨10, 5⟩, ⟨rfl, rfl⟩, by decide⟩⟩

theorem test_premises_PanelKeysAct :
    (∃ (s : State) (code : Nat) (f : KeyFunction), takes s ∧ code ≤ 127 ∧ s.keyFunction code = f ∧ (f = .lightUp ∨ f =
      .lightDown → s.power.mode = .active ∨ ∀ r, s.fe.fade = some r → r.origin ≠ .power) ∧ f = .nothing) ∧
    (∃ (s : State) (code : Nat) (f : KeyFunction), takes s ∧ code ≤ 127 ∧ s.keyFunction code = f ∧ (f = .lightUp ∨ f =
      .lightDown → s.power.mode = .active ∨ ∀ r, s.fe.fade = some r → r.origin ≠ .power) ∧ f = .focusNear) ∧
    (∃ (s : State) (code : Nat) (f : KeyFunction), takes s ∧ code ≤ 127 ∧ s.keyFunction code = f ∧ (f = .lightUp ∨ f =
      .lightDown → s.power.mode = .active ∨ ∀ r, s.fe.fade = some r → r.origin ≠ .power) ∧ f = .focusFar) ∧
    (∃ (s : State) (code : Nat) (f : KeyFunction), takes s ∧ code ≤ 127 ∧ s.keyFunction code = f ∧ (f = .lightUp ∨ f =
      .lightDown → s.power.mode = .active ∨ ∀ r, s.fe.fade = some r → r.origin ≠ .power) ∧ f = .blank) ∧
    (∃ (s : State) (code : Nat) (f : KeyFunction) (d : Fin 10), takes s ∧ code ≤ 127 ∧ s.keyFunction code = f ∧ (f =
      .lightUp ∨ f = .lightDown → s.power.mode = .active ∨ ∀ r, s.fe.fade = some r → r.origin ≠ .power) ∧ f = .digit d
      ∧ s.rrx.digits = []) ∧
    (∃ (s : State) (code : Nat) (f : KeyFunction) (d : Fin 10) (a : Nat), takes s ∧ code ≤ 127 ∧ s.keyFunction code =
      f ∧ (f = .lightUp ∨ f = .lightDown → s.power.mode = .active ∨ ∀ r, s.fe.fade = some r → r.origin ≠ .power) ∧ f =
      .digit d ∧ s.rrx.digits = [a]) ∧
    (∃ (s : State) (code : Nat) (f : KeyFunction) (d : Fin 10) (a : Nat) (b : Nat), takes s ∧ code ≤ 127 ∧
      s.keyFunction code = f ∧ (f = .lightUp ∨ f = .lightDown → s.power.mode = .active ∨ ∀ r, s.fe.fade = some r →
      r.origin ≠ .power) ∧ f = .digit d ∧ s.rrx.digits = [a, b]) ∧
    (∃ (s : State) (code : Nat) (up : Bool), takes s ∧ code ≤ 127 ∧ s.keyFunction code = (if up then .lightUp else
      .lightDown) ∧ (∀ r, s.fe.fade = some r → r.origin = .link ∨ r.origin = .remote ∨ (r.origin = .theShow ∧
      s.shc.cut = none ∧ s.shc.parts.fade ≠ some .outstanding) ∨ (r.origin = .power ∧ s.power.mode = .active))) ∧
    (∃ (s : State) (code : Nat) (up : Bool) (r : FadeRecord), takes s ∧ code ≤ 127 ∧ s.keyFunction code = (if up then
      .lightUp else .lightDown) ∧ s.fe.fade = some r ∧ r.origin = .power ∧ s.power.mode = .windingDown ∧ s.power.step
      = some .fading ∧ showAtRest s ∧ s.ltc.strike.phase = .idle ∧ s.litLamp = none ∧ s.strikingLamp = none ∧
      s.thu.cooldown = none) ∧
    (∃ (s : State) (code : Nat), takes s ∧ code ≤ 127 ∧ s.keyFunction code = .pause ∧ s.shc.state ≠ .running ∧
      s.shc.state ≠ .paused) ∧
    (∃ (s : State) (code : Nat), takes s ∧ code ≤ 127 ∧ s.keyFunction code = .pause ∧ s.shc.state = .running) ∧
    (∃ (s : State) (code : Nat), takes s ∧ code ≤ 127 ∧ s.keyFunction code = .pause ∧ s.shc.state = .paused ∧
      s.shc.cues = [] ∧ s.tac.state = .paused ∧ s.tac.endFlag = false) ∧
    (∃ (s : State) (code : Nat), takes s ∧ code ≤ 127 ∧ s.keyFunction code = .lamp ∧ s.litLamp = none ∧ s.strikingLamp
      = none ∧ s.ltc.strike.phase = .idle ∧ s.thu.bars = true) ∧
    (∃ (s : State) (code : Nat) (l : Lamp), takes s ∧ code ≤ 127 ∧ s.keyFunction code = .lamp ∧ (s.lampRecord l).state
      = .lit ∧ ((s.lampRecord (otherLamp l)).state = .ready ∨ (s.lampRecord (otherLamp l)).state = .failed) ∧
      s.ltc.strike.phase = .idle) ∧
    (∃ (s : State) (code : Nat) (l : Lamp), takes s ∧ code ≤ 127 ∧ s.keyFunction code = .lamp ∧ s.litLamp = none ∧
      s.strikingLamp = none ∧ s.ltc.strike.phase = .idle ∧ s.thu.bars = false ∧ s.power.mode = .active ∧ s.selectLamp
      = l ∧ s.ltc.position = .facing l ∧ (s.retained.lampA.state = .ready ∨ s.retained.lampB.state = .ready)) ∧
    (∃ (s : State) (code : Nat) (move : Move), takes s ∧ code ≤ 127 ∧ ((s.keyFunction code = .forward ∧ move =
      .advance 1) ∨ (s.keyFunction code = .backward ∧ move = .back 1)) ∧ (s.shc.state = .stopped ∨ (s.shc.state =
      .excursion ∧ s.shc.returning = false)) ∧ (∀ m ∈ s.mq, m.source ≠ .remote) ∧ s.mq.length < 8) ∧
    (∃ (s : State) (code : Nat) (move : Move), takes s ∧ code ≤ 127 ∧ ((s.keyFunction code = .forward ∧ move =
      .advance 1) ∨ (s.keyFunction code = .backward ∧ move = .back 1)) ∧ (s.shc.state = .stopped ∨ (s.shc.state =
      .excursion ∧ s.shc.returning = false)) ∧ (∀ m ∈ s.mq, m.source ≠ .remote) ∧ 8 ≤ s.mq.length) ∧
    (∃ (s : State) (code : Nat) (move : Move) (before : List Motion), takes s ∧ code ≤ 127 ∧ ((s.keyFunction code =
      .forward ∧ move = .advance 1) ∨ (s.keyFunction code = .backward ∧ move = .back 1)) ∧ s.shc.state = .stopped ∧
      s.mq = before ++ [⟨move, .remote, none, false⟩]) ∧
    (∃ (s : State) (code : Nat) (move : Move), takes s ∧ code ≤ 127 ∧ ((s.keyFunction code = .forward ∧ move =
      .advance 1) ∨ (s.keyFunction code = .backward ∧ move = .back 1)) ∧ (s.shc.state = .starting ∨ s.shc.state =
      .paused ∨ s.shc.state = .held ∨ s.shc.state = .looping ∨ (s.shc.state = .excursion ∧ s.shc.returning = true))) ∧
    (∃ (s : State) (code : Nat) (n : Nat) (p : Slot), takes s ∧ code ≤ 127 ∧ s.keyFunction code = .enter ∧ s.shc.state
      = .stopped ∧ (s.rrx.digits = [n] ∨ (∃ a b, s.rrx.digits = [a, b] ∧ n = 10 * a + b) ∨ (s.rrx.digits = [] ∧ n =
      0)) ∧ p.val = n ∧ p ≠ 0 ∧ s.mq.length < 8) ∧
    (∃ (s : State) (code : Nat) (n : Nat), takes s ∧ code ≤ 127 ∧ s.keyFunction code = .enter ∧ s.shc.state = .stopped
      ∧ (s.rrx.digits = [n] ∨ (∃ a b, s.rrx.digits = [a, b] ∧ n = 10 * a + b) ∨ (s.rrx.digits = [] ∧ n = 0)) ∧ (n = 0
      ∨ 90 < n)) ∧
    (∃ (s : State) (code : Nat), takes s ∧ 127 < code) :=
  ⟨⟨fix fun s => { s with
        retained.keymap := .replicate 128 .nothing }, 127, .nothing, ⟨⟨rfl, rfl⟩, rfl⟩, by decide, by decide, fun _
          => .inl rfl, by decide⟩,
   ⟨fix fun s => { s with
        retained.keymap := .replicate 128 .focusNear }, 127, .focusNear, ⟨⟨rfl, rfl⟩, rfl⟩, by decide, by decide,
          fun _ => .inl rfl, by decide⟩,
   ⟨fix fun s => { s with
        retained.keymap := .replicate 128 .focusFar }, 127, .focusFar, ⟨⟨rfl, rfl⟩, rfl⟩, by decide, by decide, fun
          _ => .inl rfl, by decide⟩,
   ⟨fix fun s => { s with
        retained.keymap := .replicate 128 .blank }, 127, .blank, ⟨⟨rfl, rfl⟩, rfl⟩, by decide, by decide, fun _ =>
          .inl rfl, by decide⟩,
   ⟨fix fun s => { s with
        retained.keymap := .replicate 128 (.digit 9),
        rrx.digits := [] }, 127, .digit 9, 9, ⟨⟨rfl, rfl⟩, rfl⟩, by decide, by decide, fun _ => .inl rfl, by decide⟩,
   ⟨fix fun s => { s with
        retained.keymap := .replicate 128 (.digit 9),
        rrx.digits := [1] }, 127, .digit 9, 9, 1, ⟨⟨rfl, rfl⟩, rfl⟩, by decide, by decide, fun _ => .inl rfl, by
          decide⟩,
   ⟨fix fun s => { s with
        retained.keymap := .replicate 128 (.digit 9),
        rrx.digits := [1, 1] }, 127, .digit 9, 9, 1, 1, ⟨⟨rfl, rfl⟩, rfl⟩, by decide, by decide, fun _ => .inl rfl,
          by decide⟩,
   ⟨fix fun s => { s with
        retained.keymap := .replicate 128 (if false then .lightUp else .lightDown),
        fe.fade := some showsFade }, 127, false, ⟨⟨rfl, rfl⟩, rfl⟩, by decide, by decide, fun _ h =>
          (by cases h; decide)⟩,
   ⟨fix fun s => { s with
        retained.keymap := .replicate 128 (if false then .lightUp else .lightDown),
        fe.fade := some ({ aFade with origin := .power }), power.mode := .windingDown, power.step := some .fading,
        ltc.strike.phase := .idle,
        thu.cooldown := none }, 127, false, { aFade with origin := .power }, ⟨⟨rfl, rfl⟩, rfl⟩, by decide⟩,
   ⟨fix fun s => { s with retained.keymap := .replicate 128 .pause }, 127, ⟨⟨rfl, rfl⟩, rfl⟩, by decide⟩,
   ⟨fix fun s => { s with
        retained.keymap := .replicate 128 .pause, shc.state := .running }, 127, ⟨⟨rfl, rfl⟩, rfl⟩, by decide⟩,
   ⟨fix fun s => { s with
        retained.keymap := .replicate 128 .pause, shc.state := .paused, shc.cues := [], tac.state := .paused,
        tac.endFlag := false }, 127, ⟨⟨rfl, rfl⟩, rfl⟩, by decide⟩,
   ⟨fix fun s => { s with
        retained.keymap := .replicate 128 .lamp, ltc.strike.phase := .idle,
        thu.latch := true }, 127, ⟨⟨rfl, rfl⟩, rfl⟩, by decide⟩,
   ⟨fix fun s => { s with
        retained.keymap := .replicate 128 .lamp, retained.lampA.state := .lit, retained.lampB.state := .ready,
        ltc.strike.phase := .idle }, 127, .a, ⟨⟨rfl, rfl⟩, rfl⟩, by decide⟩,
   ⟨fix fun s => { s with
        retained.keymap := .replicate 128 .lamp, ltc.strike.phase := .idle, power.mode := .active,
        ltc.position := .facing .a, retained.lampA.state := .ready }, 127, .a, ⟨⟨rfl, rfl⟩, rfl⟩, by decide⟩,
   ⟨fix fun s => { s with
        retained.keymap := .replicate 128 .forward,
        shc.state := .stopped }, 127, .advance 1, ⟨⟨rfl, rfl⟩, rfl⟩, by decide⟩,
   ⟨fix fun s => { s with
        retained.keymap := .replicate 128 .forward, shc.state := .stopped,
        mq := List.replicate 8 aMotion }, 127, .advance 1, ⟨⟨rfl, rfl⟩, rfl⟩, by decide⟩,
   ⟨fix fun s => { s with
        retained.keymap := .replicate 128 .forward, shc.state := .stopped,
        mq := [] ++ [⟨(.advance 1), .remote, none, false⟩] }, 127, .advance 1, [], ⟨⟨rfl, rfl⟩, rfl⟩, by decide⟩,
   ⟨fix fun s => { s with
        retained.keymap := .replicate 128 .forward,
        shc.state := .starting }, 127, .advance 1, ⟨⟨rfl, rfl⟩, rfl⟩, by decide⟩,
   ⟨fix fun s => { s with
        retained.keymap := .replicate 128 .enter, shc.state := .stopped, rrx.digits := [9, 0],
        mq := List.replicate 7 aMotion }, 127, 90, 90, ⟨⟨rfl, rfl⟩, rfl⟩, by decide, rfl, rfl, .inr (.inl ⟨9, 0,
          rfl, rfl⟩), by decide⟩,
   ⟨fix fun s => { s with
        retained.keymap := .replicate 128 .enter, shc.state := .stopped,
        rrx.digits := [9, 1] }, 127, 91, ⟨⟨rfl, rfl⟩, rfl⟩, by decide, rfl, rfl, .inr (.inl ⟨9, 1, rfl, rfl⟩), by
          decide⟩,
   ⟨State.reset, 128, ⟨⟨rfl, rfl⟩, rfl⟩, by decide⟩⟩

theorem test_premises_HoldsReleasesAndTheKeyMap :
    (∃ (s : State) (code : Nat) (k : HeldKey), takes s ∧ code ≤ 127 ∧ s.rrx.held = some k ∧ k.source = .panel ∧ k.code
      = code ∧ k.function ≠ .lightUp ∧ k.function ≠ .lightDown) ∧
    (∃ (s : State) (code : Nat) (k : HeldKey), takes s ∧ code ≤ 127 ∧ s.rrx.held = some k ∧ k.source = .panel ∧ k.code
      = code ∧ k.function = .lightUp ∧ k.permitted = true ∧ s.fe.fade = none) ∧
    (∃ (s : State) (code : Nat), takes s ∧ code ≤ 127 ∧ (∀ k, s.rrx.held = some k → k.source = .handset ∨ k.code ≠
      code)) ∧
    (∃ (s : State) (start : Nat) (numbers : List Nat) (functions : List KeyFunction), takes s ∧ numbers.length ≤ 16 ∧
      functionsOperand numbers = some functions ∧ start + numbers.length ≤ 128 ∧ start ≤ 127) ∧
    (∃ (s : State) (start : Nat) (numbers : List Nat), takes s ∧ numbers.length ≤ 16 ∧ ((∃ n ∈ numbers, 21 < n) ∨ 127
      < start ∨ 128 < start + numbers.length)) ∧
    (∃ (s : State) (k : HeldKey), alive s ∧ s.rrx.held = some k ∧ s.rrx.state ≠ .frame) ∧
    (∃ (s : State) (k : HeldKey), runs s ∧ s.rrx.held = some k ∧ k.function = .forward ∧ s.rrx.repeatTimer.isSome ∧
      s.shc.state = .stopped ∧ s.mq = []) ∧
    (∃ (s : State), runs s ∧ s.rrx.focus ≠ .off) :=
  ⟨⟨fix fun s => { s with
        rrx.held := some ({ aKey with source := .panel, code := 127 }) }, 127, { aKey with source := .panel, code :=
          127 }, ⟨⟨rfl, rfl⟩, rfl⟩, by decide⟩,
   ⟨fix fun s => { s with
        rrx.held := some ({ aKey with source := .panel, code := 127, function := .lightUp, permitted := true }),
        fe.fade := none }, 127, { aKey with source := .panel, code := 127, function := .lightUp, permitted := true
          }, ⟨⟨rfl, rfl⟩, rfl⟩, by decide⟩,
   ⟨fix fun s => { s with
        rrx.held := some { aKey with code := 126 } }, 127, ⟨⟨rfl, rfl⟩, rfl⟩, by decide, fun _ h => .inr
          (by cases h; exact Nat.ne_of_beq_eq_false rfl)⟩,
   ⟨State.reset, 127, [0], [.nothing], ⟨⟨rfl, rfl⟩, rfl⟩, by decide⟩,
   ⟨State.reset, 128, [], ⟨⟨rfl, rfl⟩, rfl⟩, by decide⟩,
   ⟨fix fun s => { s with rrx.held := some aKey }, aKey, ⟨rfl, rfl⟩, by decide⟩,
   ⟨fix fun s => { s with
        rrx.held := some ({ aKey with function := .forward }), rrx.repeatTimer := some .first,
        shc.state := .stopped, mq := [] }, { aKey with function := .forward }, ⟨rfl, rfl⟩, by decide⟩,
   ⟨fix fun s => { s with rrx.focus := .near }, ⟨rfl, rfl⟩, by decide⟩⟩

theorem test_premises_HandsetFramesAct :
    (∃ (s : State), s.rrx.measure = .none) ∧
    (∃ (s : State) (word : BitVec 16), alive s ∧ word.toNat % 16 ≠ irCheck (irChannel word) (irKey word)) ∧
    (∃ (s : State) (word : BitVec 16), alive s ∧ word.toNat % 16 = irCheck (irChannel word) (irKey word) ∧
      s.retained.params.remoteChannel ≠ 0 ∧ s.retained.params.remoteChannel ≠ irChannel word) ∧
    (∃ (s : State) (word : BitVec 16), runs s ∧ word.toNat % 16 = irCheck (irChannel word) (irKey word) ∧
      (s.retained.params.remoteChannel = 0 ∨ s.retained.params.remoteChannel = irChannel word) ∧ s.keyFunction (irKey
      word) = .focusFar) ∧
    (∃ (s : State) (word : BitVec 16), runs s ∧ word.toNat % 16 = irCheck (irChannel word) (irKey word) ∧
      (s.retained.params.remoteChannel = 0 ∨ s.retained.params.remoteChannel = irChannel word) ∧ s.keyFunction (irKey
      word) = .lamp ∧ s.retained.params.lockLevel = .showLock ∧ s.shc.state ≠ .stopped) ∧
    (∃ (s : State) (word : BitVec 16), alive s ∧ s.power.mode = .standby ∧ s.power.signature = .agrees ∧ word.toNat %
      16 = irCheck (irChannel word) (irKey word) ∧ s.retained.params.remoteChannel = 0 ∧ s.keyFunction (irKey word) ≠
      .nothing) ∧
    (∃ (s : State), alive s ∧ s.rrx.state ≠ .held) ∧
    (∃ (s : State) (k : HeldKey), runs s ∧ s.rrx.state = .held ∧ s.rrx.held = some k ∧ k.permitted = true ∧ k.function
      = .lightDown ∧ s.fe.fade = none) :=
  ⟨⟨fix fun s => { s with rrx.measure := .none }, by decide⟩,
   ⟨State.reset, 0x1810#16, ⟨rfl, rfl⟩, by decide⟩,
   ⟨fix fun s => { s with retained.params.remoteChannel := 4 }, 0x181A#16, ⟨rfl, rfl⟩, by decide⟩,
   ⟨fix fun s => { s with retained.params.remoteChannel := 3 }, 0x184D#16, ⟨rfl, rfl⟩, by decide⟩,
   ⟨fix fun s => { s with
        retained.params.remoteChannel := 0, retained.params.lockLevel := .showLock,
        shc.state := .running }, 0x18A3#16, ⟨rfl, rfl⟩, by decide⟩,
   ⟨fix fun s => { s with
        power.mode := .standby, power.signature := .agrees,
        retained.params.remoteChannel := 0 }, 0x181A#16, ⟨rfl, rfl⟩, by decide⟩,
   ⟨State.reset, ⟨rfl, rfl⟩, by decide⟩,
   ⟨fix fun s => { s with
        rrx.state := .held, rrx.held := some ({ aKey with permitted := true, function := .lightDown }),
        fe.fade := none }, { aKey with permitted := true, function := .lightDown }, ⟨rfl, rfl⟩, by decide⟩⟩

theorem test_premises_ClearFaultsEmptiesTheRecords :
    (∃ (s : State), takes s) ∧
    (∃ (s : State), alive s ∧ s.power.mode = .standby ∧ s.link.resetTaken = false) :=
  ⟨⟨State.reset, ⟨rfl, rfl⟩, rfl⟩,
   ⟨fix fun s => { s with power.mode := .standby, link.resetTaken := false }, ⟨rfl, rfl⟩, by decide⟩⟩

theorem test_premises_StandbyAndWake :
    (∃ (s : State), takes s ∧ s.power.mode = .active ∧ s.shc.state = .stopped ∧ s.fe.fade = none ∧ s.tac.state =
      .stopped ∧ s.tac.brake = none) ∧
    (∃ (s : State), takes s ∧ s.power.mode = .active ∧ s.shc.state ≠ .stopped ∧ (s.fe.fade.isSome ∨ s.fe.pendingUser =
      none)) ∧
    (∃ (s : State) (d : Direction), takes s ∧ s.power.mode = .active ∧ s.shc.state ≠ .stopped ∧ s.tac.state.direction
      = some d) ∧
    (∃ (s : State) (d : Direction), takes s ∧ s.power.mode = .active ∧ s.shc.state = .stopped ∧ (∀ r, s.fe.fade = some
      r → r.origin = .theShow → s.shc.cut = none ∧ s.shc.parts.fade ≠ some .outstanding) ∧ s.tac.state.direction =
      some d) ∧
    (∃ (s : State), takes s ∧ s.power.mode = .active ∧ s.shc.state = .stopped ∧ (∀ r, s.fe.fade = some r → r.origin =
      .theShow → s.shc.cut = none ∧ s.shc.parts.fade ≠ some .outstanding) ∧ s.tac.state = .paused) ∧
    (∃ (s : State), takes s ∧ s.power.mode = .active ∧ s.shc.state = .stopped ∧ (∀ r, s.fe.fade = some r → r.origin =
      .theShow → s.shc.cut = none ∧ s.shc.parts.fade ≠ some .outstanding) ∧ s.tac.state = .stopped) ∧
    (∃ (s : State), takes s ∧ s.power.mode = .windingDown) ∧
    (∃ (s : State) (r : FadeRecord), runs s ∧ s.power.mode = .windingDown ∧ s.power.step = some .fading ∧ showAtRest s
      ∧ s.fe.timer = true ∧ s.fe.fade = some r ∧ r.origin = .power ∧ r.index + 1 = r.total ∧ s.ltc.strike.phase =
      .idle ∧ s.thu.cooldown = none ∧ s.litLamp = none ∧ s.strikingLamp = none) ∧
    (∃ (s : State) (n : Nat), runs s ∧ s.power.mode = .windingDown ∧ s.power.step = some .cooling ∧ s.shc.state =
      .stopped ∧ s.thu.cooldown = some n ∧ ((s.thu.seeing = true ∧ 90 ≤ n + 1 ∧ ∃ d, s.thu.reading = some d ∧ d ≤ 45)
      ∨ (s.thu.seeing = false ∧ 300 ≤ n + 1))) ∧
    (∃ (s : State) (n : Nat), runs s ∧ s.power.mode = .windingDown ∧ s.power.step = some .cooling ∧ s.shc.state =
      .stopped ∧ s.thu.cooldown = some n ∧ s.thu.seeing = true ∧ n + 1 < 90) ∧
    (∃ (s : State) (n : Nat) (d : Int), runs s ∧ s.power.mode = .windingDown ∧ s.power.step = some .cooling ∧
      s.shc.state = .stopped ∧ s.thu.cooldown = some n ∧ s.link.resetTaken = false ∧ s.thu.seeing = true ∧ 90 ≤ n ∧ d
      ≤ 45) ∧
    (∃ (s : State) (r : FadeRecord) (l : Lamp), runs s ∧ s.power.mode = .windingDown ∧ s.power.step = some .fading ∧
      s.fe.timer = true ∧ s.fe.fade = some r ∧ r.origin = .power ∧ r.index + 1 = r.total ∧ (s.lampRecord l).state =
      .lit ∧ ((s.lampRecord (otherLamp l)).state = .ready ∨ (s.lampRecord (otherLamp l)).state = .failed)) ∧
    (∃ (s : State), alive s ∧ s.power.mode = .standby ∧ s.power.signature = .agrees ∧ s.link.resetTaken = false) :=
  ⟨⟨fix fun s => { s with
        power.mode := .active, shc.state := .stopped, fe.fade := none, tac.state := .stopped,
        tac.brake := none }, ⟨⟨rfl, rfl⟩, rfl⟩, by decide⟩,
   ⟨fix fun s => { s with
        power.mode := .active, fe.fade := some aFade, shc.state := .held }, ⟨⟨rfl, rfl⟩, rfl⟩, by decide⟩,
   ⟨fix fun s => { s with
        power.mode := .active, tac.state := .rewind,
        shc.state := .starting }, .backward, ⟨⟨rfl, rfl⟩, rfl⟩, by decide⟩,
   ⟨fix fun s => { s with
        power.mode := .active, shc.state := .stopped,
        tac.state := .rewind }, .backward, ⟨⟨rfl, rfl⟩, rfl⟩, by decide, by decide, fun _ h => (by cases h), by
          decide⟩,
   ⟨fix fun s => { s with
        power.mode := .active, shc.state := .stopped,
        tac.state := .paused }, ⟨⟨rfl, rfl⟩, rfl⟩, by decide, by decide, fun _ h => (by cases h), by decide⟩,
   ⟨fix fun s => { s with
        power.mode := .active, shc.state := .stopped,
        tac.state := .stopped }, ⟨⟨rfl, rfl⟩, rfl⟩, by decide, by decide, fun _ h => (by cases h), by decide⟩,
   ⟨fix fun s => { s with power.mode := .windingDown }, ⟨⟨rfl, rfl⟩, rfl⟩, by decide⟩,
   ⟨fix fun s => { s with
        power.mode := .windingDown, power.step := some .fading, fe.timer := true,
        fe.fade := some ({ aFade with origin := .power }), ltc.strike.phase := .idle,
        thu.cooldown := none }, { aFade with origin := .power }, ⟨rfl, rfl⟩, by decide⟩,
   ⟨fix fun s => { s with
        power.mode := .windingDown, power.step := some .cooling, shc.state := .stopped, thu.cooldown := some 89,
        thu.seeing := true,
        thu.reading := some 45 }, 89, ⟨rfl, rfl⟩, by decide, by decide, by decide, by decide, .inl ⟨rfl, by decide,
          45, rfl, by decide⟩⟩,
   ⟨fix fun s => { s with
        power.mode := .windingDown, power.step := some .cooling, shc.state := .stopped, thu.cooldown := some 88,
        thu.seeing := true }, 88, ⟨rfl, rfl⟩, by decide⟩,
   ⟨fix fun s => { s with
        power.mode := .windingDown, power.step := some .cooling, shc.state := .stopped, thu.cooldown := some 90,
        link.resetTaken := false, thu.seeing := true }, 90, 45, ⟨rfl, rfl⟩, by decide⟩,
   ⟨fix fun s => { s with
        power.mode := .windingDown, power.step := some .fading, fe.timer := true,
        fe.fade := some ({ aFade with origin := .power }), retained.lampA.state := .lit,
        retained.lampB.state := .ready }, { aFade with origin := .power }, .a, ⟨rfl, rfl⟩, by decide⟩,
   ⟨fix fun s => { s with
        power.mode := .standby, power.signature := .agrees, link.resetTaken := false }, ⟨rfl, rfl⟩, by decide⟩⟩

theorem test_premises_StepKeepsPlayAndExcursionRules :
    ∃ (s : State) (t : State), gateRule s = true ∧ playRule s = true ∧ tapeRule s.tac = true ∧ audioRule s = true ∧
      registerRule s = true ∧ step s = .next t :=
  ⟨fix fun s => { s with pending := [.blank] }, _, by decide, by decide, by decide, by decide, by decide, rfl⟩

theorem test_premises_StepKeepsQueueAndShowInStep :
    ∃ (s : State) (t : State), queueShape s.mq = true ∧ cycleMatches s = true ∧ showRule s = true ∧ restRule s = true
      ∧ windRule s = true ∧ step s = .next t :=
  ⟨fix fun s => { s with pending := [.blank] }, _, by decide, by decide, by decide, by decide, by decide, rfl⟩

theorem test_premises_StepKeepsLampsFanAndRest :
    ∃ (s : State) (t : State), lampRule s = true ∧ strikeRule s = true ∧ lightRule s = true ∧ fanRule s = true ∧
      windRule s = true ∧ restRule s = true ∧ tapeRule s.tac = true ∧ step s = .next t :=
  ⟨fix fun s => { s with
        pending := [.blank] }, _, by decide, by decide, by decide, by decide, by decide, by decide, by decide, rfl⟩

theorem test_premises_StepKeepsFadesTablesAndCuts :
    ∃ (s : State) (t : State), fadeRule s = true ∧ retainedRule s = true ∧ cueRule s = true ∧ cutRule s.shc = true ∧
      step s = .next t :=
  ⟨fix fun s => { s with pending := [.blank] }, _, by decide, by decide, by decide, by decide, rfl⟩

theorem test_premises_StepKeepsTheCueTable :
    ∃ (s : State) (t : State), cueRule s = true ∧ step s = .next t :=
  ⟨fix fun s => { s with pending := [.blank] }, _, by decide, rfl⟩

theorem test_premises_StickySetHoldsFirstAndLater :
    (∃ (s : State) (t : State), faultSets s.flt ∧ step s = .next t) ∧
    (∃ (s : State), takes s) ∧
    (∃ (s : State), s.pins.resetPin = false) ∧
    (∃ (s : State), s.power.powered = true) ∧
    (∃ (s : State) (r : Reply) (rest : List Reply) (part : Nat), s.live = true ∧ s.link.resetTaken = true ∧ s.link.tx
      = .reply part ∧ s.link.path = r :: rest ∧ replyParts r ≤ part + 1 ∧ r.kind = 0xD2 ∧ r.response.result = .ok) :=
  ⟨⟨fix fun s => { s with pending := [.blank] }, _, ⟨.nil, .nil, rfl, rfl, rfl⟩, rfl⟩,
   ⟨State.reset, ⟨rfl, rfl⟩, rfl⟩,
   ⟨fix fun s => { s with pins.resetPin := false }, by decide⟩,
   ⟨fix fun s => { s with power.powered := true }, by decide⟩,
   ⟨fix fun s => { s with
        link.resetTaken := true, link.tx := .reply 0, link.path := aReply :: [] }, aReply, [], 0, by decide⟩⟩

theorem test_premises_StepKeepsTheStoresBounded :
    ∃ (s : State) (t : State), queueShape s.mq = true ∧ loadGapEmpty s = true ∧ linkBounds s.link = true ∧ faultRule s
      = true ∧ step s = .next t :=
  ⟨fix fun s => { s with pending := [.blank] }, _, by decide, by decide, by decide, by decide, rfl⟩

theorem test_premises_StepKeepsTheLightWithinTheCeiling :
    ∃ (s : State) (t : State), bandRule s.thu = true ∧ ceilingRule s = true ∧ decide (s.fe.applied ≤ s.thu.effective)
      = true ∧ step s = .next t :=
  ⟨fix fun s => { s with pending := [.blank] }, _, by decide, by decide, by decide, rfl⟩

theorem test_premises_StepsEndSettled :
    ∃ (s : State) (t : State), settled s ∧ step s = .next t :=
  ⟨fix fun s => { s with pending := [.blank] }, _, rfl, rfl⟩

end Sys2Proof.Tests
end

section
/-! PROOFS. The end of a step (R5, R201, R202): every command leaves the part settled. -/

namespace Sys2Proof.Proofs

open Sys2Proof.Machine Sys2Proof.Safety

/-- Neither the shutter's command nor the transmitter reads a pin. -/
theorem settled_updPins {s : State} (h : settled s) (f : Pins → Pins) : settled (s.updPins f) :=
  (settled_iff _).2 ((settled_iff s).1 h)

theorem settled_whenLive {s : State} (h : settled s) (f : State → State) : settled (whenLive f s) := by
  unfold whenLive
  split
  · exact settle_settle _
  · exact h

theorem settled_whenRunning {s : State} (h : settled s) (f : State → State) : settled (whenRunning f s) := by
  unfold whenRunning
  split
  · exact settle_settle _
  · exact h

/-- A part without main power has its shutter closed and an idle link (log 16). -/
theorem settled_unpower (s : State) : settled (unpower s) := by
  refine (settled_iff _).2 ⟨?_, ?_⟩
  · simp [unpower, lampsAtReset, State.shutterOpen]
  · simp [unpower, lampsAtReset, dynamicStart, Link.kick, Link.start]

/-- A loss of the retained section touches neither shutter nor transmitter. -/
theorem settled_loseRetained {s : State} (h : settled s) : settled (loseRetained s) :=
  (settled_iff _).2 ((settled_iff s).1 h)

/-- Every command leaves the part settled (log 5). -/
theorem exec_settled (i : Instr) {s t : State} (hs : settled s) (h : exec i s = .next t) : settled t := by
  cases i
  case powerOn => injection h with h; exact h ▸ settle_settle _
  case mainPowerLoss => injection h with h; exact h ▸ settled_unpower s
  case backupSupplyLoss =>
    injection h with h
    subst h
    split
    · exact settled_loseRetained hs
    · exact hs
  case resetPin =>
    injection h with h
    subst h
    split
    · exact settle_settle _
    · exact settled_updPins hs _
  case resetPinRelease => injection h with h; exact h ▸ settled_whenLive (settled_updPins hs _) _
  case trayRemoval | trayInsertion | gateUp | indexPulse | slidePresent | gateSeated | turretSensor
    | currentSenseActive | currentSenseLost | tapeBeginSensor | tapeEndSensor =>
    injection h with h; exact h ▸ settled_whenRunning (settled_updPins hs _) _
  case takeEntry | settleExpiry | liftTimeout | liftReleaseExpiry | stepTimeout | dropTimeout | seatTimeout | fadeStep
    | turretTimerExpiry | preheatExpiry | checkExpiry | retryWaitExpiry | burnoutWatchStart | litTimeExpiry
    | windowEnd | slewExpiry | tachoPulse | fanStallTimerExpiry | cooldownSecondExpiry | blockTimerExpiry
    | holdTimerExpiry | brakePeriodEnd | stallTimerExpiry | reelPulse | rampTimerExpiry | autoRepeatExpiry
    | focusTimerExpiry | clearTimerExpiry | secondsTick =>
    injection h with h; exact h ▸ settled_whenRunning hs _
  all_goals injection h with h; exact h ▸ settled_whenLive hs _

/-- A step keeps what its command keeps, and an empty queue changes nothing (log 1). -/
theorem step_keeps {P : State → Prop} (hp : ∀ (s : State) (l : List Instr), P s → P { s with pending := l })
    (he : ∀ (i : Instr) (s t : State), P s → exec i s = .next t → P t) {s t : State} (hs : P s)
    (h : step s = .next t) : P t := by
  unfold step at h
  split at h
  · injection h with h
    exact h ▸ hs
  · exact he _ _ t (hp s _ hs) h

/-- An idle transmitter that stays idle has nothing to send (R201, R202). -/
theorem nothing_to_send_of_kick {l : Link} (h : l.kick = l) (hidle : l.tx = .idle) :
    l.path = [] ∧ l.reports = [] := by
  unfold Link.kick at h
  rw [hidle] at h
  dsimp only at h
  split at h
  · rw [← h] at hidle; cases hidle
  · next hpath =>
    split at h
    · rw [← h] at hidle; cases hidle
    · next hreports => exact ⟨hpath, hreports⟩

/-- Settles O59: every command ends in `settle`, or leaves shutter and transmitter as they stood. -/
theorem stepsEndSettled : Obligations.StepsEndSettled := by
  unfold Obligations.StepsEndSettled
  intro s t hs h
  have ht : settled t :=
    step_keeps (P := settled) (fun s l hs => (settled_iff _).2 ((settled_iff s).1 hs))
      (fun i s t hs h => exec_settled i hs h) hs h
  obtain ⟨hshutter, hlink⟩ := (settled_iff t).1 ht
  refine ⟨ht, fun hclosed => ?_, fun hlive hmode hphase hblank => ?_, nothing_to_send_of_kick hlink⟩
  · rw [hshutter, shutterOpen_eq]
    rcases hclosed with hp | hb
    · simp [hp]
    · simp [hb]
  · rw [hshutter, shutterOpen_eq]
    have hpow : t.power.powered = true := by
      rw [State.live, Bool.and_eq_true] at hlive
      exact hlive.1
    simp [hpow, hmode, hphase, hblank]

end Sys2Proof.Proofs
end

section
/-! PROOFS. The bounds of the link's stores and of the fault records (R186, R187, R193, R199 to R202), and what each
operation on them keeps. -/

namespace Sys2Proof.Proofs

open Sys2Proof.Machine Sys2Proof.Safety

theorem bump16_le (n : Nat) : bump16 n ≤ 65535 := Nat.min_le_right ..

theorem bump8_le (n : Nat) : bump8 n ≤ 255 := Nat.min_le_right ..

/-! ## The link -/

/-- The link's bounds as propositions. -/
theorem linkBounds_iff (l : Link) : linkBounds l = true ↔
    l.holding.length ≤ 4 ∧ (∀ h ∈ l.holding, h.trailing ≤ 255) ∧ l.owed ≤ 255 ∧ l.path.length ≤ 2 ∧
      l.reports.length ≤ 16 ∧ l.framing ≤ 65535 ∧ l.gaps ≤ 65535 ∧ l.badChecks ≤ 65535 ∧ l.overruns ≤ 65535 ∧
      l.lostReports ≤ 65535 := by
  simp [linkBounds, and_assoc]

theorem linkBounds_start : linkBounds Link.start = true := by decide

/-- A report joins a queue of fewer than 16, or is counted as lost (R202). -/
theorem linkBounds_queueReport (r : Report) (s : State) (h : linkBounds s.link = true) :
    linkBounds (queueReport r s).link = true := by
  rw [linkBounds_iff] at h ⊢
  obtain ⟨hholding, htrailing, howed, hpath, hreports, hcounters⟩ := h
  simp only [queueReport, State.updLink_link]
  split
  · next hroom => exact ⟨hholding, htrailing, howed, hpath, by simpa using hroom, hcounters⟩
  · obtain ⟨hframing, hgaps, hchecks, hoverruns, -⟩ := hcounters
    exact ⟨hholding, htrailing, howed, hpath, hreports, hframing, hgaps, hchecks, hoverruns, bump16_le _⟩

/-- An idle transmitter takes a report from its queue (R202). -/
theorem linkBounds_kick (l : Link) (h : linkBounds l = true) : linkBounds l.kick = true := by
  rw [linkBounds_iff] at h ⊢
  obtain ⟨hholding, htrailing, howed, hpath, hreports, hcounters⟩ := h
  have hfewer : l.kick.reports.length ≤ l.reports.length := by
    unfold Link.kick
    repeat' split
    all_goals simp [*]
  simp only [kick_frame]
  exact ⟨hholding, htrailing, howed, hpath, hfewer.trans hreports, hcounters⟩

/-! ## The fault records -/

/-- The fault records' bounds as propositions. -/
theorem faultRule_iff (s : State) : faultRule s = true ↔
    (s.flt.first.isSome = true ∨ s.flt.later = [] ∧ s.flt.laterCount = 0 ∧ s.flt.sticky = []) ∧
      s.flt.laterCount ≤ 255 ∧ keysAscend (s.flt.waiting.map (·.body.key)) = true ∧ s.flt.waiting.length ≤ 39 ∧
      s.flt.seconds ≤ 65535 := by
  simp [faultRule, and_assoc]

theorem keysAscend_iff (l : List Nat) : keysAscend l = true ↔ l.Pairwise (· < ·) := by
  rw [← List.isChain_iff_pairwise]
  induction l with
  | nil => simp [keysAscend]
  | cons a l ih =>
    cases l with
    | nil => simp [keysAscend]
    | cons b l => simp [keysAscend, ih]

/-- There are 39 places in the order of the release: 30 codes and nine classes (R194). -/
theorem key_lt (b : ReportBody) : b.key < 39 := by
  cases b with
  | fault c => simp only [ReportBody.key]; omega
  | event e => simp only [ReportBody.key]; omega

/-- Numbers below `n` in strictly ascending order are at most `n` many. -/
theorem length_le_of_pairwise_lt {l : List Nat} {n : Nat} (h : l.Pairwise (· < ·)) (hn : ∀ x ∈ l, x < n) :
    l.length ≤ n := by
  have hnodup : l.Nodup := h.imp Nat.ne_of_lt
  have hsub : l.toFinset ⊆ Finset.range n := fun x hx => by simpa using hn x (by simpa using hx)
  simpa [List.toFinset_card_of_nodup hnodup] using Finset.card_le_card hsub

/-- Members in the order of the release are 39 at most. -/
theorem waiting_length_le {l : List Report} (h : (l.map (·.body.key)).Pairwise (· < ·)) : l.length ≤ 39 := by
  have hl := length_le_of_pairwise_lt (n := 39) h fun x hx => by
    obtain ⟨r, -, rfl⟩ := List.mem_map.1 hx
    exact key_lt r.body
  simpa using hl

/-- A raising adds at most its own key to those that wait. -/
theorem mem_addWaiting_keys {r : Report} {l : List Report} {k : Nat}
    (h : k ∈ (addWaiting r l).map (·.body.key)) : k = r.body.key ∨ k ∈ l.map (·.body.key) := by
  induction l with
  | nil => simpa [addWaiting] using h
  | cons w l ih =>
    unfold addWaiting at h
    split at h
    · simp at h ⊢; tauto
    · split at h
      · simpa using h
      · simp only [List.map_cons, List.mem_cons] at h ih ⊢
        tauto

/-- The pending set stays in the order of the release, one member for a code or class (R193). -/
theorem addWaiting_ascend (r : Report) {l : List Report} (h : (l.map (·.body.key)).Pairwise (· < ·)) :
    ((addWaiting r l).map (·.body.key)).Pairwise (· < ·) := by
  induction l with
  | nil => simp [addWaiting]
  | cons w l ih =>
    obtain ⟨hw, hl⟩ := List.pairwise_cons.1 h
    unfold addWaiting
    split
    · next heq => exact List.pairwise_cons.2 ⟨fun k hk => heq.trans_lt (hw k hk), hl⟩
    · next hne =>
      split
      · next hlt =>
        refine List.pairwise_cons.2 ⟨fun k hk => ?_, h⟩
        rcases List.mem_cons.1 hk with rfl | hk
        · exact hlt
        · exact hlt.trans (hw k hk)
      · next hlt' =>
        refine List.pairwise_cons.2 ⟨fun k hk => ?_, ih hl⟩
        rcases mem_addWaiting_keys hk with rfl | hk
        · exact lt_of_le_of_ne (not_lt.1 hlt') (Ne.symm hne)
        · exact hw k hk

/-- The bounds of the fault records depend on those records, the pending set and the seconds alone. -/
theorem faultRule_of_eq {s t : State} (hfirst : t.flt.first = s.flt.first) (hlater : t.flt.later = s.flt.later)
    (hcount : t.flt.laterCount = s.flt.laterCount) (hsticky : t.flt.sticky = s.flt.sticky)
    (hwaiting : t.flt.waiting = s.flt.waiting) (hseconds : t.flt.seconds = s.flt.seconds)
    (h : faultRule s = true) : faultRule t = true := by
  rw [faultRule, hfirst, hlater, hcount, hsticky, hwaiting, hseconds]
  exact h

/-- A pending set in its order keeps the bounds (R193). -/
theorem faultRule_waiting {s : State} {l : List Report} (hl : (l.map (·.body.key)).Pairwise (· < ·))
    (h : faultRule s = true) : faultRule (s.updFlt fun f => { f with waiting := l }) = true := by
  rw [faultRule_iff] at h ⊢
  exact ⟨h.1, h.2.1, (keysAscend_iff _).2 hl, waiting_length_le hl, h.2.2.2.2⟩

theorem waiting_ascend {s : State} (h : faultRule s = true) : (s.flt.waiting.map (·.body.key)).Pairwise (· < ·) :=
  (keysAscend_iff _).1 ((faultRule_iff s).1 h).2.2.1

/-- A report goes to the link, joins the pending set, or is disabled (R192, R193). -/
theorem report_bounds (b : ReportBody) (first : Bool) (s : State) :
    (linkBounds s.link = true → linkBounds (report b first s).link = true) ∧
    (faultRule s = true → faultRule (report b first s) = true) := by
  unfold report
  split
  · split
    · exact ⟨linkBounds_queueReport _ s, faultRule_of_eq rfl rfl rfl rfl rfl rfl⟩
    · exact ⟨id, fun h => faultRule_waiting (addWaiting_ascend _ (waiting_ascend h)) h⟩
  · exact ⟨id, id⟩

/-- A raising: the first fault, or one more later fault (R186, R187). -/
theorem faultRule_record (c : FaultCode) (sv : Severity) (d : Detail) {s : State} (h : faultRule s = true) :
    faultRule (s.updFlt (Flt.record c sv d)) = true := by
  rw [faultRule_iff] at h ⊢
  obtain ⟨-, hcount, hrest⟩ := h
  simp only [State.updFlt_flt, Flt.record]
  split
  · exact ⟨.inl rfl, hcount, hrest⟩
  · next f heq => exact ⟨.inl (by simp [heq]), bump8_le _, hrest⟩

/-- The release hands the pending set to the link and empties it (R194). -/
theorem releaseWaiting_bounds (s : State) :
    (linkBounds s.link = true → linkBounds (releaseWaiting s).link = true) ∧
    (faultRule s = true → faultRule (releaseWaiting s) = true) := by
  have hfold : ∀ (l : List Report) (u : State),
      (linkBounds u.link = true → linkBounds (l.foldl (fun s r => queueReport r s) u).link = true) ∧
      (l.foldl (fun s r => queueReport r s) u).flt = u.flt := by
    intro l
    induction l with
    | nil => exact fun u => ⟨id, rfl⟩
    | cons r l ih =>
      exact fun u => ⟨fun h => (ih _).1 (linkBounds_queueReport r u h), (ih (queueReport r u)).2⟩
  refine ⟨(hfold _ s).1, fun h => faultRule_waiting (l := []) .nil ?_⟩
  have hflt := (hfold s.flt.waiting s).2
  exact faultRule_of_eq (by rw [hflt]) (by rw [hflt]) (by rw [hflt]) (by rw [hflt]) (by rw [hflt]) (by rw [hflt]) h

/-! ## The motion queue -/

/-- The queue's shape as propositions. -/
theorem queueShape_iff (q : List Motion) :
    queueShape q = true ↔ q.length ≤ 8 ∧ ∀ m ∈ q.drop 1, m.active = false := by
  simp [queueShape]

theorem queueShape_nil : queueShape [] = true := rfl

/-- What leaves a queue leaves its shape. -/
theorem queueShape_filter (p : Motion → Bool) {q : List Motion} (h : queueShape q = true) :
    queueShape (q.filter p) = true := by
  rw [queueShape_iff] at h ⊢
  refine ⟨(List.length_filter_le p q).trans h.1, fun m hm => h.2 m ?_⟩
  cases q with
  | nil => simp at hm
  | cons a q =>
    rw [List.filter_cons] at hm
    split at hm
    · exact (List.mem_filter.1 hm).1
    · exact (List.mem_filter.1 (List.mem_of_mem_drop hm)).1

theorem queueShape_drop {q : List Motion} (h : queueShape q = true) : queueShape (q.drop 1) = true := by
  rw [queueShape_iff] at h ⊢
  refine ⟨?_, fun m hm => h.2 m (List.mem_of_mem_drop hm)⟩
  simp only [List.length_drop]
  omega

/-- A WAITING entry joins at the tail of a queue with room (R33). -/
theorem queueShape_append {q : List Motion} {m : Motion} (hroom : q.length < 8) (hm : m.active = false)
    (h : queueShape q = true) : queueShape (q ++ [m]) = true := by
  rw [queueShape_iff] at h ⊢
  refine ⟨by simpa using hroom, fun x hx => ?_⟩
  cases q with
  | nil => simp at hx
  | cons a q =>
    simp only [List.cons_append, List.drop_succ_cons, List.drop_zero, List.mem_append, List.mem_singleton] at hx
    rcases hx with hx | rfl
    · exact h.2 x hx
    · exact hm

/-- A merge leaves each entry's state and source as they are: it changes a count of the tail alone, and never a SHOW
entry (R34). -/
theorem mergeInto_map (move : Move) (source : Source) (l q : List Motion) (h : mergeInto move source l = some q) :
    q.map (fun m => (m.active, m.source)) = l.map (fun m => (m.active, m.source)) ∧
      ∀ m ∈ l.head?, m.active = true → q.head? = some m := by
  have htail : ∀ m t, mergeTail m move source = some t →
      t.active = m.active ∧ t.source = m.source ∧ m.active = false := by
    intro m t ht
    unfold mergeTail at ht
    split at ht
    · next hm =>
      split at ht <;> first | (injection ht with ht; subst ht; exact ⟨rfl, rfl, hm.2.1⟩) | cases ht
    · cases ht
  induction l generalizing q with
  | nil => simp [mergeInto] at h
  | cons m l ih =>
    cases l with
    | nil =>
      simp only [mergeInto, Option.map_eq_some_iff] at h
      obtain ⟨t, ht, rfl⟩ := h
      obtain ⟨hactive, hsource, hwaits⟩ := htail m t ht
      simp [hactive, hsource, hwaits]
    | cons n l =>
      simp only [mergeInto, Option.map_eq_some_iff] at h
      obtain ⟨r, hr, rfl⟩ := h
      have := (ih r hr).1
      simp_all

/-- The shape of a queue is that of its entries' states. -/
theorem queueShape_of_active {q l : List Motion} (h : q.map (·.active) = l.map (·.active))
    (hl : queueShape l = true) : queueShape q = true := by
  have hlen : q.length = l.length := by simpa using congrArg List.length h
  have hdrop : (q.drop 1).map (·.active) = (l.drop 1).map (·.active) := by
    rw [List.map_drop, List.map_drop, h]
  rw [queueShape_iff] at hl ⊢
  refine ⟨hlen ▸ hl.1, fun m hm => ?_⟩
  have hmem : m.active ∈ (l.drop 1).map (·.active) := hdrop ▸ List.mem_map_of_mem hm
  obtain ⟨x, hx, hxm⟩ := List.mem_map.1 hmem
  exact hxm ▸ hl.2 x hx

theorem queueShape_mergeInto {move : Move} {source : Source} {l q : List Motion}
    (h : mergeInto move source l = some q) (hl : queueShape l = true) : queueShape q = true := by
  refine queueShape_of_active ?_ hl
  simpa [Function.comp_def] using congrArg (List.map Prod.fst) (mergeInto_map move source l q h).1

end Sys2Proof.Proofs
end

section
/-! PROOFS. `Alike s t`: from `s` to `t` the motion queue, the cycle's entry, the show's lists and state and the power
state stand, and no store leaves its bounds. Most operations are of this kind; the ones that are not move the queue, the
cycle or the show, and are met one by one where a rule is carried through them. -/

namespace Sys2Proof.Proofs

open Sys2Proof.Machine Sys2Proof.Safety

/-- The show does not react to a NOTE or a DEGRADE (R144). -/
theorem raiseAs_mild (c : FaultCode) {sv : Severity} (d : Detail) (s : State) (h : sv = .note ∨ sv = .degrade) :
    raiseAs c sv d s = recordFault c sv d s := by
  unfold raiseAs showReact
  rcases h with rfl | rfl <;> simp

/-- The entry a cycle record is of (R7). -/
def entryOf (c : CycleRecord) : Move × Source × Option Nat := (c.move, c.source, c.tag)

/-- What the rules of queue and show read of the show record (R127, R134, R141, R144). -/
def showView (c : Shc) : ShowState × Option StopReason × List Arrival × List Issued × Option HeldRecord :=
  (c.state, c.stopReason, c.cues, c.issued, c.held)

/-- What says whether the blocks run (R207, R209, R210). -/
def powerView (s : State) : PowerMode × Bool × Bool := (s.power.mode, s.power.powered, s.pins.resetPin)

structure Alike (s t : State) : Prop where
  mq : t.mq = s.mq
  cycle : t.tgc.cycle.map entryOf = s.tgc.cycle.map entryOf
  show' : showView t.shc = showView s.shc
  awake : powerView t = powerView s
  gap : loadGapEmpty s = true → loadGapEmpty t = true
  link : linkBounds s.link = true → linkBounds t.link = true
  faults : faultRule s = true → faultRule t = true

namespace Alike

variable {s t u : State}

theorem refl (s : State) : Alike s s := ⟨rfl, rfl, rfl, rfl, id, id, id⟩

theorem trans (h : Alike s t) (k : Alike t u) : Alike s u :=
  ⟨k.mq.trans h.mq, k.cycle.trans h.cycle, k.show'.trans h.show', k.awake.trans h.awake, k.gap ∘ h.gap, k.link ∘ h.link,
    k.faults ∘ h.faults⟩

theorem state (h : Alike s t) : t.shc.state = s.shc.state := congrArg (·.1) h.show'

theorem mode (h : Alike s t) : t.power.mode = s.power.mode := congrArg (·.1) h.awake

theorem running (h : Alike s t) : t.running = s.running := by
  have hpower : t.power.powered = s.power.powered := congrArg (·.2.1) h.awake
  have hpin : t.pins.resetPin = s.pins.resetPin := congrArg (·.2.2) h.awake
  rw [State.running, State.live, h.mode, hpower, hpin]
  rfl

/-! ## Block updates -/

theorem updPins (h : Alike s t) {f : Pins → Pins} (hf : (f t.pins).resetPin = t.pins.resetPin) :
    Alike s (t.updPins f) := h.trans ⟨rfl, rfl, rfl, congrArg (t.power.mode, t.power.powered, ·) hf, id, id, id⟩
theorem updFe (h : Alike s t) (f : Fe → Fe) : Alike s (t.updFe f) := h.trans ⟨rfl, rfl, rfl, rfl, id, id, id⟩
theorem updLtc (h : Alike s t) (f : Ltc → Ltc) : Alike s (t.updLtc f) := h.trans ⟨rfl, rfl, rfl, rfl, id, id, id⟩
theorem updThu (h : Alike s t) (f : Thu → Thu) : Alike s (t.updThu f) := h.trans ⟨rfl, rfl, rfl, rfl, id, id, id⟩
theorem updCdec (h : Alike s t) (f : Cdec → Cdec) : Alike s (t.updCdec f) := h.trans ⟨rfl, rfl, rfl, rfl, id, id, id⟩
theorem updTac (h : Alike s t) (f : Tac → Tac) : Alike s (t.updTac f) := h.trans ⟨rfl, rfl, rfl, rfl, id, id, id⟩
theorem updRrx (h : Alike s t) (f : Rrx → Rrx) : Alike s (t.updRrx f) := h.trans ⟨rfl, rfl, rfl, rfl, id, id, id⟩
theorem updFree (h : Alike s t) (f : Nat → Nat) : Alike s (t.updFree f) := h.trans ⟨rfl, rfl, rfl, rfl, id, id, id⟩

theorem updRetained (h : Alike s t) {f : Retained → Retained} (hf : (f t.retained).map = t.retained.map) :
    Alike s (t.updRetained f) :=
  h.trans ⟨rfl, rfl, rfl, rfl, fun hg => by simpa only [loadGapEmpty, State.updRetained_retained, hf] using hg, id, id⟩

theorem updLamp (h : Alike s t) (l : Lamp) (f : LampRecord → LampRecord) : Alike s (t.updLamp l f) := by
  cases l
  · exact h.updRetained rfl
  · exact h.updRetained rfl

/-- A change of the tray records that leaves the cycle's entry. -/
theorem updTgc (h : Alike s t) {f : Tgc → Tgc} (hf : (f t.tgc).cycle.map entryOf = t.tgc.cycle.map entryOf) :
    Alike s (t.updTgc f) := h.trans ⟨rfl, hf, rfl, rfl, id, id, id⟩

theorem updShc (h : Alike s t) {f : Shc → Shc} (hf : showView (f t.shc) = showView t.shc) : Alike s (t.updShc f) :=
  h.trans ⟨rfl, rfl, hf, rfl, id, id, id⟩

theorem updPower (h : Alike s t) {f : Power → Power}
    (hf : ((f t.power).mode, (f t.power).powered, t.pins.resetPin) = powerView t) : Alike s (t.updPower f) :=
  h.trans ⟨rfl, rfl, rfl, hf, id, id, id⟩

theorem updLink (h : Alike s t) {f : Link → Link} (hf : linkBounds t.link = true → linkBounds (f t.link) = true) :
    Alike s (t.updLink f) := h.trans ⟨rfl, rfl, rfl, rfl, id, hf, id⟩

theorem updFlt (h : Alike s t) {f : Flt → Flt} (hf : faultRule t = true → faultRule (t.updFlt f) = true) :
    Alike s (t.updFlt f) := h.trans ⟨rfl, rfl, rfl, rfl, id, id, hf⟩

/-! ## Reports, transport and fades -/

theorem report (h : Alike s t) (b : ReportBody) (first : Bool) : Alike s (report b first t) := by
  refine h.trans ⟨by simp, by simp, by simp, by simp [powerView], fun hg => ?_, (report_bounds b first t).1,
    (report_bounds b first t).2⟩
  simpa only [loadGapEmpty, report_frame] using hg

theorem raiseEvent (h : Alike s t) (e : Event) : Alike s (raiseEvent e t) := h.report _ _

theorem recordFault (h : Alike s t) (c : FaultCode) (sv : Severity) (d : Detail) : Alike s (recordFault c sv d t) :=
  (h.updFlt (faultRule_record c sv d)).report _ _

theorem raiseAs (h : Alike s t) (c : FaultCode) {sv : Severity} (d : Detail) (hsv : sv = .note ∨ sv = .degrade) :
    Alike s (raiseAs c sv d t) := by
  rw [raiseAs_mild c d t hsv]
  exact h.recordFault c sv d

theorem raiseFault (h : Alike s t) (c : FaultCode) (d : Detail) (hc : c.severity = .note ∨ c.severity = .degrade) :
    Alike s (raiseFault c d t) := h.raiseAs c d hc

theorem openCauses (h : Alike s t) (o : Opener) : Alike s (openCauses o t) :=
  h.updFlt (faultRule_of_eq rfl rfl rfl rfl rfl rfl)

theorem enterTransport (h : Alike s t) (new : Transport) (brake : Option Direction) (cause : TapeCause) :
    Alike s (enterTransport new brake cause t) := by
  unfold Machine.enterTransport
  dsimp only
  split
  · exact (h.updTac _).updCdec _
  · exact ((h.updTac _).updCdec _).raiseEvent _

theorem dropOrder (h : Alike s t) : Alike s (dropOrder t) := h.updTac _

theorem tapePauseOrder (h : Alike s t) (cause : TapeCause) : Alike s (tapePauseOrder cause t) := by
  unfold Machine.tapePauseOrder
  split
  · exact h.enterTransport _ _ _
  · split
    · exact h.dropOrder
    · exact h
  all_goals exact h

theorem tapeStopOrder (h : Alike s t) (cause : TapeCause) : Alike s (tapeStopOrder cause t) := by
  unfold Machine.tapeStopOrder
  split
  · exact h.dropOrder.enterTransport _ _ _
  · split
    · exact h.enterTransport _ _ _
    · split
      · exact h.dropOrder
      · exact h

theorem createFade (h : Alike s t) (target duration : Nat) (curve : Curve) (origin : FadeOrigin) (tag : Option Nat) :
    Alike s (createFade target duration curve origin tag t) := h.updFe _

theorem endFade (h : Alike s t) (completed : Bool) : Alike s (endFade completed t) := by
  unfold Machine.endFade
  split
  · exact h
  · refine Alike.raiseEvent (Alike.updFe ?_ _) _
    split
    · exact h
    · exact h.updRetained rfl

theorem showFade (h : Alike s t) (target duration : Nat) (curve : Curve) (tag : Option Nat) :
    Alike s (showFade target duration curve tag t) := (h.endFade _).createFade _ _ _ _ _

theorem holdOrder (h : Alike s t) (o : MoveOrder) (issuer : TapeIssuer) : Alike s (holdOrder o issuer t) := h.updTac _

theorem beginMove (h : Alike s t) (o : MoveOrder) (issuer : TapeIssuer) : Alike s (beginMove o issuer t).1 := by
  unfold Machine.beginMove
  split
  · have hs := h.enterTransport .stopped none issuer.cause
    cases o
    · exact hs.raiseFault _ _ (.inl rfl)
    · exact hs
    · exact hs.updTac fun t => { t with counter := 0 }
  · exact h.enterTransport _ _ _

theorem moveOrder (h : Alike s t) (o : MoveOrder) (issuer : TapeIssuer) : Alike s (moveOrder o issuer t).1 := by
  unfold Machine.moveOrder
  split
  · split
    · exact h.holdOrder _ _
    · exact h.beginMove _ _
  · split
    · exact h
    · split
      · exact h.enterTransport _ _ _
      · exact (h.enterTransport _ _ _).holdOrder _ _

theorem volumeOrder (h : Alike s t) (volume ramp : Nat) : Alike s (volumeOrder volume ramp t) := h.updTac _

theorem finishPart (h : Alike s t) (part : Part) (ending : PartState) : Alike s (finishPart part ending t) :=
  h.updShc rfl

theorem settle (h : Alike s t) : Alike s (settle t) := (h.updTgc rfl).updLink (linkBounds_kick _)

/-! ## The cycle record -/

theorem updCycle (h : Alike s t) {f : CycleRecord → CycleRecord} (hf : ∀ c, entryOf (f c) = entryOf c) :
    Alike s (updCycle f t) := by
  refine h.updTgc ?_
  cases t.tgc.cycle with
  | none => rfl
  | some c => exact congrArg some (hf c)

theorem cancelActive (h : Alike s t) (reason : CancelReason) : Alike s (cancelActive reason t) := by
  refine h.updTgc ?_
  cases t.tgc.cycle with
  | none => rfl
  | some c =>
    simp only [Option.map_some]
    split <;> rfl

theorem setPosition (h : Alike s t) (p : Position) : Alike s (setPosition p t) := h.updRetained rfl

/-- Map entry 0 is never written (R3). -/
theorem setMap (h : Alike s t) (p : Slot) (o : Occupancy) : Alike s (setMap p o t) := by
  unfold Machine.setMap
  split
  · exact h
  · next hp =>
    refine h.trans ⟨rfl, rfl, rfl, rfl, fun hg => ?_, id, id⟩
    have hne : p.val ≠ 0 := fun h0 => hp (Fin.ext h0)
    simpa [loadGapEmpty, Vector.getElem_set, hne] using hg

/-- A map with nothing seen has entry 0 EMPTY (R3). -/
theorem forgetTray (h : Alike s t) : Alike s (forgetTray t) := h.trans ⟨rfl, rfl, rfl, rfl, fun _ => rfl, id, id⟩

theorem enterClosing (h : Alike s t) : Alike s (enterClosing t) := h.updTgc rfl

theorem enterIndexing (h : Alike s t) (d : Direction) (steps : Nat) : Alike s (enterIndexing d steps t) :=
  (h.updTgc (f := fun t => { t with phase := .indexing, motor := some d, timer := some .step }) rfl).updCycle
    fun _ => rfl

/-! ## Light and heat -/

theorem syncDimmer (h : Alike s t) : Alike s (syncDimmer t) := by
  unfold Machine.syncDimmer
  exact (h.updFe _).updLtc _

theorem runStages (h : Alike s t) : Alike s (runStages t) := (h.updFe _).syncDimmer

theorem installResponse (h : Alike s t) : Alike s (installResponse t) := by
  unfold Machine.installResponse
  split
  · exact h
  · next r _ => exact (h.updRetained (f := fun x => { x with response := r }) rfl).updFe _

theorem advanceFade (h : Alike s t) : Alike s (advanceFade t).1 := by
  unfold Machine.advanceFade
  split
  · exact h
  · split
    · dsimp only
      exact h.updFe _
    · dsimp only
      exact h.updFe _

theorem retarget (h : Alike s t) : Alike s (retarget t) := by
  unfold Machine.retarget
  dsimp only
  split
  · exact (h.updThu _).runStages
  · exact h.updThu _

theorem syncFan (h : Alike s t) : Alike s (syncFan t) := by
  unfold Machine.syncFan setFan
  exact h.updThu _

theorem setCooldown (h : Alike s t) (c : Option Nat) : Alike s (setCooldown c t) := (h.updThu _).syncFan

theorem tellThermal (h : Alike s t) (old new : LampState) : Alike s (tellThermal old new t) := by
  unfold Machine.tellThermal
  split
  · exact h.setCooldown _
  · split
    · exact h.setCooldown _
    · exact h.syncFan

theorem endCooldown (h : Alike s t) : Alike s (endCooldown t).1 := by
  unfold Machine.endCooldown
  split
  · exact h
  · split
    · exact ((h.updThu _).raiseEvent _).syncFan
    · exact h

/-! ## Lamps and turret -/

theorem setLampState (h : Alike s t) (l : Lamp) (new : LampState) : Alike s (setLampState l new t) :=
  (h.updLamp _ _).runStages

theorem tellLamp (h : Alike s t) (l : Lamp) (new old : LampState) (cause : LampCause) :
    Alike s (tellLamp l new old cause t) := (h.raiseEvent _).tellThermal _ _

theorem changeLamp (h : Alike s t) (l : Lamp) (new : LampState) (cause : LampCause) :
    Alike s (changeLamp l new cause t) := (h.setLampState _ _).tellLamp _ _ _ _

theorem endStrike (h : Alike s t) : Alike s (endStrike t) := h.updLtc _

theorem startPreheat (h : Alike s t) : Alike s (startPreheat t) := by
  unfold Machine.startPreheat
  dsimp only
  split
  · exact (h.updLtc _).syncDimmer
  · exact (h.updLtc _).changeLamp _ _ _

theorem turretArrived (h : Alike s t) (l : Lamp) : Alike s (turretArrived l t) := by
  unfold Machine.turretArrived
  dsimp only
  split
  · exact (h.updLtc _).startPreheat
  · exact (h.updLtc _).endStrike

theorem turnTurret (h : Alike s t) (l : Lamp) (follow : Bool) : Alike s (turnTurret l follow t) := by
  unfold Machine.turnTurret
  dsimp only
  split
  · exact (h.updLtc _).turretArrived _
  · exact (h.updLtc _).updLtc _

theorem joinOrigin (h : Alike s t) (o : StrikeOrigin) : Alike s (joinOrigin o t) := h.updLtc _

theorem beginStrike (h : Alike s t) (o : StrikeOrigin) : Alike s (beginStrike o t) := by
  unfold Machine.beginStrike
  dsimp only
  split
  · exact ((h.openCauses _).updLtc _).startPreheat
  · exact ((h.openCauses _).updLtc _).turnTurret _ _

theorem abortStrike (h : Alike s t) (cause : LampCause) : Alike s (abortStrike cause t) := by
  unfold Machine.abortStrike
  split
  · exact h
  · exact h.updLtc _
  all_goals exact h.endStrike.changeLamp _ _ _

theorem lampOff (h : Alike s t) (cause : LampCause) : Alike s (lampOff cause t).1 := by
  unfold Machine.lampOff
  split
  · next l _ => exact h.changeLamp l .ready cause
  · split
    · exact h
    · exact h.abortStrike _

/-! ## Handset -/

theorem endHold (h : Alike s t) : Alike s (endHold t) := h.updRrx _

theorem irFault (h : Alike s t) : Alike s (irFault t) := h.endHold.updRrx _

end Alike

end Sys2Proof.Proofs
end

section
/-! PROOFS. A rule that the operations on queue, cycle, show and power carry is carried by every command. `Carried P`
lists those operations; the rest of the model is made of them and of changes that `Alike` describes. -/

namespace Sys2Proof.Proofs

open Sys2Proof.Machine Sys2Proof.Safety

structure Carried (P : State → Prop) : Prop where
  alike : ∀ {s t : State}, Alike s t → P s → P t
  -- the rule bounds the link's stores, or does not look at them
  link : (∀ {s : State}, P s → linkBounds s.link = true) ∨ ∀ {s : State} (f : Link → Link), P s → P (s.updLink f)
  -- the show's reactions and notices
  fault : ∀ {s : State} (c : FaultCode) (d : Detail), P s → P (raiseFault c d s)
  stop : ∀ {s : State} (reason : StopReason), P s → P (showStop reason s)
  lit : ∀ {s : State}, P s → P (lampLit s)
  fadeEnded : ∀ {s : State}, P s → P (showFadeEnded s)
  arrival : ∀ {s : State} (a : Arrival), P s → P (routeArrival a s)
  tapeEnd : ∀ {s : State}, P s → P (tapeEnded s)
  rewound : ∀ {s : State} (ending : PartState), P s → P (rewindEnded ending s)
  pauseKey : ∀ {s : State}, P s → P (pauseKey s)
  back : ∀ {s : State} (reason : ShowReason), P s → P (returnOrder reason s)
  keyMove : ∀ {s : State} (move : Move), P s → P (keyMove move s).1
  holdEnd : ∀ {s : State}, P s → P (holdExpired s)
  -- the cycle
  take : ∀ {s : State}, P s → s.running = true → P (takeHead s)
  complete : ∀ {s : State} (c : CycleRecord), P s → s.tgc.cycle.map entryOf = some (entryOf c) → P (completeCycle c s)
  jam : ∀ {s : State} (c : FaultCode) (d : Detail), c.severity = .halt → P s → P (enterJammed (raiseFault c d s))
  -- requests
  move : ∀ {s : State} (kind arg : Nat), P s → P (reqMove kind arg s).1
  halt : ∀ {s : State}, P s → P (reqHaltMotion s).1
  showStart : ∀ {s : State} (slot loops : Nat), P s → P (reqShowStart slot loops s).1
  showPause : ∀ {s : State}, P s → P (reqShowPause s).1
  showResume : ∀ {s : State}, P s → P (reqShowResume s).1
  -- power states, supplies and resets
  windDown : ∀ {s : State}, P s → s.power.mode = .active → P (windDown s)
  windUp : ∀ {s : State}, P s → s.power.mode = .windingDown →
    P (s.updPower fun p => { p with mode := .active, step := none })
  standby : ∀ {s : State}, P s → s.power.mode = .windingDown → P (enterStandby s)
  wake : ∀ {s : State}, P s → s.power.mode = .standby → P (wakeUp s)
  powerOn : ∀ {s : State}, P s → P (powerOn s)
  unpower : ∀ {s : State}, P s → P (unpower s)
  lose : ∀ {s : State}, P s → P (loseRetained s)
  soft : ∀ {s : State} (f : Pins → Pins), P s → P (softReset (s.updPins f))
  pin : ∀ {s : State} (f : Pins → Pins), P s → s.running = false → P (s.updPins f)
  sensors : ∀ {s : State} (f : Pins → Pins), P s → s.running = false → P (readSensors (s.updPins f))

namespace Alike

variable {s t : State}

/-! ## Requests and the link -/

theorem updParams (h : Alike s t) (f : Params → Params) : Alike s (t.updParams f) := h.updRetained rfl

theorem changeTable (h : Alike s t) (f : List CueEntry → List CueEntry) : Alike s (changeTable f t) :=
  (h.updRetained (f := fun r => { r with cues := f r.cues }) rfl).updShc rfl

/-- A reply joins a path that has room (R201). -/
theorem placeReply (h : Alike s t) (kind : Byte) (r : Response) : Alike s (placeReply kind r t) := by
  refine h.updLink fun hl => ?_
  rw [linkBounds_iff] at hl ⊢
  obtain ⟨hholding, htrailing, howed, hpath, hrest⟩ := hl
  refine ⟨hholding, htrailing, howed, ?_, hrest⟩
  dsimp only
  split
  · next hroom => simpa using hroom
  · exact hpath

theorem setRx (h : Alike s t) (a : Assembler) : Alike s (setRx a t) := h.updLink id

theorem framing (h : Alike s t) : Alike s (t.updLink fun l => { l with framing := bump16 l.framing }) := by
  refine h.updLink fun hl => ?_
  rw [linkBounds_iff] at hl ⊢
  obtain ⟨hholding, htrailing, howed, hpath, hreports, -, hrest⟩ := hl
  exact ⟨hholding, htrailing, howed, hpath, hreports, bump16_le _, hrest⟩

theorem gapOver (h : Alike s t) : Alike s (t.updLink fun l => { l with gaps := bump16 l.gaps }) := by
  refine h.updLink fun hl => ?_
  rw [linkBounds_iff] at hl ⊢
  obtain ⟨hholding, htrailing, howed, hpath, hreports, hframing, -, hrest⟩ := hl
  exact ⟨hholding, htrailing, howed, hpath, hreports, hframing, bump16_le _, hrest⟩

theorem badCheck (h : Alike s t) : Alike s (t.updLink fun l => { l with badChecks := bump16 l.badChecks }) := by
  refine h.updLink fun hl => ?_
  rw [linkBounds_iff] at hl ⊢
  obtain ⟨hholding, htrailing, howed, hpath, hreports, hframing, hgaps, -, hrest⟩ := hl
  exact ⟨hholding, htrailing, howed, hpath, hreports, hframing, hgaps, bump16_le _, hrest⟩

/-- An overrun is counted with the newest held frame; none joins or leaves (R199). -/
theorem trailOverrun_bounds (l : List HeldFrame) :
    (trailOverrun l).length = l.length ∧
      ((∀ h ∈ l, h.trailing ≤ 255) → ∀ h ∈ trailOverrun l, h.trailing ≤ 255) := by
  induction l with
  | nil => exact ⟨rfl, id⟩
  | cons a l ih =>
    cases l with
    | nil => simp [trailOverrun, bump8_le]
    | cons b l => simp_all [trailOverrun]

theorem receiveFrame (h : Alike s t) (f : Frame) : Alike s (receiveFrame f t) := by
  unfold Machine.receiveFrame
  split
  · next hroom =>
    refine h.updLink fun hl => ?_
    rw [linkBounds_iff] at hl ⊢
    obtain ⟨-, htrailing, hrest⟩ := hl
    refine ⟨by simpa using hroom, fun x hx => ?_, hrest⟩
    rcases List.mem_append.1 hx with hx | hx
    · exact htrailing x hx
    · rw [List.mem_singleton.1 hx]; exact Nat.zero_le _
  · have hs : Alike s (t.updLink fun l =>
        { l with overruns := bump16 l.overruns, holding := trailOverrun l.holding }) := by
      refine h.updLink fun hl => ?_
      rw [linkBounds_iff] at hl ⊢
      obtain ⟨hholding, htrailing, howed, hpath, hreports, hframing, hgaps, hchecks, -, hlost⟩ := hl
      exact ⟨(trailOverrun_bounds _).1.trans_le hholding, (trailOverrun_bounds _).2 htrailing, howed, hpath, hreports,
        hframing, hgaps, hchecks, bump16_le _, hlost⟩
    dsimp only
    split
    · exact hs
    · exact hs.raiseFault _ _ (.inl rfl)

theorem receiveByte (h : Alike s t) (b : Byte) : Alike s (receiveByte b t) := by
  unfold Machine.receiveByte
  split
  · split
    · exact h.setRx _
    · exact h
  · split
    · exact h.setRx _
    · exact h.framing.setRx _
  · exact h.setRx _
  · exact h.setRx _
  · exact (h.setRx _).receiveFrame _

theorem placeOverrun (h : Alike s t) : Alike s (placeOverrun t) := by
  unfold Machine.placeOverrun
  split
  · refine (h.placeReply _ _).updLink fun hl => ?_
    rw [linkBounds_iff] at hl ⊢
    obtain ⟨hholding, htrailing, howed, hrest⟩ := hl
    exact ⟨hholding, htrailing, (Nat.sub_le _ _).trans howed, hrest⟩
  · exact h

end Alike

section

variable {P : State → Prop} {s : State}

/-- A fade that is replaced ends, and the show is told of its own (R48, R55). -/
theorem replaceFade_keeps (alike : ∀ {s t : State}, Alike s t → P s → P t)
    (fadeEnded : ∀ {s : State}, P s → P (showFadeEnded s)) (h : P s) : P (replaceFade s) := by
  unfold replaceFade
  split
  · exact h
  · have hs : P (endFade false s) := alike ((Alike.refl s).endFade _) h
    dsimp only
    split
    · exact fadeEnded hs
    · exact hs

/-- An order from outside replaces the fade in flight and the one the show answers with (log 9). -/
theorem orderFade_keeps (alike : ∀ {s t : State}, Alike s t → P s → P t)
    (fadeEnded : ∀ {s : State}, P s → P (showFadeEnded s)) (h : P s) (target duration : Nat) (curve : Curve)
    (origin : FadeOrigin) : P (orderFade target duration curve origin s) :=
  alike ((Alike.refl _).createFade _ _ _ _ _)
    (replaceFade_keeps alike fadeEnded (replaceFade_keeps alike fadeEnded h))

/-- A strike request joins, begins or refuses; with both lamps FAILED it raises L4 (R73). -/
theorem requestStrike_keeps (alike : ∀ {s t : State}, Alike s t → P s → P t)
    (noLamp : ∀ {s : State}, P s → P (raiseFault .noLamp .empty s)) (h : P s) (o : StrikeOrigin) :
    P (requestStrike o s).1 := by
  have hjoin : P (joinOrigin o s) := alike ((Alike.refl s).joinOrigin _) h
  have hfollow : P (joinOrigin o (s.updLtc fun t => { t with strike := { t.strike with follow := true } })) :=
    alike (((Alike.refl s).updLtc _).joinOrigin _) h
  have hbegin : P (beginStrike o s) := alike ((Alike.refl s).beginStrike _) h
  unfold requestStrike
  split
  · exact h
  · split
    · exact h
    · split
      · exact hjoin
      · split
        · split
          · exact h
          · exact hfollow
        · split
          · exact h
          · split
            · exact noLamp h
            · exact hbegin

end

namespace Carried

variable {P : State → Prop} (C : Carried P) {s : State}

include C

/-! ## Wind-down -/

theorem powerFadeEnded (h : P s) : P (powerFadeEnded s) := by
  unfold Machine.powerFadeEnded
  split
  · next hw =>
    have hoff : Alike s (lampOff .lampOff s).1 := (Alike.refl s).lampOff _
    dsimp only
    split
    · exact C.alike (hoff.updPower rfl) h
    · exact C.standby (C.alike hoff h) (hoff.mode.trans hw.1)
  · exact h

theorem cooldownEnded (h : P s) : P (cooldownEnded s) := by
  unfold Machine.cooldownEnded
  split
  · next hw => exact C.standby h hw.1
  · exact h

theorem checkCooldown (h : P s) : P (checkCooldown s) := by
  have hs : P (endCooldown s).1 := C.alike (Alike.refl s).endCooldown h
  unfold Machine.checkCooldown
  dsimp only
  split
  · exact C.cooldownEnded hs
  · exact hs

theorem takeFade (h : P s) (target duration : Nat) (curve : Curve) (origin : FadeOrigin) :
    P (takeFade target duration curve origin s) := by
  have hs := orderFade_keeps C.alike C.fadeEnded h target duration curve origin
  unfold Machine.takeFade
  dsimp only
  split
  · exact C.powerFadeEnded hs
  · exact hs

/-! ## Lamps -/

theorem requestStrike (h : P s) (o : StrikeOrigin) : P (requestStrike o s).1 :=
  requestStrike_keeps C.alike (C.fault .noLamp .empty) h o

theorem changeover (h : P s) (failed : Lamp) : P (changeover failed s) := by
  unfold Machine.changeover
  dsimp only
  split
  · exact C.alike (Alike.refl _).endStrike (C.fault _ _ h)
  · exact C.alike (((Alike.refl s).joinOrigin _).turnTurret _ _) h

theorem strikeSucceeds (h : P s) : P (strikeSucceeds s) := by
  have hs : P (lampLit (changeLamp s.ltc.strike.lamp .lit .strike
      ((endStrike s).updLamp s.ltc.strike.lamp fun r => { r with strikes := bump16 r.strikes, failures := 0 }))) :=
    C.lit (C.alike (((Alike.refl s).endStrike.updLamp _ _).changeLamp _ _ _) h)
  unfold Machine.strikeSucceeds
  dsimp only
  split
  · exact C.fault _ _ hs
  · exact hs

theorem strikeFails (h : P s) : P (strikeFails s) := by
  unfold Machine.strikeFails
  dsimp only
  split
  · exact C.alike ((((Alike.refl s).updLamp _ _).updLtc _).updLtc _).syncDimmer h
  · exact C.changeover (C.alike ((Alike.refl _).tellLamp _ _ _ _) (C.fault _ _
      (C.alike (((((Alike.refl s).updLamp _ _).updLtc _).updLtc _).setLampState _ _) h))) _

theorem burnOut (h : P s) (l : Lamp) : P (burnOut l s) :=
  C.changeover (C.alike (((Alike.refl _).tellLamp _ _ _ _).updLtc _)
    (C.fault _ _ (C.alike (((Alike.refl s).setLampState _ _).openCauses _) h))) _

theorem lampKey (h : P s) : P (lampKey s) := by
  unfold Machine.lampKey
  split
  · exact C.alike ((Alike.refl s).lampOff _) h
  · exact C.requestStrike h _

/-! ## The phases of the cycle -/

theorem seatSucceeded (h : P s) : P (seatSucceeded s) := by
  unfold Machine.seatSucceeded
  split
  · exact h
  · next c hc =>
    have hs : Alike s (if c.seatRetried then raiseFault .seatRetried (.atSlot s.slot) s else s) := by
      split
      · exact (Alike.refl s).raiseFault _ _ (.inl rfl)
      · exact .refl s
    dsimp only
    split
    · exact C.alike (hs.updCycle (by exact fun _ => rfl)).enterClosing h
    · exact C.complete c (C.alike hs h) (by rw [hs.cycle, hc]; rfl)

theorem enterSeating (h : P s) : P (enterSeating s) := by
  have hs : P (s.updTgc fun t => { t with phase := .seating, timer := some .seat }) :=
    C.alike ((Alike.refl s).updTgc rfl) h
  unfold Machine.enterSeating
  dsimp only
  split
  · exact C.seatSucceeded hs
  · exact hs

theorem dropFound (h : P s) : P (dropFound s) := by
  have hs : Alike s (s.updTgc fun t => { t with gateLoad := .slide }) := (Alike.refl s).updTgc rfl
  refine C.enterSeating (C.alike ?_ h)
  split
  · exact hs.setMap _ _
  · exact hs

theorem enterDropping (h : P s) : P (enterDropping s) := by
  have hs : P (s.updTgc fun t => { t with phase := .dropping, lift := false, motor := none, timer := some .drop }) :=
    C.alike ((Alike.refl s).updTgc rfl) h
  unfold Machine.enterDropping
  dsimp only
  split
  · exact C.dropFound hs
  · exact hs

theorem enterHoming (h : P s) : P (enterHoming s) := by
  have hs : Alike s ((setPosition .unknown s).updTgc fun t => { t with phase := .homing }) :=
    ((Alike.refl s).setPosition _).updTgc rfl
  unfold Machine.enterHoming
  dsimp only
  split
  · exact C.enterDropping (C.alike (hs.setPosition _) h)
  · refine C.alike (Alike.updCycle (hs.updTgc ?_) fun _ => ?_) h
    · rfl
    · rfl

theorem indexEntry (h : P s) (c : CycleRecord) : P (indexEntry c s) := by
  have index : ∀ d n, P (enterIndexing d n s) := fun d n => C.alike ((Alike.refl s).enterIndexing d n) h
  unfold Machine.indexEntry
  split
  · exact index _ _
  · split
    · exact index _ _
    · exact index _ _
    · split
      · exact C.enterDropping h
      · split
        · exact C.enterDropping h
        · exact index _ _
    · exact C.enterHoming h

theorem liftSucceeded (h : P s) : P (liftSucceeded s) := by
  unfold Machine.liftSucceeded
  split
  · exact h
  · next c _ =>
    have onward : ∀ u, P u → P (if c.seatRetried then Machine.enterDropping u
        else if c.move = .home ∨ c.homeFirst then Machine.enterHoming u
        else if c.cancel then Machine.enterDropping u else Machine.indexEntry c u) := by
      intro u hu
      repeat' split
      · exact C.enterDropping hu
      · exact C.enterHoming hu
      · exact C.enterDropping hu
      · exact C.indexEntry hu c
    have hs : Alike s (s.updTgc fun t => { t with timer := none }) := (Alike.refl s).updTgc rfl
    refine onward _ ?_
    split
    · exact C.alike (hs.raiseFault _ _ (.inl rfl)) h
    · exact C.alike hs h

theorem startLift (h : P s) : P (startLift s) := by
  have hs : P (s.updTgc fun t => { t with phase := .lifting, lift := true, timer := some .lift }) :=
    C.alike ((Alike.refl s).updTgc rfl) h
  unfold Machine.startLift
  dsimp only
  split
  · exact C.liftSucceeded hs
  · exact hs

theorem enterLifting (h : P s) : P (enterLifting s) :=
  C.startLift (C.alike ((Alike.refl s).updCycle fun _ => rfl) h)

theorem dropEmpty (h : P s) (c : CycleRecord) : P (dropEmpty c s) := by
  have onward : ∀ (n : Nat) (u : State), P u → P (if c.skips u.retained.params.skipEmpty then
      if n < 90 then
        Machine.enterLifting (updCycle (fun c => { c with skipping := true })
          (updCycle (fun c => { c with emptyDrops := n }) u))
      else Machine.enterSeating (raiseFault .trayEmpty (.atSlot s.slot)
        (updCycle (fun c => { c with emptyDrops := n }) u))
      else Machine.enterSeating u) := by
    intro n u hu
    have hcount : Alike u (updCycle (fun c => { c with emptyDrops := n }) u) := (Alike.refl u).updCycle fun _ => rfl
    split
    · split
      · exact C.enterLifting (C.alike (hcount.updCycle (by exact fun _ => rfl)) hu)
      · exact C.enterSeating (C.fault _ _ (C.alike hcount hu))
    · exact C.enterSeating hu
  have hs : Alike s (s.updTgc fun t => { t with gateLoad := .empty, timer := none }) := (Alike.refl s).updTgc rfl
  refine onward _ _ (C.alike (Alike.trans hs ?_) h)
  split
  · exact .refl _
  · dsimp only
    split
    · exact ((Alike.refl _).setMap _ _).raiseFault _ _ (.inl rfl)
    · exact (Alike.refl _).setMap _ _

theorem pulseIndexing (h : P s) (c : CycleRecord) : P (pulseIndexing c s) := by
  have hs : P (updCycle (fun c => { c with steps := c.steps - 1 })
      (setPosition (s.retained.position.step (c.direction.getD .forward)) s)) :=
    C.alike (((Alike.refl s).setPosition _).updCycle fun _ => rfl) h
  unfold Machine.pulseIndexing
  dsimp only
  split
  · exact C.enterDropping hs
  · exact hs

theorem pulseHoming (h : P s) (c : CycleRecord) : P (pulseHoming c s) := by
  have hs : Alike s (updCycle (fun c => { c with pulses := c.pulses + 1 }) s) :=
    (Alike.refl s).updCycle fun _ => rfl
  unfold Machine.pulseHoming
  split
  · exact C.enterDropping (C.alike ((Alike.refl s).setPosition _) h)
  · dsimp only
    split
    · exact C.alike hs h
    · exact C.jam _ _ rfl (C.alike (hs.updTgc (by rfl)) h)

/-! ## Commands of the tray -/

omit C in
theorem onTimer {t : CycleTimer} {f : State → State} (hf : ∀ {s}, P s → P (f s)) (h : P s) : P (onTimer t f s) := by
  unfold Machine.onTimer
  split
  · exact hf h
  · exact h

theorem liftExpired (h : P s) : P (liftExpired s) := by
  unfold Machine.liftExpired
  split
  · exact h
  · split
    · exact C.alike ((Alike.refl s).updTgc rfl) h
    · exact C.jam _ _ rfl h

theorem liftReleased (h : P s) : P (Machine.startLift (updCycle (fun c => { c with attempt := c.attempt + 1 }) s)) :=
  C.startLift (C.alike ((Alike.refl s).updCycle fun _ => rfl) h)

theorem indexPulsed (h : P s) : P (indexPulsed s) := by
  unfold Machine.indexPulsed
  split
  · exact h
  · split
    · exact C.pulseIndexing h _
    · exact C.pulseHoming h _
    all_goals exact h

theorem stepExpired (h : P s) : P (enterJammed (raiseFault .trayStall (.atSlot s.slot)
    (setPosition .unknown (s.updTgc fun t => { t with motor := none })))) := by
  refine C.jam _ _ rfl (C.alike (Alike.setPosition (Alike.updTgc (.refl s) ?_) _) h)
  rfl

theorem slideActive (h : P s) : P (slideActive s) := by
  unfold Machine.slideActive
  split
  · exact h
  · exact onTimer C.dropFound h

theorem dropExpired (h : P s) : P (dropExpired s) := by
  unfold Machine.dropExpired
  split
  · exact h
  · exact C.dropEmpty h _

theorem seatExpired (h : P s) : P (seatExpired s) := by
  unfold Machine.seatExpired
  split
  · exact h
  · split
    · exact C.jam _ _ rfl h
    · exact C.enterLifting (C.alike ((Alike.refl s).updCycle fun _ => rfl) h)

theorem trayRemoved (h : P s) : P (trayRemoved s) := by
  have hs : Alike s (forgetTray (s.updTgc fun t => { t with present := false })) :=
    (Alike.updTgc (.refl s) rfl).forgetTray
  unfold Machine.trayRemoved
  dsimp only
  split
  · split
    · exact C.alike (hs.raiseAs _ _ (.inl rfl)) h
    · exact C.alike hs h
  · exact C.fault .trayRemoved _ (C.alike hs h)
  all_goals exact C.jam .trayRemoved _ rfl (C.alike hs h)

/-! ## Commands of the light, the lamps and the Thermal Unit -/

theorem fadeCompleted (h : P s) (origin : FadeOrigin) : P (fadeCompleted origin s) := by
  cases origin with
  | theShow => exact C.fadeEnded h
  | power => exact C.powerFadeEnded h
  | remote => exact h
  | link => exact h

theorem fadeStepped (h : P s) : P (fadeStepped s) := by
  have onward : ∀ (u : State) (b : Bool), P u → P (match s.fe.fade.map (·.origin) with
      | some o => if b then Machine.fadeCompleted o u else u
      | none => u) := by
    intro u b hu
    split
    · split
      · exact C.fadeCompleted hu _
      · exact hu
    · exact hu
  have hadvance := (Alike.refl s).advanceFade
  refine onward _ _ ?_
  split
  · exact C.alike (hadvance.endFade _).installResponse.runStages h
  · exact C.alike hadvance.installResponse.runStages h

theorem turretActive (h : P s) (l : Lamp) : P (turretActive l s) := by
  unfold Machine.turretActive
  split
  · split
    · exact C.alike ((Alike.refl s).turretArrived _) h
    · exact h
  · split
    · exact C.alike ((Alike.refl s).updLtc _) h
    · exact h

theorem turretExpired (h : P s) : P (turretExpired s) := by
  unfold Machine.turretExpired
  split
  · exact h
  · exact C.alike (Alike.refl _).endStrike (C.fault _ _ (C.alike ((Alike.refl s).updLtc _) h))

theorem enterCheck (h : P s) : P (enterCheck s) := by
  have hs : P (s.updLtc fun t => { t with strike := { t.strike with phase := .check } }) :=
    C.alike ((Alike.refl s).updLtc _) h
  unfold Machine.enterCheck
  dsimp only
  split
  · exact C.strikeSucceeds hs
  · exact hs

theorem watchBegins (h : P s) : P (watchBegins s) := by
  unfold Machine.watchBegins
  split
  · split
    · exact h
    · dsimp only
      split
      · exact C.alike ((Alike.refl s).updLtc _) h
      · exact C.burnOut (C.alike ((Alike.refl s).updLtc _) h) _
  · exact h

theorem senseLost (h : P s) (l : Lamp) : P (senseLost l s) := by
  unfold Machine.senseLost
  split
  · exact C.burnOut h l
  · exact h

theorem litTime (h : P s) : P (litTime s) := by
  unfold Machine.litTime
  split
  · exact h
  · split
    · exact C.alike ((Alike.refl s).updLtc _) h
    · unfold secondOfLight
      dsimp only
      split
      · exact C.alike ((((Alike.refl s).updLtc _).updLamp _ _).updLamp _ _ |>.raiseFault _ _ (.inl rfl)) h
      · exact C.alike (((Alike.refl s).updLtc _).updLamp _ _) h

theorem bandChanged (h : P s) (old : ThermalState) (t : Int) : P (bandChanged old t s) := by
  have hs := (Alike.refl s).retarget
  unfold Machine.bandChanged
  split
  · split
    · exact C.alike hs h
    · exact C.fault _ _ (C.alike (hs.lampOff _) h)
  · dsimp only
    split
    all_goals first
      | exact C.alike hs h
      | exact C.alike (hs.raiseFault _ _ (.inr rfl)) h
  all_goals exact C.alike hs h

theorem takeReading (h : P s) (t : Int) : P (takeReading t s) :=
  C.checkCooldown (C.alike (Alike.refl _).syncFan (C.bandChanged (C.alike ((Alike.refl s).updThu _) h) _ _))

theorem windowEnded (h : P s) : P (windowEnded s) := by
  have onward : ∀ u, P u → P (if u.thu.seeing = s.thu.seeing then u else
      Machine.checkCooldown (syncFan (retarget u))) := by
    intro u hu
    split
    · exact hu
    · exact C.checkCooldown (C.alike (Alike.refl u).retarget.syncFan hu)
  refine onward _ ?_
  split
  · exact C.alike ((((Alike.refl s).updThu _).updThu _).raiseFault _ _ (.inr rfl)) h
  · exact C.alike (((Alike.refl s).updThu _).updThu _) h

theorem slew (h : P s) : P (slew s) := by
  unfold Machine.slew
  split
  · exact C.alike ((Alike.refl s).updThu _).runStages h
  · exact h

theorem fanStalled (h : P s) : P (fanStalled s) :=
  C.alike ((Alike.refl _).lampOff _) (C.fault _ _ (C.alike ((Alike.refl s).updThu _) h))

theorem cooldownSecond (h : P s) : P (cooldownSecond s) := by
  unfold Machine.cooldownSecond
  split
  · exact h
  · exact C.checkCooldown (C.alike ((Alike.refl s).updThu _) h)

/-! ## Commands of the cue track and the tape -/

theorem handArrival (h : P s) (a : Arrival) : P (handArrival a s) := C.arrival a (C.alike ((Alike.refl s).updCdec _) h)

theorem burstDecided (h : P s) (b : BurstEnd) : P (burstDecided b s) := by
  cases b with
  | noise => exact C.alike ((Alike.refl s).updCdec fun c => { c with noise := bump16 c.noise }) h
  | step => exact C.handArrival h _
  | malformed => exact C.alike (((Alike.refl s).updCdec _).raiseFault _ _ (.inl rfl)) h
  | tapeEnd => exact C.handArrival h _

theorem wordDecided (h : P s) (r : WordResult) : P (wordDecided r s) := by
  have hs : Alike s (openCauses (.cueWord r) s) := (Alike.refl s).openCauses _
  cases r with
  | good n => exact C.handArrival (C.alike (hs.updCdec _) h) _
  | failed e => exact C.alike ((hs.updCdec _).raiseFault _ _ (.inl rfl)) h

theorem blockDecoded (h : P s) (tones : List Tone) : P (blockDecoded tones s) := by
  have burst : ∀ (b : Option BurstEnd) (u : State), P u → P (match b with
      | some b => Machine.burstDecided b u
      | none => u) := by
    intro b u hu
    cases b with
    | none => exact hu
    | some b => exact C.burstDecided hu b
  have word : ∀ (r : Option WordResult) (u : State), P u → P (match r with
      | some r => Machine.wordDecided r u
      | none => u) := by
    intro r u hu
    cases r with
    | none => exact hu
    | some r => exact C.wordDecided hu r
  unfold Machine.blockDecoded
  dsimp only
  split
  · exact word _ _ (burst _ _ (C.alike (((Alike.refl s).updCdec _).updCdec _) h))
  · exact C.alike ((Alike.refl s).updCdec _) h

theorem tellMove (h : P s) (o : MoveOrder) (outcome : TapeOutcome) : P (tellMove o outcome s) := by
  unfold Machine.tellMove
  split
  · exact C.tapeEnd h
  · exact C.rewound _ h
  · exact h

theorem beginActive (h : P s) : P (beginActive s) := by
  have hs : Alike s (s.updTac fun t => { t with beginFlag := true }) := (Alike.refl s).updTac _
  unfold Machine.beginActive
  dsimp only
  split
  · exact C.rewound _ (C.alike ((hs.updTac _).enterTransport _ _ _) h)
  · split
    · exact C.alike (hs.updTac _) h
    · exact C.alike hs h
  all_goals exact C.alike hs h

theorem endActive (h : P s) : P (endActive s) := by
  have hs : Alike s (s.updTac fun t => { t with endFlag := true }) := (Alike.refl s).updTac _
  unfold Machine.endActive
  dsimp only
  split
  · exact C.tapeEnd (C.alike ((hs.enterTransport _ _ _).raiseFault _ _ (.inl rfl)) h)
  · exact C.alike (hs.enterTransport _ _ _) h
  all_goals exact C.alike hs h

theorem brakeEnded (h : P s) : P (brakeEnded s) := by
  have hs : Alike s (s.updTac fun t => { t with brake := none, stallBrake := false, order := none }) :=
    (Alike.refl s).updTac _
  unfold Machine.brakeEnded
  split
  · dsimp only
    split
    · exact C.alike hs h
    · split
      · exact C.tellMove (C.alike (hs.moveOrder _ _) h) _ _
      · exact C.alike hs h
  · exact h

theorem tapeStalled (h : P s) : P (tapeStalled s) := by
  unfold Machine.tapeStalled
  split
  · exact h
  · have onward : ∀ u (e : Event), P u → P (if s.tac.state = .rewind then rewindEnded .failed (raiseEvent e u)
        else raiseEvent e u) := by
      intro u e hu
      split
      · exact C.rewound _ (C.alike ((Alike.refl u).raiseEvent e) hu)
      · exact C.alike ((Alike.refl u).raiseEvent e) hu
    exact onward _ _ (C.fault _ _ (C.alike (((Alike.refl s).updTac _).updCdec _) h))

end Carried

end Sys2Proof.Proofs
end

section
/-! PROOFS. From the operations to the commands: handset, requests, link, supplies, and `Carried.exec`. -/

namespace Sys2Proof.Proofs

open Sys2Proof.Machine Sys2Proof.Safety

namespace Carried

variable {P : State → Prop} (C : Carried P) {s : State}

include C

/-- A state that `Alike` reaches. -/
theorem same {t : State} (h : P s) (k : Alike s s → Alike s t) : P t := C.alike (k (.refl s)) h

/-! ## Handset -/

theorem lightOrder (h : P s) (up : Bool) : P (lightOrder up s) := C.takeFade h _ _ _ _

theorem keyPressed (h : P s) (f : KeyFunction) : P (keyPressed f s).1 := by
  cases f with
  | nothing => exact h
  | forward => exact C.alike ((Alike.refl _).updRrx fun r => { r with repeatTimer := some .first }) (C.keyMove _ h)
  | backward => exact C.alike ((Alike.refl _).updRrx fun r => { r with repeatTimer := some .first }) (C.keyMove _ h)
  | focusNear => exact C.same h (·.updRrx fun r => { r with focus := .near, spent := false })
  | focusFar => exact C.same h (·.updRrx fun r => { r with focus := .far, spent := false })
  | blank => exact C.same h fun k => k.updTgc (f := fun t => { t with blank := !t.blank }) rfl
  | pause => exact C.pauseKey h
  | returnShow => exact C.back _ h
  | lightUp => exact C.lightOrder h _
  | lightDown => exact C.lightOrder h _
  | lamp => exact C.lampKey h
  | digit d =>
    exact C.same h (·.updRrx fun r => { r with digits := (r.digits ++ [d.val]).drop (r.digits.length - 1) })
  | enter =>
    have hs : P (s.updRrx fun r => { r with digits := [] }) := C.same h (·.updRrx _)
    unfold Machine.keyPressed
    dsimp only
    split
    · exact C.keyMove _ hs
    · exact hs

theorem pressKey (h : P s) (source : KeySource) (channel : Option Nat) (code : Nat) :
    P (pressKey source channel code s).1 := by
  have onward : ∀ (b : Bool) (u : State) (f : KeyFunction), P u →
      P (if b then Machine.keyPressed f u
        else (u.updRrx fun r => { r with refused := bump16 r.refused }, KeyOutcome.locked)).1 := by
    intro b u f hu
    split
    · exact C.keyPressed hu f
    · exact C.same hu (·.updRrx fun r => { r with refused := bump16 r.refused })
  exact C.alike ((Alike.refl _).raiseEvent _) (onward _ _ _ (C.same h (·.endHold.updRrx _)))

theorem repeatHeld (h : P s) : P (repeatHeld s) := by
  unfold Machine.repeatHeld
  repeat' split
  all_goals first
    | exact h
    | exact C.lightOrder h _

theorem autoRepeat (h : P s) : P (autoRepeat s) := by
  unfold Machine.autoRepeat
  split
  · exact C.alike ((Alike.refl _).updRrx _) (C.keyMove _ h)
  · exact h

theorem irComplete (h : P s) (word : BitVec 16) : P (irComplete word s) := by
  unfold Machine.irComplete
  dsimp only
  split
  · exact C.same h (·.irFault)
  · split
    · exact C.same h (·.endHold.updRrx _)
    · split
      · next hmode =>
        split
        · exact C.same h (·.endHold.updRrx _)
        · exact C.same (C.wake h hmode) (·.updRrx _)
      · exact C.pressKey h _ _ _

theorem irRepeated (h : P s) : P (irRepeated s) := by
  unfold Machine.irRepeated
  split
  · exact C.repeatHeld (C.same h (·.updRrx _))
  · exact h

theorem irElement (h : P s) (e : IrElement) : P (irElement e s) := by
  have set : ∀ m : Measure, P (s.updRrx fun r => { r with measure := m }) := fun m => C.same h (·.updRrx _)
  have fault : P (Machine.irFault s) := C.same h (·.irFault)
  unfold Machine.irElement
  dsimp only
  split
  · split
    · exact set _
    · exact h
  · split
    · exact C.same h (·.updRrx _)
    · split
      · exact set _
      · exact fault
  · split
    · exact C.irRepeated h
    · exact fault
  · split
    · split
      · exact C.irComplete (set _) _
      · exact set _
    · exact fault
  · split
    · exact set _
    · split
      · exact set _
      · exact fault

theorem irInput (h : P s) (i : IrInput) : P (irInput i s) := by
  cases i with
  | bits word => exact C.irComplete h word
  | elements l =>
    change P (l.foldl (fun s e => Machine.irElement e s) s)
    induction l generalizing s with
    | nil => exact h
    | cons e l ih => exact ih (C.irElement h e)

/-! ## Requests -/

theorem hostMove (h : P s) (o : MoveOrder) : P (hostMove o s).1 := by
  unfold Machine.hostMove
  split
  · exact h
  · exact C.tellMove (C.same h (·.moveOrder o .link)) _ _

theorem hostRest (h : P s) {f : State → State} (hf : Alike s (f s)) : P (hostRest f s).1 := by
  unfold Machine.hostRest
  split
  · exact h
  · exact C.alike hf h

theorem reqSetParam (h : P s) (number value : Nat) : P (reqSetParam number value s).1 := by
  unfold Machine.reqSetParam
  split
  · exact h
  · dsimp only
    split
    · exact C.same h fun k => (k.updParams _).runStages
    · exact C.same h (·.updParams _)

theorem reqLampOn (h : P s) : P (reqLampOn s).1 := by
  have hs := C.requestStrike h .link
  unfold Machine.reqLampOn
  dsimp only
  split <;> exact hs

theorem reqSetLampRecord (h : P s) (lamp wear life : Nat) : P (reqSetLampRecord lamp wear life s).1 := by
  unfold Machine.reqSetLampRecord
  split
  · exact h
  · next l _ =>
    split
    · exact h
    · split
      · exact h
      · exact h
      · exact C.same h (·.updLamp l fun r => newLamp wear life r.state)
      · exact C.same h fun k => (k.updLamp l fun r => newLamp wear life r.state).changeLamp l .ready .record

theorem reqFade (h : P s) (target duration curve : Nat) : P (reqFade target duration curve s).1 := by
  unfold Machine.reqFade
  split
  · exact h
  · exact C.takeFade h _ _ _ _

theorem reqSetCurve (h : P s) (points : List Nat) : P (reqSetCurve points s).1 := by
  unfold Machine.reqSetCurve
  split
  · exact h
  · next u _ =>
    split
    · split
      · exact C.same h (·.updFe fun f => { f with pendingUser := some u })
      · exact C.same h fun k => k.updRetained (f := fun r => { r with user := u }) rfl
    · exact h

theorem reqSetResponse (h : P s) (points : List Nat) : P (reqSetResponse points s).1 := by
  unfold Machine.reqSetResponse
  split
  · exact h
  · next u _ =>
    split
    · exact C.same h (·.updFe fun f => { f with pendingResponse := some u })
    · exact h

theorem reqLoadCue (h : P s) (number slot count : Nat) (actions : List RawAction) :
    P (reqLoadCue number slot count actions s).1 := by
  unfold Machine.reqLoadCue
  split
  · exact h
  · next e _ =>
    split
    · exact h
    · dsimp only
      split
      · exact h
      · exact C.same h (·.changeTable (insertCue e))

theorem reqDeleteCue (h : P s) (number : Nat) : P (reqDeleteCue number s).1 := by
  unfold Machine.reqDeleteCue
  split
  · exact h
  · split
    · exact h
    · exact C.same h (·.changeTable fun l => l.filter fun e => e.number != number)

theorem reqClearCues (h : P s) : P (reqClearCues s).1 := by
  unfold Machine.reqClearCues
  split
  · exact h
  · exact C.same h (·.changeTable fun _ => [])

theorem reqShowStop (h : P s) : P (reqShowStop s).1 := by
  unfold Machine.reqShowStop
  split
  · exact h
  · exact C.stop .host h

theorem reqGetShow (h : P s) : P (reqGetShow s).1 := by
  unfold Machine.reqGetShow
  dsimp only
  split
  · exact C.same h (·.updFree _)
  · exact h

theorem reqKeyHold (h : P s) (code : Nat) : P (reqKeyHold code s).1 := by
  unfold Machine.reqKeyHold
  split
  · exact h
  · split
    · exact C.repeatHeld h
    · exact h

theorem reqKeyPress (h : P s) (code : Nat) : P (reqKeyPress code s).1 := by
  unfold Machine.reqKeyPress
  split
  · exact h
  · exact C.pressKey h .panel none code

theorem reqKeyRelease (h : P s) (code : Nat) : P (reqKeyRelease code s).1 := by
  unfold Machine.reqKeyRelease
  split
  · exact h
  · split
    · exact C.same h (·.endHold)
    · exact h

theorem reqSetKeymap (h : P s) (start : Nat) (functions : List Nat) : P (reqSetKeymap start functions s).1 := by
  unfold Machine.reqSetKeymap
  split
  · exact h
  · next l _ =>
    split
    · exact h
    · exact C.same h fun k => k.updRetained (f := fun r => { r with keymap := writeKeys start l r.keymap }) rfl

theorem reqClearFaults (h : P s) : P (reqClearFaults s).1 := by
  refine C.same h fun k => k.updFlt
    (f := fun f => { f with first := none, later := [], laterCount := 0, sticky := [] }) fun hf => ?_
  rw [faultRule_iff] at hf ⊢
  exact ⟨.inr ⟨rfl, rfl, rfl⟩, Nat.zero_le _, hf.2.2⟩

theorem reqSetReportEnables (h : P s) (values : List Nat) : P (reqSetReportEnables values s).1 := by
  unfold Machine.reqSetReportEnables
  split
  · exact h
  · next fs es _ =>
    refine C.same h fun k => k.updFlt (f := Flt.setEnables fs es) fun hf => ?_
    have hl : ((s.flt.setEnables fs es).waiting.map (·.body.key)).Pairwise (· < ·) :=
      (waiting_ascend hf).sublist (List.filter_sublist.map _)
    exact faultRule_of_eq rfl rfl rfl rfl rfl rfl (faultRule_waiting hl hf)

theorem reqReportsOn (h : P s) : P (reqReportsOn s).1 := by
  have hs : Alike s (s.updFlt fun f => { f with switchOn := true }) :=
    (Alike.refl s).updFlt (faultRule_of_eq rfl rfl rfl rfl rfl rfl)
  unfold Machine.reqReportsOn
  split
  · exact h
  · refine C.alike (hs.trans ⟨by simp, by simp, by simp, by simp [powerView], fun hg => ?_, (releaseWaiting_bounds _).1,
      (releaseWaiting_bounds _).2⟩) h
    simpa only [loadGapEmpty, releaseWaiting_frame] using hg

theorem reqStandby (h : P s) : P (reqStandby s).1 := by
  unfold Machine.reqStandby
  split
  · next hmode => exact C.windDown h hmode
  · exact h
  · exact h

theorem reqWake (h : P s) : P (reqWake s).1 := by
  unfold Machine.reqWake
  split
  · exact h
  · next hmode => exact C.windUp h hmode
  · next hmode => exact C.wake h hmode

/-- Whatever a request asks for, its owner carries the rule. -/
theorem runRequest (h : P s) (i : Instr) : P (runRequest i s).1 := by
  cases i
  case setParam n v => exact C.reqSetParam h n v
  case getParam n => simp only [Machine.runRequest, reqGetParam]; split <;> exact h
  case move k a => exact C.move k a h
  case haltMotion => exact C.halt h
  case blank => exact C.same h fun k => k.updTgc (f := fun t => { t with blank := !t.blank }) rfl
  case fade t d c => exact C.reqFade h t d c
  case setCurve p => exact C.reqSetCurve h p
  case setResponse p => exact C.reqSetResponse h p
  case getLight n => simp only [Machine.runRequest, reqGetLight]; split <;> exact h
  case lampOn => exact C.reqLampOn h
  case lampOff => exact C.same h (·.lampOff .lampOff)
  case setLampRecord l w r => exact C.reqSetLampRecord h l w r
  case temperature t => exact C.takeReading h (clampReading t)
  case loadCue n p c a => exact C.reqLoadCue h n p c a
  case deleteCue n => exact C.reqDeleteCue h n
  case clearCues => exact C.reqClearCues h
  case getCue k v => simp only [Machine.runRequest, reqGetCue]; split <;> exact h
  case showStart p l => exact C.showStart p l h
  case showPause => exact C.showPause h
  case showResume => exact C.showResume h
  case showStop => exact C.reqShowStop h
  case getShow => exact C.reqGetShow h
  case tapePlay => exact C.hostMove h .play
  case tapePause => exact C.hostRest h ((Alike.refl s).tapePauseOrder .link)
  case tapeStop => exact C.hostRest h ((Alike.refl s).tapeStopOrder .link)
  case tapeFastFwd => exact C.hostMove h .fastFwd
  case tapeRewind => exact C.hostMove h .rewind
  case volume v r => exact C.same h (·.volumeOrder (min v 63) (min r 10000))
  case clearCueStats =>
    exact C.same h (·.updCdec fun c =>
      { c with noise := 0, collisions := 0, malformed := 0, frameErrors := 0, good := 0, lastArrival := none,
               lastError := none })
  case keyPress c => exact C.reqKeyPress h c
  case keyHold c => exact C.reqKeyHold h c
  case keyRelease c => exact C.reqKeyRelease h c
  case setKeymap n f => exact C.reqSetKeymap h n f
  case clearFaults => exact C.reqClearFaults h
  case setReportEnables v => exact C.reqSetReportEnables h v
  case reportsOff =>
    exact C.same h fun k => k.updFlt (f := fun f => { f with switchOn := false })
      (faultRule_of_eq rfl rfl rfl rfl rfl rfl)
  case reportsOn => exact C.reqReportsOn h
  case standby => exact C.reqStandby h
  case wake => exact C.reqWake h
  case reset => exact C.same h fun k => k.updLink (f := fun l => { l with resetTaken := true }) id
  all_goals exact h

omit C in
theorem answerRequest (h : P s) {i : Instr} {act : State → State × Response} (hact : P (act s).1) :
    P (answerRequest i act s).1 := by
  unfold Machine.answerRequest
  split
  · exact h
  · split
    · exact h
    · exact hact

/-- A request given as a row. -/
theorem hostRequest (h : P s) (i : Instr) : P (hostRequest i (Machine.runRequest i) s) := by
  unfold Machine.hostRequest
  split
  · exact h
  · exact C.alike ((Alike.refl _).placeReply _ _) (answerRequest h (C.runRequest h i))

/-! ## The link -/

theorem answerFrame (h : P s) (f : Frame) : P (answerFrame f s).1 := by
  unfold Machine.answerFrame
  split
  · exact C.same h (·.badCheck)
  · split
    · exact h
    · exact h
    · exact h
    · exact answerRequest h (C.runRequest h _)

/-- The overruns owed for a taken frame are the ones its record counted (R200). -/
theorem takeOldest (h : P s) : P (takeOldest s) := by
  unfold Machine.takeOldest
  split
  · split
    · exact h
    · next x rest hheld =>
      rcases C.link with hbounds | hfree
      · obtain ⟨hholding, htrailing, hlinkRest⟩ := (linkBounds_iff _).1 (hbounds h)
        rw [hheld] at hholding htrailing
        have hs : P (s.updLink fun l => { l with holding := rest }) :=
          C.same h fun k => k.updLink fun _ => (linkBounds_iff _).2
            ⟨(Nat.le_succ _).trans hholding, fun y hy => htrailing y (List.mem_cons_of_mem x hy), hlinkRest⟩
        have hanswered := C.answerFrame hs x.frame
        refine C.same (C.same hanswered (·.placeReply (replyKind x.frame.kind) _)) fun k => k.updLink fun hl => ?_
        rw [linkBounds_iff] at hl ⊢
        obtain ⟨hholding', htrailing', -, hrest⟩ := hl
        refine ⟨hholding', htrailing', ?_, hrest⟩
        dsimp only
        split
        · exact Nat.zero_le _
        · exact htrailing x List.mem_cons_self
      · exact hfree _ (hfree _ (C.answerFrame (hfree _ h) x.frame))
  · exact h

theorem frameSent (h : P s) : P (frameSent s) := by
  unfold Machine.frameSent
  split
  · exact h
  · exact C.same h fun k => k.updLink (by exact id)
  · split
    · exact C.same h fun k => k.updLink (by exact id)
    · next r rest hpath =>
      split
      · exact C.same h fun k => k.updLink (by exact id)
      · have hs : P (s.updLink fun l => { l with tx := .idle, path := rest }) := by
          refine C.same h fun k => k.updLink fun hl => ?_
          rw [linkBounds_iff, hpath] at hl
          rw [linkBounds_iff]
          exact ⟨hl.1, hl.2.1, hl.2.2.1, (Nat.le_succ _).trans hl.2.2.2.1, hl.2.2.2.2⟩
        dsimp only
        split
        · exact C.soft id hs
        · exact hs

/-! ## Commands -/

theorem settle (h : P s) : P (settle s) := C.same h (·.settle)

theorem whenLive (h : P s) {f : State → State} (hf : P s → P (f s)) : P (whenLive f s) := by
  unfold Machine.whenLive
  split
  · exact C.settle (hf h)
  · exact h

theorem whenRunning (h : P s) {f : State → State} (hf : P s → P (f s)) : P (whenRunning f s) := by
  unfold Machine.whenRunning
  split
  · exact C.settle (hf h)
  · exact h

/-- A sensor's command: the pin takes its level, then the part acts if it runs. -/
theorem sensed (h : P s) {f : State → State} {g : Pins → Pins} (hg : (g s.pins).resetPin = s.pins.resetPin)
    (hf : P (s.updPins g) → P (f (s.updPins g))) : P (Machine.whenRunning f (s.updPins g)) :=
  C.whenRunning (C.same h (·.updPins hg)) hf

omit C in
/-- A condition that guards a command's effect. -/
theorem guarded (h : P s) {c : Prop} [Decidable c] {t : State} (ht : P s → P t) : P (if c then t else s) := by
  split
  · exact ht h
  · exact h

omit C in
/-- What holds of the state a command gives holds of the next state. -/
theorem arrive {t u : State} (h : (.next u : Host.Outcome State Fault Refusal) = .next t) (hu : P u) : P t := by
  injection h with h
  exact h ▸ hu

/-- Every command carries the rule. -/
theorem exec (h : P s) (i : Instr) {t : State} (ht : exec i s = .next t) : P t := by
  cases i
  case powerOn =>
    refine arrive ht (C.settle (C.powerOn ?_))
    split
    · exact C.unpower h
    · exact h
  case mainPowerLoss => exact arrive ht (C.unpower h)
  case backupSupplyLoss => exact arrive ht (guarded h C.lose)
  case softReset => exact arrive ht (C.whenLive h (C.soft id))
  case resetPin =>
    refine arrive ht ?_
    split
    · exact C.settle (C.soft _ h)
    · next hoff => exact C.pin _ h (by simp_all [State.running, State.live])
  case resetPinRelease =>
    refine arrive ht ?_
    cases hheld : s.pins.resetPin
    · exact C.whenLive (C.same h (·.updPins hheld.symm)) (by simp)
    · have hrest : s.running = false := by simp [State.running, State.live, hheld]
      exact C.whenLive (C.pin _ h hrest) fun _ => by simpa [hheld] using C.sensors _ h hrest
  case frameReceived f => exact arrive ht (C.whenLive h fun h => C.same h (·.receiveFrame f))
  case byteReceived b => exact arrive ht (C.whenLive h fun h => C.same h (·.receiveByte b))
  case framingError => exact arrive ht (C.whenLive h fun h => C.same h (·.framing.setRx .hunt))
  case gapTimerExpiry =>
    refine arrive ht (C.whenLive h fun h => ?_)
    split
    · exact h
    · exact C.same h (·.gapOver.setRx .hunt)
  case takeFrame => exact arrive ht (C.whenLive h C.takeOldest)
  case placeOverrunReply => exact arrive ht (C.whenLive h fun h => C.same h (·.placeOverrun))
  case transmitDone => exact arrive ht (C.whenLive h C.frameSent)
  case trayRemoval => exact arrive ht (C.sensed h rfl C.trayRemoved)
  case trayInsertion => exact arrive ht (C.sensed h rfl fun h => C.same h (·.updTgc (by rfl)))
  case takeEntry =>
    refine arrive ht ?_
    unfold Machine.whenRunning
    split
    · next hrun => exact C.settle (C.take h hrun)
    · exact h
  case settleExpiry => exact arrive ht (C.whenRunning h (onTimer C.enterLifting))
  case gateUp a =>
    refine arrive ht (C.sensed h rfl fun h => ?_)
    exact guarded h (onTimer C.liftSucceeded)
  case liftTimeout => exact arrive ht (C.whenRunning h (onTimer C.liftExpired))
  case liftReleaseExpiry => exact arrive ht (C.whenRunning h (onTimer C.liftReleased))
  case indexPulse home => exact arrive ht (C.sensed h rfl C.indexPulsed)
  case stepTimeout => exact arrive ht (C.whenRunning h (onTimer C.stepExpired))
  case slidePresent a => exact arrive ht (C.sensed h rfl fun h => guarded h C.slideActive)
  case dropTimeout => exact arrive ht (C.whenRunning h (onTimer C.dropExpired))
  case gateSeated a => exact arrive ht (C.sensed h rfl fun h => guarded h (onTimer C.seatSucceeded))
  case seatTimeout => exact arrive ht (C.whenRunning h (onTimer C.seatExpired))
  case fadeStep => exact arrive ht (C.whenRunning h fun h => guarded h C.fadeStepped)
  case turretSensor l a => exact arrive ht (C.sensed h (by cases l <;> rfl) fun h => guarded h (C.turretActive · l))
  case turretTimerExpiry => exact arrive ht (C.whenRunning h C.turretExpired)
  case preheatExpiry => exact arrive ht (C.whenRunning h fun h => guarded h C.enterCheck)
  case currentSenseActive l => exact arrive ht (C.sensed h (by cases l <;> rfl) fun h => guarded h C.strikeSucceeds)
  case checkExpiry => exact arrive ht (C.whenRunning h fun h => guarded h C.strikeFails)
  case retryWaitExpiry => exact arrive ht (C.whenRunning h fun h => guarded h fun h => C.same h (·.startPreheat))
  case burnoutWatchStart => exact arrive ht (C.whenRunning h C.watchBegins)
  case currentSenseLost l => exact arrive ht (C.sensed h (by cases l <;> rfl) (C.senseLost · l))
  case litTimeExpiry => exact arrive ht (C.whenRunning h fun h => guarded h C.litTime)
  case windowEnd => exact arrive ht (C.whenRunning h fun h => guarded h C.windowEnded)
  case slewExpiry => exact arrive ht (C.whenRunning h fun h => guarded h C.slew)
  case tachoPulse => exact arrive ht (C.whenRunning h fun h => C.same h (·.updThu _))
  case fanStallTimerExpiry => exact arrive ht (C.whenRunning h fun h => guarded h C.fanStalled)
  case cooldownSecondExpiry => exact arrive ht (C.whenRunning h C.cooldownSecond)
  case blockTimerExpiry tones => exact arrive ht (C.whenRunning h fun h => guarded h (C.blockDecoded · tones))
  case holdTimerExpiry => exact arrive ht (C.whenRunning h C.holdEnd)
  case tapeBeginSensor a =>
    refine arrive ht (C.sensed h rfl fun h => ?_)
    split
    · exact C.beginActive h
    · exact C.same h (·.updTac _)
  case tapeEndSensor a =>
    refine arrive ht (C.sensed h rfl fun h => ?_)
    split
    · exact C.endActive h
    · exact C.same h (·.updTac _)
  case brakePeriodEnd => exact arrive ht (C.whenRunning h C.brakeEnded)
  case stallTimerExpiry => exact arrive ht (C.whenRunning h C.tapeStalled)
  case reelPulse => exact arrive ht (C.whenRunning h fun h => C.same h (·.updTac _))
  case rampTimerExpiry => exact arrive ht (C.whenRunning h fun h => C.same h (·.updTac _))
  case irFrame input => exact arrive ht (C.whenLive h (C.irInput · input))
  case irRepeat => exact arrive ht (C.whenLive h C.irRepeated)
  case irTimingFault => exact arrive ht (C.whenLive h fun h => C.same h (·.irFault))
  case releaseTimerExpiry => exact arrive ht (C.whenLive h fun h => guarded h fun h => C.same h (·.endHold))
  case autoRepeatExpiry => exact arrive ht (C.whenRunning h C.autoRepeat)
  case focusTimerExpiry =>
    refine arrive ht (C.whenRunning h fun h => ?_)
    split
    · exact h
    · exact C.same h (·.updRrx _)
  case clearTimerExpiry => exact arrive ht (C.whenRunning h fun h => C.same h (·.updRrx _))
  case secondsTick =>
    refine arrive ht (C.whenRunning h fun h => guarded h fun h => C.same h fun k => k.updFlt fun hf => ?_)
    rw [faultRule_iff] at hf ⊢
    exact ⟨hf.1, hf.2.1, hf.2.2.1, hf.2.2.2.1, bump16_le _⟩
  all_goals exact arrive ht (C.whenLive h (C.hostRequest · _))

end Carried

end Sys2Proof.Proofs
end

section
/-! PROOFS. The Show Controller (chapter 7) and the queue: from their single moves to the operations that `Carried` asks
for. A rule is a family `P k`, where `k` counts the entries of the show's that have left the queue and whose items of the
issued-move list are still to be taken (R134). -/

namespace Sys2Proof.Proofs

open Sys2Proof.Machine Sys2Proof.Safety

/-- How many entries are the show's. -/
def showCount (l : List Motion) : Nat := (l.filter fun m => m.source == .theShow).length

@[simp] theorem showCount_nil : showCount [] = 0 := rfl

theorem showCount_cons (m : Motion) (l : List Motion) :
    showCount (m :: l) = showCount l + if m.source = .theShow then 1 else 0 := by
  by_cases h : m.source = .theShow <;> simp [showCount, h]

structure Staged (P : Nat → State → Prop) : Prop where
  alike : ∀ {k : Nat} {s t : State}, Alike s t → P k s → P k t
  -- the show's states and lists
  enter : ∀ {k : Nat} {s : State} (new : ShowState) (reason : ShowReason), P k s → s.shc.state ≠ .stopped →
    s.shc.state ≠ .held → new ≠ .stopped → new ≠ .held → P k (setShow new reason s)
  held : ∀ {k : Nat} {s : State} (code : FaultCode) (hold : Bool), P k s → s.shc.state.heedsFaults = true →
    P k (enterHeld code hold s)
  resume : ∀ {k : Nat} {s : State} (h : HeldRecord) (reason : ShowReason), P k s → s.shc.held = some h →
    P k (setShow h.resume reason (s.updShc fun c => { c with held := none }))
  ended : ∀ {k : Nat} {s : State} (reason : StopReason), P k s → s.shc.state ≠ .held → P k (enterStopped reason s)
  begin : ∀ {k : Nat} {s : State} (slot : Slot) (loops : Nat) (rewind strike : Bool), P k s → s.shc.state = .stopped →
    s.power.mode ≠ .windingDown →
    P k (setShow .starting .request (showFade 0 0 .linear none (s.updShc (Shc.startOf slot loops rewind strike))))
  untimed : ∀ {k : Nat} {s : State}, P k s → P k (s.updShc fun c =>
    { c with hold := none, held := c.held.map fun h => { h with resume := .running } })
  lists : ∀ {k : Nat} {s : State} {f : Shc → Shc}, P k s →
    ((f s.shc).state, (f s.shc).stopReason, (f s.shc).held) = (s.shc.state, s.shc.stopReason, s.shc.held) →
    (f s.shc).issued.length = s.shc.issued.length → (s.shc.cues.length ≤ 4 → (f s.shc).cues.length ≤ 4) →
    P k (s.updShc f)
  stop : ∀ {s : State} (reason : StopReason), P 0 s → P 0 (showStop reason s)
  -- the queue and its items
  join : ∀ {k : Nat} {s : State} (move : Move) (tag : Option Nat) (i : Issued), P k s → s.mq.length < 8 →
    P k ((s.updMq fun q => q ++ [⟨move, .theShow, tag, false⟩]).updShc fun c => { c with issued := c.issued ++ [i] })
  offer : ∀ {k : Nat} {s : State} (move : Move) (source : Source), source ≠ .theShow → P k s →
    P k (offer move source none s).1
  pop : ∀ {k : Nat} {s : State}, P (k + 1) s → P k (popIssued s)
  popNone : ∀ {k : Nat} {s : State}, P (k + 1) s → s.shc.issued.head? = none → P k s
  discard : ∀ {k : Nat} {s : State} (p : Motion → Bool) (reason : CancelReason), P k s →
    P (k + showCount (waitingOf p s.mq)) (discardWaiting p reason s)
  flush : ∀ {k : Nat} {s : State} {g : Tgc → Tgc} (reason : CancelReason), (g s.tgc).cycle = none → P k s →
    P (k + showCount s.mq) (flushQueue reason (s.updTgc g))
  finish : ∀ {k : Nat} {s : State} {g : Tgc → Tgc} (c : CycleRecord), (g s.tgc).cycle = none → P k s →
    s.tgc.cycle.map entryOf = some (entryOf c) →
    P (k + showCount (s.mq.take 1)) ((s.updTgc g).updMq fun q => q.drop 1) ∧
      P (k + if c.source = .theShow then 1 else 0) ((s.updTgc g).updMq fun q => q.drop 1)
  leave : ∀ {k : Nat} {s : State} {m : Motion} {rest : List Motion}, P k s → s.mq = m :: rest → m.active = false →
    P (k + showCount [m]) (s.updMq fun _ => rest)
  activate : ∀ {k : Nat} {s : State} {m : Motion} {rest : List Motion} (home : Bool), P k s → s.mq = m :: rest →
    m.active = false → s.running = true →
    P k ((s.updMq fun _ => { m with active := true } :: rest).updTgc fun t =>
      { t with cycle := some (CycleRecord.start m home) })

/-- A staged rule that power states, supplies and resets keep too. -/
structure Kept (P : Nat → State → Prop) : Prop extends Staged P where
  link : (∀ {s : State}, P 0 s → linkBounds s.link = true) ∨ ∀ {s : State} (f : Link → Link), P 0 s → P 0 (s.updLink f)
  down : ∀ {s : State}, P 0 s → s.shc.state = .stopped → s.power.mode = .active →
    P 0 (s.updPower fun p => { p with mode := .windingDown, step := some .fading })
  windUp : ∀ {s : State}, P 0 s → s.power.mode = .windingDown →
    P 0 (s.updPower fun p => { p with mode := .active, step := none })
  standbyTray : ∀ {s : State}, P 0 s → s.power.mode = .windingDown →
    P 0 ((standbyTray s).updPower fun p => { p with mode := .standby, step := none, signature := .agrees })
  wake : ∀ {s : State}, P 0 s → s.power.mode = .standby → P 0 (wakeUp s)
  powerOn : ∀ {s : State}, P 0 s → P 0 (powerOn s)
  unpower : ∀ {s : State}, P 0 s → P 0 (unpower s)
  lose : ∀ {s : State}, P 0 s → P 0 (loseRetained s)
  soft : ∀ {s : State} (f : Pins → Pins), P 0 s → P 0 (softReset (s.updPins f))
  pin : ∀ {s : State} (f : Pins → Pins), P 0 s → s.running = false → P 0 (s.updPins f)
  sensors : ∀ {s : State} (f : Pins → Pins), P 0 s → s.running = false → P 0 (readSensors (s.updPins f))

namespace Alike

variable {s t : State}

theorem showRewind (h : Alike s t) : Alike s (showRewind t) := by
  unfold Machine.showRewind
  dsimp only
  split
  · exact (h.moveOrder _ _).finishPart _ _
  · exact h.moveOrder _ _

theorem showRefused (h : Alike s t) (purpose : Purpose) : Alike s (showRefused purpose t) := by
  have hparts : Alike s (t.updShc fun c =>
      { c with parts := { c.parts with goto := c.parts.goto.map fun _ => .failed } }) := h.updShc rfl
  cases purpose with
  | start => exact hparts
  | loopReturn => exact hparts
  | cutChange => exact h.updShc (f := fun c => { c with cut := none }) rfl
  | excursionReturn => exact h
  | change => exact h
  | step => exact h
  | resync => exact h

theorem startCut (h : Alike s t) (outMs inMs : Nat) (move : Move) (tag : Option Nat) (check : Option SlotCheck) :
    Alike s (startCut outMs inMs move tag check t) :=
  (h.showFade 0 outMs .linear tag).updShc
    (f := fun c => { c with cut := some ⟨.fadingOut, tag, t.fe.level, inMs, move, check⟩ }) rfl

theorem waitingCancelled (h : Alike s t) (reason : CancelReason) (m : Motion) :
    Alike s (waitingCancelled reason t m) := h.raiseEvent _

theorem activeCancelled (h : Alike s t) (reason : CancelReason) (m : Motion) :
    Alike s (activeCancelled reason m t) := h.raiseEvent _

/-- What a discard tells of the entries that leave (R37). -/
theorem waitingAll (h : Alike s t) (reason : CancelReason) (l : List Motion) :
    Alike s (l.foldl (Machine.waitingCancelled reason) t) := by
  induction l generalizing t with
  | nil => exact h
  | cons m l ih => exact ih (h.waitingCancelled reason m)

/-- Emptying the queue leaves what an empty queue leaves (R41). -/
theorem flushQueue (h : Alike s (t.updMq fun _ => [])) (reason : CancelReason) : Alike s (flushQueue reason t) := by
  have all : ∀ (l : List Motion) (u : State), Alike s u → Alike s (l.foldl (fun s m =>
      if m.active then Machine.activeCancelled reason m s else Machine.waitingCancelled reason s m) u) := by
    intro l
    induction l with
    | nil => exact fun u hu => hu
    | cons m l ih =>
      intro u hu
      refine ih _ ?_
      dsimp only
      split
      · exact hu.activeCancelled reason m
      · exact hu.waitingCancelled reason m
  exact all _ _ h

/-- The return register is the show's own matter (R147). -/
theorem entryActive (h : Alike s t) (source : Source) : Alike s (entryActive source t) := by
  unfold Machine.entryActive
  split
  · exact h.updShc rfl
  · exact h

end Alike

/-- A merge is never the show's (R34). -/
theorem mergeInto_theShow (move : Move) (l : List Motion) : mergeInto move .theShow l = none := by
  induction l with
  | nil => rfl
  | cons m l ih =>
    cases l with
    | nil => simp [mergeInto, mergeTail]
    | cons n l => simp [mergeInto, ih]

namespace Staged

variable {P : Nat → State → Prop} (S : Staged P) {k : Nat} {s : State}

include S

theorem same {t : State} (h : P k s) (f : Alike s s → Alike s t) : P k t := S.alike (f (.refl s)) h

/-! ## Faults (R144) -/

/-- A fault that does not shut the show down leaves it, or holds it. -/
theorem faultHeld (h : P k s) (c : FaultCode) (d : Detail) (hc : c.severity ≠ .shutdown) : P k (raiseFault c d s) := by
  have hs : P k (recordFault c c.severity d s) := S.same h (·.recordFault _ _ _)
  unfold raiseFault raiseAs showReact
  split
  · next heeds =>
    split
    · exact hs
    · exact hs
    · exact S.held c true hs heeds
    · exact S.held c false hs heeds
    · next hsv => exact absurd hsv hc
  · exact hs

theorem fault (h : P 0 s) (c : FaultCode) (d : Detail) : P 0 (raiseFault c d s) := by
  by_cases hc : c.severity = .shutdown
  · have hs : P 0 (recordFault c c.severity d s) := S.same h (·.recordFault _ _ _)
    unfold raiseFault raiseAs showReact
    rw [hc] at hs ⊢
    split
    · exact S.stop _ hs
    · exact hs
  · exact S.faultHeld h c d hc

/-! ## Moves of the show -/

theorem offerShow (h : P k s) (move : Move) (tag : Option Nat) (purpose : Purpose) (check : Option SlotCheck) :
    P k (offerShow move tag purpose check s) := by
  unfold Machine.offerShow
  rcases offer_cases move .theShow tag s with ⟨q, hq, -⟩ | ⟨-, -, hfull⟩ | ⟨-, hroom, hjoin⟩
  · simp [mergeInto_theShow] at hq
  · rw [hfull]
    exact S.same (S.faultHeld h .motionOverflow (.ofCue tag) (by decide)) (·.showRefused purpose)
  · rw [hjoin]
    exact S.join move tag ⟨purpose, check⟩ h hroom

theorem slotCheck (h : P k s) (check : SlotCheck) (position : Position) : P k (slotCheck check position s) := by
  have onward : ∀ u, P k u → P k (if u.retained.params.resync then
      Machine.offerShow (.goto (Fin.ofNat 91 check.expected)) (some check.cue) .resync none u else u) := by
    intro u hu
    split
    · exact S.offerShow hu _ _ _ _
    · exact hu
  unfold Machine.slotCheck
  split
  · exact h
  · exact onward _ (S.same h (·.raiseFault _ _ (.inl rfl)))

theorem itemCheck (h : P k s) (check : Option SlotCheck) (position : Position) : P k (itemCheck check position s) := by
  unfold Machine.itemCheck
  split
  · exact h
  · split
    all_goals first
      | exact S.slotCheck h _ _
      | exact h

/-! ## Cue entries and arrivals -/

theorem pauseAction (h : P k s) (hold : Nat) : P k (pauseAction hold s) := by
  have onward : ∀ u, P k u → P k (if u.tac.state = .play then tapePauseOrder .theShow u else u) := by
    intro u hu
    split
    · exact S.same hu (·.tapePauseOrder _)
    · exact hu
  unfold Machine.pauseAction
  split
  · next hrun =>
    exact onward _ (S.same (S.enter .paused .action h (by simp [hrun]) (by simp [hrun]) (by decide) (by decide))
      fun k => k.updShc rfl)
  · exact h

theorem issueAction (h : P k s) (cue : Nat) (check : Option SlotCheck) (a : CueAction) :
    P k (issueAction cue check a s) := by
  cases a with
  | change m => exact S.offerShow h _ _ _ _
  | fade target duration curve => exact S.same h (·.showFade target duration curve (some cue))
  | cut outMs inMs m => exact S.same h (·.startCut outMs inMs m (some cue) check)
  | audio volume ramp => exact S.same h (·.volumeOrder volume ramp)
  | pause hold => exact S.pauseAction h _

theorem issueActions (h : P k s) (cue : Nat) (cutCheck changeCheck : Option SlotCheck) (l : List CueAction) :
    P k (issueActions cue cutCheck changeCheck l s) := by
  induction l generalizing s with
  | nil => exact h
  | cons a l ih => exact ih (S.issueAction h _ _ _)

theorem executeEntry (h : P k s) (e : CueEntry) (index : Nat) (relation : Relation) (fromPending : Bool) :
    P k (executeEntry e index relation fromPending s) := by
  refine S.alike ((Alike.refl _).raiseEvent _) ?_
  split
  · exact S.issueActions h _ _ _ _
  · split
    · exact S.issueActions h _ _ _ _
    · exact S.itemCheck (S.issueActions h _ _ _ _) _ _

theorem handleCoded (h : P k s) (number : Nat) (fromPending : Bool) : P k (handleCoded number fromPending s) := by
  unfold Machine.handleCoded
  split
  · exact S.same h (·.raiseFault _ _ (.inl rfl))
  · split
    · exact h
    · next i _ _ _ _ =>
      have hs : Alike s (s.updShc fun c => { c with pointer := i + 1 }) := (Alike.refl s).updShc rfl
      dsimp only
      split
      · exact S.executeEntry (S.alike hs h) _ _ _ _
      · split
        · exact S.executeEntry (S.alike (hs.raiseFault _ _ (.inl rfl)) h) _ _ _ _
        · exact S.executeEntry (S.alike (hs.raiseFault _ _ (.inl rfl)) h) _ _ _ _

theorem handleStep (h : P k s) (fromPending : Bool) : P k (handleStep fromPending s) := by
  refine S.alike ((Alike.refl _).raiseEvent _) ?_
  split
  · exact S.offerShow h _ _ _ _
  · exact S.same h (·.startCut _ _ _ _ _)

/-! ## The end of the tape (R137, R138) -/

theorem enterLooping (h : P k s) (hrun : s.shc.state = .running) : P k (enterLooping s) := by
  have hs : Alike s ((showFade 0 1000 .smooth none s).updShc fun c =>
      { c with parts := { Parts.empty with rewind := some .outstanding, fade := some .outstanding } }) :=
    ((Alike.refl s).showFade _ _ _ _).updShc rfl
  exact S.alike (Alike.refl _).showRewind (S.enter .looping .notice (S.alike hs h) (by simp [hrun]) (by simp [hrun])
    (by decide) (by decide))

theorem endHandling (h : P k s) (hrun : s.shc.state = .running) : P k (endHandling s) := by
  have onward : ∀ u, P k u → u.shc.state = .running → P k (if u.shc.loops ≠ 0 ∧ u.shc.loopsDone = u.shc.loops then
      enterStopped .ended (showFade 0 2000 .smooth none u) else Machine.enterLooping u) := by
    intro u hu hurun
    have hfade : Alike u (showFade 0 2000 .smooth none u) := (Alike.refl u).showFade _ _ _ _
    split
    · exact S.ended _ (S.alike hfade hu) (by simp [hurun])
    · exact S.enterLooping hu hurun
  refine onward _ (S.lists h rfl ?_ fun _ => Nat.zero_le _) hrun
  dsimp only
  split
  · exact List.length_map ..
  · rfl

theorem tapeEnded (h : P k s) : P k (tapeEnded s) := by
  unfold Machine.tapeEnded
  split
  · next hrun => exact S.endHandling h hrun
  · exact h

theorem handleArrival (h : P k s) (hrun : s.shc.state = .running) (a : Arrival) (fromPending : Bool) :
    P k (handleArrival a fromPending s) := by
  cases a with
  | step => exact S.handleStep h _
  | tapeEnd => exact S.endHandling h hrun
  | coded n => exact S.handleCoded h _ _

theorem takePending (h : P k s) (n : Nat) : P k (takePending n s) := by
  induction n generalizing s with
  | zero => exact h
  | succ n ih =>
    unfold Machine.takePending
    split
    · next hrun =>
      split
      · exact h
      · next a rest hcues =>
        have hs : P k (s.updShc fun c => { c with cues := rest }) :=
          S.lists h rfl rfl fun hfour => by rw [hcues] at hfour; exact (Nat.le_succ _).trans hfour
        exact ih (S.handleArrival hs hrun.1 _ _)
    · exact h

theorem drainCues (h : P k s) : P k (drainCues s) := S.takePending h _

theorem keepArrival (h : P k s) (a : Arrival) : P k (keepArrival a s) := by
  unfold Machine.keepArrival
  split
  · next hroom => exact S.lists h rfl rfl fun _ => by simpa using hroom
  · exact S.same h (·.raiseFault _ _ (.inl rfl))

theorem routeArrival (h : P k s) (a : Arrival) : P k (routeArrival a s) := by
  unfold Machine.routeArrival
  split
  any_goals exact h
  any_goals exact S.keepArrival h _
  next hrun =>
    split
    · exact S.keepArrival h _
    · exact S.handleArrival h hrun _ _

/-! ## RUNNING and the part list (R128, R131) -/

/-- What an entry to RUNNING goes on with (log 10). -/
theorem goRunning_of {reason : ShowReason} (h : P k (setShow .running reason s)) : P k (goRunning reason s) := by
  have hs : P k (moveOrder .play .theShow (setShow .running reason s)).1 := S.same h (·.moveOrder _ _)
  refine S.drainCues ?_
  split
  · exact S.tapeEnded hs
  · exact hs

theorem goRunning (h : P k s) (reason : ShowReason) (hstop : s.shc.state ≠ .stopped) (hheld : s.shc.state ≠ .held) :
    P k (goRunning reason s) := S.goRunning_of (S.enter _ _ h hstop hheld (by decide) (by decide))

theorem offerStartGoto (h : P k s) (purpose : Purpose) : P k (offerStartGoto purpose s) := by
  have hs : P k (s.updShc fun c => { c with parts := { c.parts with goto := some .outstanding } }) :=
    S.same h fun k => k.updShc rfl
  unfold Machine.offerStartGoto
  dsimp only
  split
  · exact hs
  · exact S.offerShow hs _ _ _ _

theorem reissueParts (h : P k s) : P k (reissueParts s) := by
  have onward : ∀ u, P k u → P k (if s.shc.parts.rewind = some .failed then
      Machine.showRewind (u.updShc fun c => { c with parts := { c.parts with rewind := some .outstanding } })
      else u) := by
    intro u hu
    split
    · exact S.same hu fun k => Alike.showRewind (k.updShc rfl)
    · exact hu
  refine onward _ ?_
  split
  · exact S.offerStartGoto h _
  · exact h

theorem partsDone (h : P k s) (reason : ShowReason) (hstop : s.shc.state ≠ .stopped) (hheld : s.shc.state ≠ .held) :
    P k (partsDone reason s) := by
  have hs : Alike s (s.updShc fun c => { c with parts := .empty, pointer := 0 }) := (Alike.refl s).updShc rfl
  have hfade := hs.showFade s.retained.params.showLevel 1000 .smooth none
  exact S.goRunning (S.alike hfade h) reason (hfade.state ▸ hstop) (hfade.state ▸ hheld)

omit S in
/-- The part list is examined in STARTING and LOOPING alone. -/
theorem state_of_examinable {c : Shc} (h : c.examinable = true) : c.state ≠ .stopped ∧ c.state ≠ .held := by
  rw [Shc.examinable, Bool.and_eq_true, Bool.or_eq_true, beq_iff_eq, beq_iff_eq] at h
  rcases h.1 with hstate | hstate <;> simp [hstate]

theorem examine (h : P k s) (reason : ShowReason) : P k (examine reason s) := by
  have onward : ∀ u, P k u → P k (if u.shc.examinable && !u.shc.parts.anyFailed then Machine.partsDone reason u
      else u) := by
    intro u hu
    split
    · next hdone =>
      rw [Bool.and_eq_true] at hdone
      have hstate := state_of_examinable hdone.1
      exact S.partsDone hu reason hstate.1 hstate.2
    · exact hu
  unfold Machine.examine
  split
  · refine onward _ ?_
    split
    · exact S.reissueParts h
    · exact h
  · exact h

/-! ## Notices (R130, R134, R140, R148) -/

theorem rewindEnded (h : P k s) (ending : PartState) : P k (rewindEnded ending s) :=
  S.examine (S.same h (·.finishPart _ _)) _

theorem endCut (h : P k s) : P k (endCut s) := by
  have hs : P k (s.updShc fun c => { c with cut := none }) := S.same h fun k => k.updShc rfl
  unfold Machine.endCut
  dsimp only
  split
  · exact S.drainCues hs
  · exact hs

theorem showFadeEnded (h : P k s) : P k (showFadeEnded s) := by
  unfold Machine.showFadeEnded
  split
  · exact S.examine (S.offerStartGoto (S.same h (·.finishPart _ _)) _) _
  · split
    · exact h
    · split
      · exact S.offerShow (S.same h fun k => k.updShc rfl) _ _ _ _
      · exact h
      · exact S.endCut h

/-- A return from EXCURSION by its own move. -/
theorem excursionEnds (h : P k s) : P k (if s.shc.state = .excursion then Machine.goRunning .notice s else s) := by
  split
  · next hstate => exact S.goRunning h _ (by simp [hstate]) (by simp [hstate])
  · exact h

theorem showMoveDone (h : P (k + 1) s) (position : Position) : P k (showMoveDone position s) := by
  unfold Machine.showMoveDone
  split
  · next hnone => exact S.popNone h hnone
  · have hs : P k (popIssued s) := S.pop h
    dsimp only
    split
    · exact S.examine (S.same hs (·.finishPart _ _)) _
    · exact S.examine (S.same hs (·.finishPart _ _)) _
    · exact S.excursionEnds hs
    · exact S.itemCheck hs _ _
    · exact S.itemCheck hs _ _
    · exact S.itemCheck hs _ _
    · refine S.itemCheck ?_ _ _
      split
      · exact hs
      · exact S.same hs fun k => (k.showFade _ _ _ _).updShc (by rfl)

theorem showMoveCancelled (h : P (k + 1) s) : P k (showMoveCancelled s) := by
  unfold Machine.showMoveCancelled
  split
  · next hnone => exact S.popNone h hnone
  · have hs : P k (popIssued s) := S.pop h
    dsimp only
    split
    · exact S.examine (S.same hs (·.finishPart _ _)) _
    · exact S.examine (S.same hs (·.finishPart _ _)) _
    · exact S.excursionEnds hs
    · exact hs
    · exact hs
    · exact hs
    · split
      · exact S.endCut hs
      · exact hs

theorem tellCancelled (m : Motion) (h : P (k + showCount [m]) s) : P k (tellCancelled s m) := by
  unfold Machine.tellCancelled
  rw [showCount_cons] at h
  split
  · next hm =>
    rw [if_pos hm] at h
    exact S.showMoveCancelled h
  · next hm =>
    rw [if_neg hm] at h
    exact h

/-- The entries that left are told of in order, each with its item. -/
theorem tellAll (l : List Motion) (h : P (k + showCount l) s) : P k (l.foldl Machine.tellCancelled s) := by
  induction l generalizing s with
  | nil => exact h
  | cons m l ih =>
    refine ih (S.tellCancelled m ?_)
    rw [showCount_cons] at h
    rw [showCount_cons, showCount_nil, Nat.add_assoc, Nat.zero_add]
    exact h

theorem returnFromHeld (h : P k s) (reason : ShowReason) : P k (returnFromHeld reason s) := by
  unfold Machine.returnFromHeld
  split
  · exact h
  · next x hheld =>
    have hs := S.resume x reason h hheld
    dsimp only
    split
    all_goals rename_i hresume
    all_goals first
      | exact hs
      | rw [hresume] at hs
    · exact S.goRunning_of hs
    · exact hs
    · exact S.examine hs _
    · exact S.examine hs _

theorem lampLit (h : P k s) : P k (lampLit s) := by
  have hs : P k (finishPart .strike .done s) := S.same h (·.finishPart _ _)
  unfold Machine.lampLit
  dsimp only
  split
  · split
    · split
      · exact S.returnFromHeld hs _
      · exact hs
    · exact hs
  · exact S.examine hs _

/-! ## Keys, requests and the hold timer -/

theorem pauseShow (h : P k s) (reason : ShowReason) (hrun : s.shc.state = .running) : P k (pauseShow reason s) := by
  have hs := S.enter .paused reason h (by simp [hrun]) (by simp [hrun]) (by decide) (by decide)
  unfold Machine.pauseShow
  dsimp only
  split
  · exact S.same hs (·.tapePauseOrder _)
  · exact hs

theorem resumePaused (h : P k s) (reason : ShowReason) (hstate : s.shc.state = .paused) : P k (resumePaused reason s) :=
  S.goRunning (S.same h fun k => k.updShc rfl) reason (by simp [hstate]) (by simp [hstate])

theorem pauseKey (h : P k s) : P k (pauseKey s) := by
  unfold Machine.pauseKey
  split
  · next hstate => exact S.pauseShow h _ hstate
  · next hstate => exact S.resumePaused h _ hstate
  all_goals exact h

theorem returnOrder (h : P k s) (reason : ShowReason) : P k (returnOrder reason s) := by
  unfold Machine.returnOrder
  split
  · next hstate =>
    split
    · exact S.offerShow (S.same h fun k => k.updShc rfl) _ _ _ _
    · exact S.goRunning h _ (by simp [hstate]) (by simp [hstate])
    · split
      · exact h
      · have hs := S.discard (fun m => m.source == Source.remote) .returned h
        have hnone : showCount (waitingOf (fun m => m.source == Source.remote) s.mq) = 0 := by
          rw [showCount, List.length_eq_zero_iff, List.filter_eq_nil_iff]
          intro m hm
          have := (List.mem_filter.1 hm).2
          cases hsource : m.source <;> simp_all
        rw [hnone] at hs
        exact S.goRunning hs _ (by simp [hstate]) (by simp [hstate])
  · exact h

theorem excursionKey (h : P k s) : P k (excursionKey s).1 := by
  unfold Machine.excursionKey
  split
  any_goals exact h
  next hrun =>
    have hs := S.enter .excursion .key h (by simp [hrun]) (by simp [hrun]) (by decide) (by decide)
    dsimp only
    split
    · exact S.same hs (·.tapePauseOrder _)
    · exact hs

theorem keyMove (h : P k s) (move : Move) : P k (keyMove move s).1 := by
  have hs := S.excursionKey h
  unfold Machine.keyMove
  dsimp only
  split
  · exact S.offer move .remote (by decide) hs
  · exact hs

theorem holdExpired (h : P k s) : P k (holdExpired s) := by
  unfold Machine.holdExpired
  split
  · split
    · next hstate => exact S.resumePaused h _ hstate
    · exact S.untimed h
    all_goals exact S.same h fun k => k.updShc rfl
  · exact h

theorem reqShowPause (h : P k s) : P k (reqShowPause s).1 := by
  unfold Machine.reqShowPause
  split
  · next hstate => exact S.pauseShow h .request hstate
  · exact S.same h fun k => k.updShc (f := fun c => { c with hold := none }) rfl
  all_goals exact h

theorem reqShowResume (h : P k s) : P k (reqShowResume s).1 := by
  unfold Machine.reqShowResume
  split
  · next hstate => exact S.resumePaused h .request hstate
  · split
    · exact S.returnFromHeld h .request
    · exact h
  · exact S.returnOrder h .request
  all_goals exact h

theorem reqMove (h : P k s) (kind arg : Nat) : P k (reqMove kind arg s).1 := by
  unfold Machine.reqMove
  split
  · exact h
  · next m clamped _ =>
    have hs := S.offer m .link (by decide) h
    dsimp only
    split <;> exact hs

theorem reqHaltMotion (h : P 0 s) : P 0 (reqHaltMotion s).1 :=
  S.tellAll _ (S.alike ((Alike.refl _).cancelActive .halt) (S.discard (fun _ => true) .halt h))

end Staged

end Sys2Proof.Proofs
end

section
/-! PROOFS. `Staged` to `Carried`: the cycle's end, a jam, STANDBY and the start of a show, from the moves that a staged
rule keeps. -/

namespace Sys2Proof.Proofs

open Sys2Proof.Machine Sys2Proof.Safety

/-! ## What a show that is STOPPED does not do -/

/-- With the show STOPPED there is no part list to examine (R131). -/
theorem examine_of_stopped {s : State} (h : s.shc.state = .stopped) (reason : ShowReason) : examine reason s = s := by
  simp [examine, Shc.examinable, h]

/-- With the show STOPPED a fault is recorded and reported, and no more (R144). -/
theorem raiseAs_of_stopped {s : State} (h : s.shc.state = .stopped) (c : FaultCode) (sv : Severity) (d : Detail) :
    raiseAs c sv d s = recordFault c sv d s := by
  unfold raiseAs showReact
  simp [h, ShowState.heedsFaults]

theorem offerShow_stopped {s : State} (h : s.shc.state = .stopped) (move : Move) (tag : Option Nat) (purpose : Purpose)
    (check : Option SlotCheck) : (offerShow move tag purpose check s).shc.state = .stopped := by
  unfold offerShow
  rcases offer_cases move .theShow tag s with ⟨q, hq, -⟩ | ⟨-, -, hfull⟩ | ⟨-, -, hjoin⟩
  · simp [mergeInto_theShow] at hq
  · rw [hfull]
    refine ((Alike.refl _).showRefused purpose).state.trans ?_
    simp only [refusedFull, raiseFault, raiseAs_of_stopped h, recordFault_frame, h]
  · rw [hjoin]
    exact h

/-- An item that a stopped show left acts on nothing (R149; log 45). -/
theorem showMoveCancelled_of_stopped {s : State} (h : s.shc.state = .stopped) :
    (showMoveCancelled s).shc.state = .stopped ∧ (showMoveCancelled s).mq = s.mq := by
  unfold showMoveCancelled
  split
  · exact ⟨h, rfl⟩
  · have hs : (popIssued s).shc.state = .stopped := h
    have hpart : ∀ part ending, (finishPart part ending (popIssued s)).shc.state = .stopped := fun _ _ => h
    dsimp only
    split
    · rw [examine_of_stopped (hpart _ _)]; exact ⟨h, rfl⟩
    · rw [examine_of_stopped (hpart _ _)]; exact ⟨h, rfl⟩
    · rw [hs]; exact ⟨h, rfl⟩
    · exact ⟨h, rfl⟩
    · exact ⟨h, rfl⟩
    · exact ⟨h, rfl⟩
    · split
      · simp [endCut, h]
      · exact ⟨h, rfl⟩

theorem tellAll_of_stopped (l : List Motion) {s : State} (h : s.shc.state = .stopped) :
    (l.foldl tellCancelled s).mq = s.mq := by
  induction l generalizing s with
  | nil => rfl
  | cons m l ih =>
    have hm : (tellCancelled s m).shc.state = .stopped ∧ (tellCancelled s m).mq = s.mq := by
      unfold tellCancelled
      split
      · exact showMoveCancelled_of_stopped h
      · exact ⟨h, rfl⟩
    exact (ih hm.1).trans hm.2

theorem showFadeEnded_stopped {s : State} (h : s.shc.state = .stopped) : (showFadeEnded s).shc.state = .stopped := by
  unfold showFadeEnded
  split
  · have hs : (offerStartGoto .loopReturn (finishPart .fade .done s)).shc.state = .stopped := by
      unfold offerStartGoto
      dsimp only
      split
      · exact h
      · exact offerShow_stopped (by exact h) _ _ _ _
    rw [examine_of_stopped hs]
    exact hs
  · split
    · exact h
    · split
      · exact offerShow_stopped (by exact h) _ _ _ _
      · exact h
      · simp [endCut, h]

theorem orderFade_stopped {s : State} (h : s.shc.state = .stopped) (target duration : Nat) (curve : Curve)
    (origin : FadeOrigin) : (orderFade target duration curve origin s).shc.state = .stopped :=
  orderFade_keeps (P := fun s => s.shc.state = .stopped) (fun k h => k.state.trans h) showFadeEnded_stopped h _ _ _ _

/-- A show stop ends STOPPED (R149). -/
theorem showStop_state (reason : StopReason) (s : State) : (showStop reason s).shc.state = .stopped := by
  simp [showStop, enterStopped]

/-- In ACTIVE no wind-down waits for a POWER fade (R206). -/
theorem takeFade_of_active {s : State} (h : s.power.mode = .active) (target duration : Nat) (curve : Curve)
    (origin : FadeOrigin) : takeFade target duration curve origin s = orderFade target duration curve origin s := by
  simp [takeFade, powerFadeEnded, h]

namespace Alike

variable {s t : State}

theorem standbyLight (h : Alike s t) : Alike s (standbyLight t) := by
  unfold Machine.standbyLight
  refine Alike.updFe ?_ _
  split
  · exact h.installResponse
  · exact Alike.installResponse (h.updRetained (by rfl))

/-- A change of the power state that depends on the supplies alone. -/
theorem updPower_congr (h : Alike s t) {f : Power → Power}
    (hf : ∀ p q : Power, (p.powered, t.pins.resetPin) = (q.powered, s.pins.resetPin) →
      ((f p).mode, (f p).powered, t.pins.resetPin) = ((f q).mode, (f q).powered, s.pins.resetPin)) :
    Alike (s.updPower f) (t.updPower f) :=
  ⟨h.mq, h.cycle, h.show', hf _ _ (congrArg Prod.snd h.awake), h.gap, h.link, h.faults⟩

end Alike

namespace Staged

variable {P : Nat → State → Prop} (S : Staged P) {k : Nat} {s : State}

include S

/-! ## The queue and the cycle -/

/-- The end of the ACTIVE entry's cycle: its item goes with it (R15, R37, R134). -/
theorem completeCycle (h : P 0 s) (c : CycleRecord) (hc : s.tgc.cycle.map entryOf = some (entryOf c)) :
    P 0 (completeCycle c s) := by
  obtain ⟨hhead, hcycle⟩ := S.finish (g := fun t => { t.stopped with phase := .ready }) c rfl h hc
  unfold Machine.completeCycle
  dsimp only
  split
  · cases hmq : s.mq with
    | nil => simpa [hmq] using hhead
    | cons m rest =>
      rw [hmq] at hhead
      simp only [State.updTgc_mq, hmq, List.head?_cons]
      exact S.tellCancelled m (S.same hhead (·.activeCancelled _ m))
  · have hs := S.same hcycle (·.raiseEvent (.changeDone c.move c.source c.tag s.retained.position s.tgc.gateLoad))
    split
    · next hshow =>
      rw [if_pos hshow] at hs
      exact S.showMoveDone hs _
    · next hshow =>
      rw [if_neg hshow] at hs
      exact hs

/-- A jam: the fault, then the entries that leave, each with its item (R19, R41, R134). -/
theorem jam (h : P 0 s) (c : FaultCode) (d : Detail) : P 0 (enterJammed (raiseFault c d s)) :=
  S.tellAll _ (S.flush (s := raiseFault c d s) (g := fun t =>
    { t.stopped with phase := .jammed, gateLoad := .unknown }) .jammed rfl (S.fault h c d))

theorem takeHead (h : P 0 s) (hrun : s.running = true) : P 0 (takeHead s) := by
  unfold Machine.takeHead
  split
  · exact h
  · next m rest hmq =>
    split
    · next hready =>
      split
      · exact S.tellCancelled m (S.same (S.leave h hmq hready.1) (·.waitingCancelled _ m))
      · exact S.same (S.activate _ h hmq hready.1 hrun) fun k => (k.openCauses _).enterClosing.entryActive _
    · exact h

/-! ## The start of a show (R129) -/

theorem showStrike (h : P k s) : P k (showStrike s) := by
  have hs : P k (requestStrike .theShow s).1 :=
    requestStrike_keeps S.alike (fun h => S.faultHeld h _ _ (by decide)) h _
  unfold Machine.showStrike
  dsimp only
  split
  · exact S.same hs (·.finishPart _ _)
  · exact hs

theorem reqShowStart (h : P k s) (slot loops : Nat) : P k (reqShowStart slot loops s).1 := by
  unfold Machine.reqShowStart
  split
  · exact h
  · split
    · exact h
    · next hstate =>
      obtain ⟨hstopped, hmode⟩ := not_or.1 hstate
      have tape : ∀ (b : Bool) u, P k u → P k (if b then showRewind u else tapeStopOrder .theShow u) := by
        intro b u hu
        split
        · exact S.same hu (·.showRewind)
        · exact S.same hu (·.tapeStopOrder _)
      have strike : ∀ (b : Bool) u, P k u → P k (if b then Machine.showStrike u else u) := by
        intro b u hu
        split
        · exact S.showStrike hu
        · exact hu
      exact strike _ _ (S.offerStartGoto (tape _ _ (S.begin _ _ _ _ h (not_not.1 hstopped) hmode)) _)

end Staged

namespace Kept

variable {P : Nat → State → Prop} (K : Kept P) {s : State}

include K

/-! ## STANDBY -/

theorem windDown (h : P 0 s) (hmode : s.power.mode = .active) : P 0 (windDown s) := by
  have onward : ∀ u, P 0 u → u.shc.state = .stopped → u.power.mode = .active →
      P 0 ((takeFade 0 1000 .smooth .power (tapeStopOrder .power u)).updPower fun p =>
        { p with mode := .windingDown, step := some .fading }) := by
    intro u hu hstate hactive
    have hstop : Alike u (tapeStopOrder .power u) := (Alike.refl u).tapeStopOrder _
    rw [takeFade_of_active (hstop.mode.trans hactive)]
    refine K.down (orderFade_keeps K.alike K.showFadeEnded (K.alike hstop hu) _ _ _ _)
      (orderFade_stopped (hstop.state.trans hstate) _ _ _ _) ?_
    simp [hactive]
  unfold Machine.windDown
  dsimp only
  split
  · next hstate => exact onward _ h hstate hmode
  · exact onward _ (K.stop _ h) (showStop_state _ _) (by simp [hmode])

theorem enterStandby (h : P 0 s) (hmode : s.power.mode = .windingDown) : P 0 (enterStandby s) := by
  unfold Machine.enterStandby setFan
  refine K.alike (Alike.updPower_congr ?_ fun _ _ hp => ?_) (K.standbyTray h hmode)
  · exact Alike.updFlt (Alike.updRrx (Alike.endHold (Alike.updTac (Alike.updCdec (Alike.updThu (Alike.updThu
      (Alike.updLtc (Alike.refl _).standbyLight _) _) _) _) _)) _) (faultRule_of_eq rfl rfl rfl rfl rfl rfl)
  · exact congrArg (PowerMode.standby, ·) hp

/-- A staged rule is carried by every command. -/
theorem carried : Carried (P 0) where
  alike := K.alike
  link := K.link
  fault c d h := K.fault h c d
  stop := K.stop
  lit := K.lampLit
  fadeEnded := K.showFadeEnded
  arrival a h := K.routeArrival h a
  tapeEnd := K.tapeEnded
  rewound ending h := K.rewindEnded h ending
  pauseKey := K.pauseKey
  back reason h := K.returnOrder h reason
  keyMove move h := K.keyMove h move
  holdEnd := K.holdExpired
  take := K.takeHead
  complete c h := K.completeCycle h c
  jam c d _ h := K.jam h c d
  move kind arg h := K.reqMove h kind arg
  halt := K.reqHaltMotion
  showStart slot loops h := K.reqShowStart h slot loops
  showPause := K.reqShowPause
  showResume := K.reqShowResume
  windDown := K.windDown
  windUp := K.windUp
  standby := K.enterStandby
  wake := K.wake
  powerOn := K.powerOn
  unpower := K.unpower
  lose := K.lose
  soft := K.soft
  pin := K.pin
  sensors := K.sensors

end Kept

end Sys2Proof.Proofs
end

section
/-! PROOFS. The stores stay within their bounds (R3, R29, R186, R187, R193, R199 to R202). -/

namespace Sys2Proof.Proofs

open Sys2Proof.Machine Sys2Proof.Safety

structure Bounded (s : State) : Prop where
  queue : queueShape s.mq = true
  gap : loadGapEmpty s = true
  link : linkBounds s.link = true
  faults : faultRule s = true

namespace Bounded

variable {s t : State}

theorem alike (k : Alike s t) (h : Bounded s) : Bounded t :=
  ⟨k.mq ▸ h.queue, k.gap h.gap, k.link h.link, k.faults h.faults⟩

/-! ## Updates that no bound looks at -/

theorem updPins (h : Bounded s) (f : Pins → Pins) : Bounded (s.updPins f) := ⟨h.queue, h.gap, h.link, h.faults⟩
theorem updPower (h : Bounded s) (f : Power → Power) : Bounded (s.updPower f) := ⟨h.queue, h.gap, h.link, h.faults⟩
theorem updTgc (h : Bounded s) (f : Tgc → Tgc) : Bounded (s.updTgc f) := ⟨h.queue, h.gap, h.link, h.faults⟩
theorem updShc (h : Bounded s) (f : Shc → Shc) : Bounded (s.updShc f) := ⟨h.queue, h.gap, h.link, h.faults⟩
theorem updFe (h : Bounded s) (f : Fe → Fe) : Bounded (s.updFe f) := ⟨h.queue, h.gap, h.link, h.faults⟩
theorem updLtc (h : Bounded s) (f : Ltc → Ltc) : Bounded (s.updLtc f) := ⟨h.queue, h.gap, h.link, h.faults⟩
theorem updThu (h : Bounded s) (f : Thu → Thu) : Bounded (s.updThu f) := ⟨h.queue, h.gap, h.link, h.faults⟩
theorem updCdec (h : Bounded s) (f : Cdec → Cdec) : Bounded (s.updCdec f) := ⟨h.queue, h.gap, h.link, h.faults⟩
theorem updTac (h : Bounded s) (f : Tac → Tac) : Bounded (s.updTac f) := ⟨h.queue, h.gap, h.link, h.faults⟩
theorem updRrx (h : Bounded s) (f : Rrx → Rrx) : Bounded (s.updRrx f) := ⟨h.queue, h.gap, h.link, h.faults⟩
theorem updFree (h : Bounded s) (f : Nat → Nat) : Bounded (s.updFree f) := ⟨h.queue, h.gap, h.link, h.faults⟩

/-! ## Updates of a store -/

theorem updMq (h : Bounded s) {f : List Motion → List Motion} (hf : queueShape (f s.mq) = true) :
    Bounded (s.updMq f) := ⟨hf, h.gap, h.link, h.faults⟩

theorem updLink (h : Bounded s) {f : Link → Link} (hf : linkBounds (f s.link) = true) : Bounded (s.updLink f) :=
  ⟨h.queue, h.gap, hf, h.faults⟩

theorem updRetained (h : Bounded s) {f : Retained → Retained} (hf : (f s.retained).map[0] = .empty) :
    Bounded (s.updRetained f) := ⟨h.queue, decide_eq_true hf, h.link, h.faults⟩

/-- An update that leaves the map. -/
theorem updRecords (h : Bounded s) {f : Retained → Retained} (hf : (f s.retained).map = s.retained.map) :
    Bounded (s.updRetained f) := alike ((Alike.refl s).updRetained hf) h

/-! ## The show -/

theorem setShow (h : Bounded s) (new : ShowState) (reason : ShowReason) : Bounded (setShow new reason s) :=
  alike ((Alike.refl _).raiseEvent _) (h.updShc _)

theorem enterStopped (h : Bounded s) (reason : StopReason) : Bounded (enterStopped reason s) :=
  alike ((Alike.refl _).tapeStopOrder _) ((h.updShc _).setShow _ _)

theorem enterHeld (h : Bounded s) (code : FaultCode) (hold : Bool) : Bounded (enterHeld code hold s) := by
  have hs := (h.setShow .held (.fault code)).updShc fun c =>
    { c with held := some ⟨hold, code, s.shc.state.resumeAs⟩ }
  unfold Machine.enterHeld
  dsimp only
  split
  · exact alike ((Alike.refl _).tapePauseOrder _) hs
  · exact hs

theorem discardWaiting (h : Bounded s) (p : Motion → Bool) (reason : CancelReason) :
    Bounded (discardWaiting p reason s) :=
  alike ((Alike.refl _).waitingAll _ _) (h.updMq (queueShape_filter _ h.queue))

theorem discardShowMoves (h : Bounded s) : Bounded (discardShowMoves s) := by
  unfold Machine.discardShowMoves
  refine updShc ?_ _
  have hs := h.discardWaiting (fun m => m.source == Source.theShow) .showStop
  split
  · split
    · exact alike ((Alike.refl _).cancelActive _) hs
    · exact hs
  · exact hs

theorem showStop (h : Bounded s) (reason : StopReason) : Bounded (showStop reason s) :=
  enterStopped (alike ((Alike.refl _).showFade _ _ _ _) (h.discardShowMoves.updShc _)) reason

/-! ## The queue -/

theorem offer (h : Bounded s) (move : Move) {source : Source} (hsource : source ≠ .theShow) :
    Bounded (offer move source none s).1 := by
  rcases offer_cases move source none s with ⟨q, hq, hoffer⟩ | ⟨-, -, hoffer⟩ | ⟨-, hroom, hoffer⟩
  · rw [hoffer]
    exact h.updMq (f := fun _ => q) (queueShape_mergeInto hq h.queue)
  · rw [hoffer]
    cases source with
    | theShow => exact absurd rfl hsource
    | remote => exact h.updRrx fun r => { r with dropped := bump16 r.dropped }
    | link => exact h
  · rw [hoffer]
    exact h.updMq (f := fun q => q ++ [⟨move, source, none, false⟩]) (queueShape_append hroom rfl h.queue)

theorem flushQueue (h : Bounded s) (reason : CancelReason) : Bounded (flushQueue reason s) :=
  alike ((Alike.refl _).flushQueue reason) (h.updMq (f := fun _ => []) queueShape_nil)

/-- The head may become ACTIVE: none behind it is (R29). -/
theorem activate (h : Bounded s) {m : Motion} {rest : List Motion} (hmq : s.mq = m :: rest) :
    Bounded (s.updMq fun _ => { m with active := true } :: rest) := by
  have hqueue := (queueShape_iff _).1 h.queue
  rw [hmq] at hqueue
  exact h.updMq ((queueShape_iff _).2 hqueue)

/-! ## Starts and supplies -/

theorem setUnknown (h : Bounded s) {c : Prop} [Decidable c] : Bounded (if c then setPosition .unknown s else s) := by
  split
  · exact alike ((Alike.refl s).setPosition _) h
  · exact h

theorem readPresence (h : Bounded s) : Bounded (readPresence s) := by
  unfold Machine.readPresence
  dsimp only
  split
  · exact h.updTgc _
  · exact alike (Alike.refl _).forgetTray (h.updTgc _)

theorem checkHome (h : Bounded s) : Bounded (checkHome s) := by
  unfold Machine.checkHome
  split
  · exact h
  · split
    · exact h
    · exact alike ((Alike.refl s).setPosition _) h

theorem dynamicStart (h : Bounded s) : Bounded (dynamicStart s) :=
  ⟨rfl, h.gap, linkBounds_start,
    faultRule_of_eq (s := State.reset) rfl rfl rfl rfl rfl rfl (by decide)⟩

theorem lampsAtReset (h : Bounded s) : Bounded (lampsAtReset s) := h.updRecords rfl

theorem tgcReset (h : Bounded s) : Bounded (tgcReset s) := h.updTgc _

theorem thuStart (h : Bounded s) (latch : Bool) (cooldown : Option Nat) : Bounded (thuStart latch cooldown s) :=
  alike (Alike.refl _).syncFan (h.updThu _)

theorem ltcRest (h : Bounded s) (sub : Nat) : Bounded (ltcRest sub s) := h.updLtc _

theorem tacReset (h : Bounded s) (counter volume : Nat) : Bounded (tacReset counter volume s) := h.updTac _

theorem runStages (h : Bounded s) : Bounded (runStages s) := alike (Alike.refl s).runStages h

theorem softReset (h : Bounded s) : Bounded (softReset s) := by
  have record : ∀ u, Bounded u → Bounded (softRecord s.justReset u) := by
    intro u hu
    unfold softRecord
    split
    · exact hu.updPower _
    · exact (hu.updFree _).updPower _
  exact (record _ ((h.setUnknown.readPresence.tgcReset.lampsAtReset.ltcRest 0).dynamicStart.tacReset _ _
    |>.thuStart _ _)).runStages

theorem coldStart (h : Bounded s) : Bounded (coldStart s) :=
  (((h.updRetained rfl).readPresence.tgcReset.ltcRest 0).dynamicStart.tacReset 0 48 |>.thuStart _ _).runStages

theorem warmStart (h : Bounded s) : Bounded (warmStart s) :=
  ((h.readPresence.checkHome.tgcReset.lampsAtReset.ltcRest 0).dynamicStart.tacReset 0 48 |>.thuStart _ _).runStages

theorem powerOn (h : Bounded s) : Bounded (powerOn s) := by
  unfold Machine.powerOn
  split
  · exact h.warmStart.updPower _
  · exact h.coldStart.updPower _

theorem unpower (h : Bounded s) : Bounded (unpower s) := by
  have hs := (h.updPower fun p => { p with powered := false }).dynamicStart.lampsAtReset
  have hsilent := alike ((Alike.refl _).updFlt (f := fun f => { f with timer := false })
    (faultRule_of_eq rfl rfl rfl rfl rfl rfl)) hs
  unfold Machine.unpower
  exact updTac (updCdec (updThu (updLtc (updFe (hsilent.updTgc _) _) _) _) _) _

/-- What a lost backup supply leaves has its load gap EMPTY (R3; log 15). -/
theorem loseRetained (h : Bounded s) : Bounded (loseRetained s) := by
  unfold Machine.loseRetained
  refine updPower (updShc (updRetained (h.updFree _) ?_) _) _
  split
  · next hok =>
    simp only [Retained.ok, Bool.and_eq_true, decide_eq_true_eq, and_assoc] at hok
    exact hok.1
  · rfl

theorem readSensors (h : Bounded s) : Bounded (readSensors s) := by
  unfold Machine.readSensors
  exact (h.readPresence.tgcReset.ltcRest 0).updTac _

theorem wakeBlocks (h : Bounded s) : Bounded (wakeBlocks s) := by
  unfold Machine.wakeBlocks
  refine runStages (alike (Alike.updFlt (.refl _) fun hf => ?_)
    (updTac (updCdec (thuStart (ltcRest (updFe (updTgc h.readPresence.checkHome _) _) _) _ _) _) _))
  rw [faultRule_iff] at hf ⊢
  exact ⟨hf.1, hf.2.1, hf.2.2.1, hf.2.2.2.1, Nat.zero_le _⟩

theorem wakeUp (h : Bounded s) : Bounded (wakeUp s) := by
  unfold Machine.wakeUp
  split
  · exact (h.wakeBlocks.updRrx _).updPower _
  · exact ((updLink h.coldStart (f := fun _ => s.link) h.link |>.updRrx _).updRrx _).updPower _

end Bounded

/-- The bounds through the queue and the show. -/
theorem bounded_staged : Staged fun _ => Bounded where
  alike := Bounded.alike
  enter _ _ h _ _ _ _ := h.setShow _ _
  held _ _ h _ := h.enterHeld _ _
  resume _ _ h _ := (h.updShc _).setShow _ _
  ended _ h _ := h.enterStopped _
  begin _ _ _ _ h _ _ := Bounded.setShow (Bounded.alike ((Alike.refl _).showFade _ _ _ _) (h.updShc _)) _ _
  untimed h := h.updShc _
  lists h _ _ _ := h.updShc _
  stop _ h := h.showStop _
  join move tag _ h hroom := Bounded.updShc (Bounded.updMq h (f := fun q => q ++ [⟨move, .theShow, tag, false⟩])
    (queueShape_append hroom rfl h.queue)) _
  offer _ _ hsource h := h.offer _ hsource
  pop h := h.updShc _
  popNone h _ := h
  discard _ _ h := h.discardWaiting _ _
  flush _ _ h := (h.updTgc _).flushQueue _
  finish _ _ h _ := ⟨Bounded.updMq (h.updTgc _) (queueShape_drop h.queue),
    Bounded.updMq (h.updTgc _) (queueShape_drop h.queue)⟩
  leave {_ _ _ rest} h hmq _ := Bounded.updMq h (f := fun _ => rest) (queueShape_drop (q := _ :: rest) (hmq ▸ h.queue))
  activate _ h hmq _ _ := (h.activate hmq).updTgc _

/-- The bounds through power states, supplies and resets. -/
theorem bounded_kept : Kept fun _ => Bounded where
  toStaged := bounded_staged
  link := .inl fun h => h.link
  down h _ _ := h.updPower _
  windUp h _ := h.updPower _
  standbyTray h _ := by
    unfold standbyTray
    exact Bounded.updPower (Bounded.updShc
      (bounded_staged.tellAll (k := 0) _ ((h.setUnknown.updTgc _).flushQueue _)) _) _
  wake h _ := h.wakeUp
  powerOn h := h.powerOn
  unpower h := h.unpower
  lose h := h.loseRetained
  soft _ h := (h.updPins _).softReset
  pin _ h _ := h.updPins _
  sensors _ h _ := (h.updPins _).readSensors

/-- Settles O57, for each command by what it moves of the stores: `bounded_kept` says what the moves of queue, show and
supplies keep, and `Kept.carried` carries it through every command. -/
theorem stepKeepsTheStoresBounded : Obligations.StepKeepsTheStoresBounded := by
  unfold Obligations.StepKeepsTheStoresBounded
  intro s t hqueue hgap hlink hfaults h
  obtain ⟨hqueue, hgap, hlink, hfaults⟩ := step_keeps (P := Bounded) (fun _ _ h => ⟨h.queue, h.gap, h.link, h.faults⟩)
    (fun i _ _ hs => bounded_kept.carried.exec hs i) ⟨hqueue, hgap, hlink, hfaults⟩ h
  exact ⟨hqueue, hgap, hlink, hfaults⟩

end Sys2Proof.Proofs
end

section
/-! PROOFS. Queue, cycle and show records stay in step (R7, R29, R30, R127, R134, R141, R144). -/

namespace Sys2Proof.Proofs

open Sys2Proof.Machine Sys2Proof.Safety

/-! ## The queue and the cycle's entry -/

/-- What a queue entry asks for, as the cycle record holds it (R7). -/
def motionEntry (m : Motion) : Move × Source × Option Nat := (m.move, m.source, m.tag)

/-- The rule of queue and cycle, by the entry that is under way. -/
def EntryMatches (e : Option (Move × Source × Option Nat)) (q : List Motion) : Prop :=
  match e with
  | none => ∀ m ∈ q, m.active = false
  | some e => ∃ m rest, q = m :: rest ∧ m.active = true ∧ motionEntry m = e

theorem cycleMatches_iff (s : State) : cycleMatches s = true ↔ EntryMatches (s.tgc.cycle.map entryOf) s.mq := by
  unfold cycleMatches EntryMatches
  cases s.tgc.cycle with
  | none => simp
  | some c =>
    cases s.mq with
    | nil => simp
    | cons m rest =>
      simp only [Bool.and_eq_true, decide_eq_true_eq, and_assoc, Option.map_some, motionEntry, entryOf]
      constructor
      · rintro ⟨hm, hmove, hsource, htag⟩
        exact ⟨m, rest, rfl, hm, by rw [hmove, hsource, htag]⟩
      · rintro ⟨x, l, hq, hx, he⟩
        injection hq with hmx
        subst hmx
        simp only [Prod.mk.injEq] at he
        exact ⟨hx, he.1.symm, he.2.1.symm, he.2.2.symm⟩

/-- An empty queue is of no cycle. -/
theorem cycle_none_of_empty {s : State} (h : EntryMatches (s.tgc.cycle.map entryOf) s.mq) (hmq : s.mq = []) :
    s.tgc.cycle = none := by
  cases hc : s.tgc.cycle with
  | none => rfl
  | some c =>
    rw [hc, hmq] at h
    obtain ⟨_, _, hnil, -⟩ := h
    cases hnil

/-- A queue with no ACTIVE entry is of no cycle. -/
theorem entryMatches_waiting {e : Option (Move × Source × Option Nat)} {m : Motion} {rest : List Motion}
    (h : EntryMatches e (m :: rest)) (hm : m.active = false) : e = none ∧ ∀ x ∈ rest, x.active = false := by
  cases e with
  | none => exact ⟨rfl, fun x hx => h x (List.mem_cons_of_mem _ hx)⟩
  | some e =>
    obtain ⟨x, l, hq, hx, -⟩ := h
    injection hq with hmx
    rw [hmx, hx] at hm
    cases hm

theorem entryMatches_append {e : Option (Move × Source × Option Nat)} {q : List Motion} {m : Motion}
    (hm : m.active = false) (h : EntryMatches e q) : EntryMatches e (q ++ [m]) := by
  cases e with
  | none =>
    intro x hx
    rcases List.mem_append.1 hx with hx | hx
    · exact h x hx
    · exact List.mem_singleton.1 hx ▸ hm
  | some e =>
    obtain ⟨x, rest, rfl, hx, he⟩ := h
    exact ⟨x, rest ++ [m], rfl, hx, he⟩

/-- The entries that leave a queue while they wait leave the ACTIVE head where it is. -/
theorem entryMatches_discard {e : Option (Move × Source × Option Nat)} {q : List Motion} (p : Motion → Bool)
    (h : EntryMatches e q) : EntryMatches e (q.filter fun m => !(!m.active && p m)) := by
  cases e with
  | none => exact fun x hx => h x (List.mem_filter.1 hx).1
  | some e =>
    obtain ⟨m, rest, rfl, hm, he⟩ := h
    exact ⟨m, _, List.filter_cons_of_pos (by simp [hm]), hm, he⟩

theorem entryMatches_mergeInto {e : Option (Move × Source × Option Nat)} {move : Move} {source : Source}
    {l q : List Motion} (hq : mergeInto move source l = some q) (h : EntryMatches e l) : EntryMatches e q := by
  obtain ⟨hmap, hhead⟩ := mergeInto_map move source l q hq
  cases e with
  | none =>
    intro m hm
    have hmem : (m.active, m.source) ∈ l.map fun m => (m.active, m.source) :=
      hmap ▸ List.mem_map_of_mem (f := fun m => (m.active, m.source)) hm
    obtain ⟨x, hx, hxm⟩ := List.mem_map.1 hmem
    exact (congrArg Prod.fst hxm).symm.trans (h x hx)
  | some e =>
    obtain ⟨m, rest, rfl, hm, he⟩ := h
    obtain ⟨l, rfl⟩ := List.head?_eq_some_iff.1 (hhead m rfl hm)
    exact ⟨m, l, rfl, hm, he⟩

/-! ## The show's entries -/

theorem showCount_append (l q : List Motion) : showCount (l ++ q) = showCount l + showCount q := by
  simp [showCount]

/-- The entries of the show's are those that leave and those that stay. -/
theorem showCount_discard (p : Motion → Bool) (q : List Motion) :
    showCount (q.filter fun m => !(!m.active && p m)) + showCount (waitingOf p q) = showCount q := by
  rw [← showCount_append, showCount, showCount]
  refine ((List.Perm.filter _ ?_).length_eq)
  exact (List.perm_append_comm.trans (List.filter_append_perm (fun m : Motion => !m.active && p m) q))

theorem showCount_mergeInto {move : Move} {source : Source} {l q : List Motion}
    (hq : mergeInto move source l = some q) : showCount q = showCount l := by
  have count : ∀ l : List Motion, showCount l =
      ((l.map fun m => (m.active, m.source)).filter fun x => x.2 == .theShow).length := fun l => by
    rw [showCount, List.filter_map, List.length_map]
    rfl
  rw [count, count, (mergeInto_map move source l q hq).1]

/-! ## The show record -/

/-- HELD has a record, of a state that it can return to, and no other state has one (R144). -/
def heldRule (c : Shc) : Bool :=
  match c.held with
  | none => c.state != .held
  | some h => c.state == .held && h.resume.heedsFaults && h.resume != .excursion

/-- STOPPED has a reason, and no other state has one (R127). -/
def reasonRule (c : Shc) : Bool := c.stopReason.isSome == (c.state == .stopped)

/-- A state other than HELD has no record to return by. -/
theorem held_none {c : Shc} (h : heldRule c = true) (hstate : c.state ≠ .held) : c.held = none := by
  unfold heldRule at h
  split at h
  · next hnone => exact hnone
  · simp [hstate] at h

theorem state_of_held {c : Shc} {x : HeldRecord} (h : heldRule c = true) (hheld : c.held = some x) :
    c.state = .held ∧ x.resume.heedsFaults = true ∧ x.resume ≠ .excursion := by
  simpa [heldRule, hheld, and_assoc] using h

/-- A show that runs, waits or is held has no reason to be STOPPED by (R127). -/
theorem stopReason_none {c : Shc} (h : reasonRule c = true) (hstate : c.state ≠ .stopped) : c.stopReason = none := by
  have hnone : c.stopReason.isSome = false := by
    simpa [reasonRule, beq_eq_false_iff_ne.2 hstate] using h
  simpa using hnone

theorem showRule_iff (s : State) : showRule s = true ↔
    s.shc.cues.length ≤ 4 ∧ s.shc.issued.length = showCount s.mq ∧ heldRule s.shc = true ∧ reasonRule s.shc = true := by
  simp only [showRule, heldRule, reasonRule, showCount, Bool.and_eq_true, decide_eq_true_eq, and_assoc] <;>
    rfl

/-- Queue, cycle and show in step, with `k` items of entries that have left still to be taken. -/
structure InStep (k : Nat) (s : State) : Prop where
  queue : queueShape s.mq = true
  cycle : EntryMatches (s.tgc.cycle.map entryOf) s.mq
  cues : s.shc.cues.length ≤ 4
  items : s.shc.issued.length = showCount s.mq + k
  held : heldRule s.shc = true
  reason : reasonRule s.shc = true
  wind : s.power.mode = .windingDown → s.shc.state = .stopped
  asleep : s.running = false → s.tgc.cycle = none

namespace InStep

variable {k : Nat} {s t : State}

theorem alike (a : Alike s t) (h : InStep k s) : InStep k t := by
  have hview := a.show'
  simp only [showView, Prod.mk.injEq] at hview
  obtain ⟨hstate, hreason, hcues, hissued, hheld⟩ := hview
  refine ⟨a.mq ▸ h.queue, ?_, hcues ▸ h.cues, ?_, ?_, ?_, ?_, fun hr => ?_⟩
  · rw [a.mq, a.cycle]; exact h.cycle
  · rw [hissued, a.mq]; exact h.items
  · rw [heldRule, hheld, hstate]; exact h.held
  · rw [reasonRule, hreason, hstate]; exact h.reason
  · rw [a.mode, hstate]; exact h.wind
  · have hcycle := a.cycle
    rw [h.asleep (a.running ▸ hr)] at hcycle
    exact Option.map_eq_none_iff.1 hcycle

/-! ## Updates of the parts -/

/-- A queue with the show's entries told of. -/
theorem updMq (h : InStep k s) {f : List Motion → List Motion} {n : Nat} (hqueue : queueShape (f s.mq) = true)
    (hcycle : EntryMatches (s.tgc.cycle.map entryOf) (f s.mq)) (hitems : showCount s.mq + k = showCount (f s.mq) + n) :
    InStep n (s.updMq f) :=
  ⟨hqueue, hcycle, h.cues, h.items.trans hitems, h.held, h.reason, h.wind, h.asleep⟩

/-- A change of the show's records that ends as its rules ask. -/
theorem reshow (h : InStep k s) {n : Nat} (hmq : t.mq = s.mq) (hcycle : t.tgc.cycle = s.tgc.cycle)
    (hawake : powerView t = powerView s) (hcues : t.shc.cues.length ≤ 4)
    (hitems : t.shc.issued.length = showCount s.mq + n) (hheld : heldRule t.shc = true)
    (hreason : reasonRule t.shc = true) (hwind : s.power.mode = .windingDown → t.shc.state = .stopped) :
    InStep n t := by
  have a : Alike s { t with shc := s.shc, retained := s.retained, link := s.link, flt := s.flt } :=
    ⟨hmq, by rw [hcycle], rfl, hawake, id, id, id⟩
  have hs := alike a h
  exact ⟨hs.queue, hs.cycle, hcues, hmq ▸ hitems, hheld, hreason, a.mode ▸ hwind, hs.asleep⟩

theorem updShc (h : InStep k s) {f : Shc → Shc} {n : Nat} (hcues : (f s.shc).cues.length ≤ 4)
    (hitems : (f s.shc).issued.length = showCount s.mq + n) (hheld : heldRule (f s.shc) = true)
    (hreason : reasonRule (f s.shc) = true) (hwind : s.power.mode = .windingDown → (f s.shc).state = .stopped) :
    InStep n (s.updShc f) :=
  h.reshow rfl rfl rfl hcues hitems hheld hreason hwind

/-- A change that leaves state, reason and record. -/
theorem lists (h : InStep k s) {f : Shc → Shc} {n : Nat}
    (hf : ((f s.shc).state, (f s.shc).stopReason, (f s.shc).held) = (s.shc.state, s.shc.stopReason, s.shc.held))
    (hissued : (f s.shc).issued.length = showCount s.mq + n) (hcues : (f s.shc).cues.length ≤ 4) :
    InStep n (s.updShc f) := by
  simp only [Prod.mk.injEq] at hf
  obtain ⟨hstate, hreason, hheld⟩ := hf
  refine h.updShc hcues hissued ?_ ?_ fun hmode => hstate.trans (h.wind hmode)
  · rw [heldRule, hheld, hstate]; exact h.held
  · rw [reasonRule, hreason, hstate]; exact h.reason

theorem awake (h : InStep k s) (hstate : s.shc.state ≠ .stopped) : s.power.mode ≠ .windingDown :=
  fun hmode => hstate (h.wind hmode)

/-! ## The show -/

theorem enter (h : InStep k s) (new : ShowState) (reason : ShowReason) (hstopped : s.shc.state ≠ .stopped)
    (hheld : s.shc.state ≠ .held) (hnew : new ≠ .stopped) (hnew' : new ≠ .held) : InStep k (setShow new reason s) := by
  refine h.reshow (by simp) (by simp) (by simp [powerView]) ?_ ?_ ?_ ?_ fun hmode => absurd hmode (h.awake hstopped)
  · simpa using h.cues
  · simpa using h.items
  · simp [heldRule, held_none h.held hheld, hnew']
  · simp [reasonRule, stopReason_none h.reason hstopped, hnew]

theorem enterHeld (h : InStep k s) (code : FaultCode) (hold : Bool) (hheeds : s.shc.state.heedsFaults = true) :
    InStep k (enterHeld code hold s) := by
  have hstopped : s.shc.state ≠ .stopped := fun hs => by simp [hs, ShowState.heedsFaults] at hheeds
  have hresume : s.shc.state.resumeAs.heedsFaults = true ∧ s.shc.state.resumeAs ≠ .excursion := by
    revert hheeds
    cases s.shc.state <;> decide
  have hs : InStep k ((setShow .held (.fault code) s).updShc fun c =>
      { c with held := some ⟨hold, code, s.shc.state.resumeAs⟩ }) := by
    refine h.reshow (by simp) (by simp) (by simp [powerView]) ?_ ?_ ?_ ?_ fun hmode => absurd hmode (h.awake hstopped)
    · simpa using h.cues
    · simpa using h.items
    · simp [heldRule, hresume]
    · simp [reasonRule, stopReason_none h.reason hstopped]
  unfold Machine.enterHeld
  dsimp only
  split
  · exact alike ((Alike.refl _).tapePauseOrder _) hs
  · exact hs

theorem resume (h : InStep k s) (x : HeldRecord) (reason : ShowReason) (hx : s.shc.held = some x) :
    InStep k (setShow x.resume reason (s.updShc fun c => { c with held := none })) := by
  obtain ⟨hstate, hheeds, -⟩ := state_of_held h.held hx
  have hstopped : s.shc.state ≠ .stopped := by simp [hstate]
  have hresume : x.resume ≠ .held ∧ x.resume ≠ .stopped := by
    revert hheeds
    cases x.resume <;> decide
  refine h.reshow (by simp) (by simp) (by simp [powerView]) ?_ ?_ ?_ ?_ fun hmode => absurd hmode (h.awake hstopped)
  · simpa using h.cues
  · simpa using h.items
  · simp [heldRule, hresume.1]
  · simp [reasonRule, stopReason_none h.reason hstopped, hresume.2]

/-- A show that stops keeps no record of a HELD. -/
theorem enterStopped (reason : StopReason) (h : InStep k s) (hheld : s.shc.state ≠ .held) :
    InStep k (enterStopped reason s) := by
  refine alike ((Alike.refl _).tapeStopOrder _)
    (h.reshow (by simp) (by simp) (by simp [powerView]) ?_ ?_ ?_ ?_ fun _ => by simp)
  · simpa using h.cues
  · simpa using h.items
  · simp [heldRule, held_none h.held hheld]
  · simp [reasonRule]

theorem begin (h : InStep k s) (slot : Slot) (loops : Nat) (rewind strike : Bool) (hstate : s.shc.state = .stopped)
    (hmode : s.power.mode ≠ .windingDown) :
    InStep k (setShow .starting .request (showFade 0 0 .linear none
      (s.updShc (Shc.startOf slot loops rewind strike)))) := by
  refine h.reshow (by simp) (by simp) (by simp [powerView]) ?_ ?_ ?_ ?_ fun hdown => absurd hdown hmode
  · simp [Shc.startOf]
  · simpa [Shc.startOf] using h.items
  · simp [heldRule, Shc.startOf, held_none h.held (by simp [hstate])]
  · simp [reasonRule, Shc.startOf]

/-- A hold timer that ends in HELD leaves RUNNING to return to (log 11). -/
theorem untimed (h : InStep k s) : InStep k (s.updShc fun c =>
    { c with hold := none, held := c.held.map fun h => { h with resume := .running } }) := by
  refine h.updShc h.cues h.items ?_ h.reason h.wind
  cases hheld : s.shc.held with
  | none => simpa [heldRule, hheld] using h.held
  | some x => simp [heldRule, (state_of_held h.held hheld).1]; decide

/-! ## The queue -/

theorem discardWaiting (h : InStep k s) (p : Motion → Bool) (reason : CancelReason) :
    InStep (k + showCount (waitingOf p s.mq)) (discardWaiting p reason s) := by
  refine alike ((Alike.refl _).waitingAll _ _) (h.updMq (queueShape_filter _ h.queue)
    (entryMatches_discard p h.cycle) ?_)
  have hcount := showCount_discard p s.mq
  omega

/-- Of the issued-move list there remain the items of the entries that stay (R134). -/
theorem discardShowMoves (h : InStep 0 s) : InStep 0 (discardShowMoves s) := by
  unfold Machine.discardShowMoves
  have hs := h.discardWaiting (fun m => m.source == Source.theShow) .showStop
  generalize Machine.discardWaiting (fun m => m.source == Source.theShow) .showStop s = u at hs ⊢
  have hcancel : ∀ v, InStep (0 + showCount (waitingOf (fun m => m.source == Source.theShow) s.mq)) v →
      InStep 0 (v.updShc fun c =>
        { c with issued := c.issued.take (v.mq.filter fun m => m.source == Source.theShow).length }) := by
    intro v hv
    refine hv.lists rfl ?_ hv.cues
    have hitems := hv.items
    simp only [List.length_take]
    rw [hitems, ← showCount]
    omega
  refine hcancel _ ?_
  split
  · split
    · exact alike ((Alike.refl _).cancelActive _) hs
    · exact hs
  · exact hs

theorem showStop (h : InStep 0 s) (reason : StopReason) : InStep 0 (showStop reason s) := by
  have hs := h.discardShowMoves
  refine alike ((Alike.refl _).tapeStopOrder _)
    (hs.reshow (by simp) (by simp) (by simp [powerView]) ?_ ?_ ?_ ?_ fun _ => by simp)
  · simp
  · simpa using hs.items
  · simp [heldRule]
  · simp [reasonRule]

theorem join (h : InStep k s) (move : Move) (tag : Option Nat) (i : Issued) (hroom : s.mq.length < 8) :
    InStep k ((s.updMq fun q => q ++ [⟨move, .theShow, tag, false⟩]).updShc fun c =>
      { c with issued := c.issued ++ [i] }) := by
  have hitems := h.items
  refine ⟨queueShape_append hroom rfl h.queue, entryMatches_append rfl h.cycle, h.cues, ?_, h.held, h.reason, h.wind,
    h.asleep⟩
  have hcount : showCount (s.mq ++ [⟨move, .theShow, tag, false⟩]) = showCount s.mq + 1 := by
    simp [showCount_append, showCount_cons]
  simp only [State.updShc_shc, State.updShc_mq, State.updMq_mq, State.updMq_shc, hcount, List.length_append,
    List.length_singleton]
  omega

theorem offer (h : InStep k s) (move : Move) {source : Source} (hsource : source ≠ .theShow) :
    InStep k (offer move source none s).1 := by
  rcases offer_cases move source none s with ⟨q, hq, hoffer⟩ | ⟨-, -, hoffer⟩ | ⟨-, hroom, hoffer⟩
  · rw [hoffer]
    exact h.updMq (f := fun _ => q) (queueShape_mergeInto hq h.queue) (entryMatches_mergeInto hq h.cycle)
      (by rw [showCount_mergeInto hq])
  · rw [hoffer]
    cases source with
    | theShow => exact absurd rfl hsource
    | remote => exact alike ((Alike.refl s).updRrx fun r => { r with dropped := bump16 r.dropped }) h
    | link => exact h
  · rw [hoffer]
    refine h.updMq (f := fun q => q ++ [⟨move, source, none, false⟩]) (queueShape_append hroom rfl h.queue)
      (entryMatches_append rfl h.cycle) ?_
    simp [showCount_append, showCount_cons, hsource]

theorem popIssued (h : InStep (k + 1) s) : InStep k (popIssued s) := by
  refine h.lists rfl ?_ h.cues
  have hitems := h.items
  simp only [List.length_drop]
  omega

/-- An entry has its item (R134): the issued-move list is not empty when one has left. -/
theorem item_of_left (h : InStep (k + 1) s) : s.shc.issued.head? ≠ none := fun hnone => by
  have hitems := h.items
  rw [List.head?_eq_none_iff.1 hnone] at hitems
  simp at hitems

theorem flush (h : InStep k s) {g : Tgc → Tgc} (reason : CancelReason) (hg : (g s.tgc).cycle = none) :
    InStep (k + showCount s.mq) (flushQueue reason (s.updTgc g)) := by
  have hitems := h.items
  refine alike ((Alike.refl _).flushQueue reason) ⟨queueShape_nil, ?_, h.cues, ?_, h.held, h.reason,
    h.wind, fun _ => hg⟩
  · simp [hg, EntryMatches]
  · simp only [State.updMq_shc, State.updTgc_shc, State.updMq_mq, showCount_nil]
    omega

/-- The ACTIVE entry leaves with its cycle (R15). -/
theorem finish (h : InStep k s) {g : Tgc → Tgc} (c : CycleRecord) (hg : (g s.tgc).cycle = none)
    (hc : s.tgc.cycle.map entryOf = some (entryOf c)) :
    InStep (k + showCount (s.mq.take 1)) ((s.updTgc g).updMq fun q => q.drop 1) ∧
      InStep (k + if c.source = .theShow then 1 else 0) ((s.updTgc g).updMq fun q => q.drop 1) := by
  have hentry := h.cycle
  rw [hc] at hentry
  obtain ⟨m, rest, hmq, -, hm⟩ := hentry
  have hwait : ∀ x ∈ rest, x.active = false := by simpa [hmq] using ((queueShape_iff _).1 h.queue).2
  have hsource : m.source = c.source := congrArg (·.2.1) hm
  have hs : InStep (k + if m.source = .theShow then 1 else 0) ((s.updTgc g).updMq fun q => q.drop 1) := by
    have hitems := h.items
    rw [hmq, showCount_cons] at hitems
    refine ⟨queueShape_drop h.queue, ?_, h.cues, ?_, h.held, h.reason, h.wind, fun _ => hg⟩
    · simpa [hg, hmq, EntryMatches] using hwait
    · simp only [State.updMq_shc, State.updTgc_shc, State.updMq_mq, State.updTgc_mq, hmq, List.drop_one, List.tail_cons]
      omega
  exact ⟨by simpa [hmq, showCount_cons] using hs, hsource ▸ hs⟩

theorem leave (h : InStep k s) {m : Motion} {rest : List Motion} (hmq : s.mq = m :: rest) (hm : m.active = false) :
    InStep (k + showCount [m]) (s.updMq fun _ => rest) := by
  have hcycle := h.cycle
  rw [hmq] at hcycle
  obtain ⟨hnone, hwait⟩ := entryMatches_waiting hcycle hm
  refine h.updMq (f := fun _ => rest) (queueShape_drop (q := m :: rest) (hmq ▸ h.queue)) ?_ ?_
  · rw [hnone]
    exact hwait
  · rw [hmq, showCount_cons, showCount_cons, showCount_nil]
    omega

theorem activate (h : InStep k s) {m : Motion} {rest : List Motion} (home : Bool) (hmq : s.mq = m :: rest)
    (hrun : s.running = true) :
    InStep k ((s.updMq fun _ => { m with active := true } :: rest).updTgc fun t =>
      { t with cycle := some (CycleRecord.start m home) }) := by
  have hqueue := (queueShape_iff _).1 h.queue
  have hitems := h.items
  rw [hmq] at hqueue hitems
  refine ⟨(queueShape_iff _).2 hqueue, ⟨{ m with active := true }, rest, rfl, rfl, rfl⟩, h.cues, ?_, h.held, h.reason,
    h.wind, fun hr => ?_⟩
  · simpa [showCount_cons] using hitems
  · exact absurd (hrun.symm.trans hr) (by decide)

end InStep

/-- The records in step through the queue and the show. -/
theorem inStep_staged : Staged InStep where
  alike := InStep.alike
  enter new reason h hstopped hheld hnew hnew' := h.enter new reason hstopped hheld hnew hnew'
  held code hold h hheeds := h.enterHeld code hold hheeds
  resume x reason h hx := h.resume x reason hx
  ended reason h hheld := h.enterStopped reason hheld
  begin slot loops rewind strike h hstate hmode := h.begin slot loops rewind strike hstate hmode
  untimed h := h.untimed
  lists h hview hissued hcues := h.lists hview (hissued.trans h.items) (hcues h.cues)
  stop reason h := h.showStop reason
  join move tag i h hroom := h.join move tag i hroom
  offer move _ hsource h := h.offer move hsource
  pop h := h.popIssued
  popNone h hnone := absurd hnone h.item_of_left
  discard p reason h := h.discardWaiting p reason
  flush reason hg h := h.flush reason hg
  finish c hg h hc := h.finish c hg hc
  leave h hmq hm := h.leave hmq hm
  activate home h hmq _ hrun := h.activate home hmq hrun

/-! ## Starts and supplies -/

@[simp] theorem dynamicStart_mq (s : State) : (dynamicStart s).mq = [] := rfl

@[simp] theorem dynamicStart_shc (s : State) : (dynamicStart s).shc = Shc.start := rfl

@[simp] theorem tgcReset_cycle (s : State) : (tgcReset s).tgc.cycle = none := rfl

namespace InStep

variable {s t : State}

/-- What a start leaves: an empty queue, no cycle and a show STOPPED by the reset. -/
theorem of_start (hmq : t.mq = []) (hshc : t.shc = Shc.start) (hcycle : t.tgc.cycle = none) : InStep 0 t := by
  refine ⟨hmq ▸ rfl, ?_, ?_, ?_, ?_, ?_, fun _ => ?_, fun _ => hcycle⟩
  · simp [hmq, hcycle, EntryMatches]
  all_goals simp [hmq, hshc, Shc.start, heldRule, reasonRule]

/-- With no cycle, queue and show alone are looked at. -/
theorem rested (h : InStep 0 s) (hrun : s.running = false) (hmq : t.mq = s.mq) (hshc : t.shc = s.shc)
    (hcycle : t.tgc.cycle = none) (hmode : t.power.mode = .windingDown → s.power.mode = .windingDown) :
    InStep 0 t := by
  have hentry := h.cycle
  rw [h.asleep hrun] at hentry
  refine ⟨hmq ▸ h.queue, ?_, hshc ▸ h.cues, ?_, hshc ▸ h.held, hshc ▸ h.reason, ?_, fun _ => hcycle⟩
  · rw [hmq, hcycle]
    exact hentry
  · rw [hmq, hshc]
    exact h.items
  · rw [hshc]
    exact h.wind ∘ hmode

theorem updPower (h : InStep 0 s) {f : Power → Power}
    (hwind : (f s.power).mode = .windingDown → s.shc.state = .stopped)
    (hasleep : (s.updPower f).running = false → s.tgc.cycle = none) : InStep 0 (s.updPower f) :=
  ⟨h.queue, h.cycle, h.cues, h.items, h.held, h.reason, hwind, hasleep⟩

theorem softReset (s : State) : InStep 0 (softReset s) :=
  of_start (by simp [Machine.softReset]) (by simp [Machine.softReset]) (by simp [Machine.softReset])

theorem powerOn (s : State) : InStep 0 (powerOn s) := by
  unfold Machine.powerOn
  split
  · exact of_start (by simp [warmStart]) (by simp [warmStart]) (by simp [warmStart])
  · exact of_start (by simp [Machine.coldStart]) (by simp [Machine.coldStart]) (by simp [Machine.coldStart])

theorem unpower (s : State) : InStep 0 (unpower s) :=
  of_start (by simp [Machine.unpower]) (by simp [Machine.unpower]) (by simp [Machine.unpower, Tgc.stopped])

theorem loseRetained (h : InStep 0 s) : InStep 0 (loseRetained s) := by
  have hs : InStep 0 ((s.updFree (· + 1)).updRetained fun _ =>
      if (Config.freeRetained s.free).ok then Config.freeRetained s.free else Retained.cold) :=
    ⟨h.queue, h.cycle, h.cues, h.items, h.held, h.reason, h.wind, h.asleep⟩
  unfold Machine.loseRetained
  exact alike (Alike.updPower (Alike.refl _) rfl) (hs.lists rfl hs.items hs.cues)

theorem wakeUp (h : InStep 0 s) (hmode : s.power.mode = .standby) : InStep 0 (wakeUp s) := by
  have hrun : s.running = false := by simp [State.running, hmode]
  unfold Machine.wakeUp
  split
  · exact h.rested hrun (by simp [wakeBlocks]) (by simp [wakeBlocks]) (by simp [wakeBlocks, Tgc.stopped])
      (by simp [startRecord])
  · exact of_start (by simp [Machine.coldStart]) (by simp [Machine.coldStart]) (by simp [Machine.coldStart])

/-- STANDBY empties the queue; the show is STOPPED by then, so nothing joins it again (R206). -/
theorem standbyTray (h : InStep 0 s) (hmode : s.power.mode = .windingDown) :
    InStep 0 ((standbyTray s).updPower fun p => { p with mode := .standby, step := none, signature := .agrees }) := by
  unfold Machine.standbyTray
  dsimp only
  generalize (s.tgc.cycle.isSome && (s.tgc.phase == .indexing || s.tgc.phase == .homing)) = turning
  have hu : Alike s (if turning = true then setPosition .unknown s else s) := by
    split
    · exact (Alike.refl s).setPosition _
    · exact .refl s
  generalize (if turning = true then setPosition .unknown s else s) = u at hu ⊢
  rw [State.updTgc_mq]
  have hflush := (alike hu h).flush (g := fun t => t.stopped) .standby rfl
  have hempty := (Alike.refl ((u.updTgc fun t => t.stopped).updMq fun _ => [])).flushQueue
    (t := u.updTgc fun t => t.stopped) .standby
  have hstopped : (flushQueue .standby (u.updTgc fun t => t.stopped)).shc.state = .stopped :=
    hempty.state.trans (hu.state.trans (h.wind hmode))
  have hall := inStep_staged.tellAll u.mq hflush
  have hmq : (u.mq.foldl tellCancelled (flushQueue .standby (u.updTgc fun t => t.stopped))).mq = [] :=
    (tellAll_of_stopped _ hstopped).trans hempty.mq
  have hcycle := hall.cycle
  generalize u.mq.foldl tellCancelled (flushQueue .standby (u.updTgc fun t => t.stopped)) = v at hall hmq hcycle
  have hlist : InStep 0 (v.updShc fun c => { c with issued := [] }) :=
    hall.lists rfl (by simp [hmq]) hall.cues
  refine hlist.updPower (f := fun p => { p with mode := .standby, step := none, signature := .agrees })
    (fun hdown => by cases hdown) fun _ => ?_
  exact cycle_none_of_empty hcycle hmq

end InStep

/-- The records in step through power states, supplies and resets. -/
theorem inStep_kept : Kept InStep where
  toStaged := inStep_staged
  link := .inr fun _ h => ⟨h.queue, h.cycle, h.cues, h.items, h.held, h.reason, h.wind, h.asleep⟩
  down h hstate hmode := h.updPower (fun _ => hstate) fun hrun =>
    h.asleep (by simpa [State.running, State.live, hmode] using hrun)
  windUp h hmode := h.updPower (fun hdown => by cases hdown) fun hrun =>
    h.asleep (by simpa [State.running, State.live, hmode] using hrun)
  standbyTray h hmode := h.standbyTray hmode
  wake h hmode := h.wakeUp hmode
  powerOn _ := .powerOn _
  unpower _ := .unpower _
  lose h := h.loseRetained
  soft _ _ := .softReset _
  pin _ h hrun := h.rested hrun rfl rfl (h.asleep hrun) id
  sensors _ h hrun := h.rested hrun (by simp [readSensors]) (by simp [readSensors]) (by simp [readSensors])
    (by simp [readSensors])

/-- Settles O52, for each command by what it moves of queue, cycle and show: an entry that leaves takes
the show's item with it in the same command, so that `InStep 0` stands at its end. -/
theorem stepKeepsQueueAndShowInStep : Obligations.StepKeepsQueueAndShowInStep := by
  unfold Obligations.StepKeepsQueueAndShowInStep
  intro s t hqueue hcycle hshow hrest hwind h
  have hs : InStep 0 s := by
    obtain ⟨hcues, hitems, hheld, hreason⟩ := (showRule_iff s).1 hshow
    have hentry := (cycleMatches_iff s).1 hcycle
    refine ⟨hqueue, hentry, hcues, hitems, hheld, hreason, fun hmode => ?_, fun hrun => ?_⟩
    · simp only [windRule, hmode, bne_self_eq_false, Bool.false_or, Bool.and_eq_true, beq_iff_eq] at hwind
      obtain ⟨⟨-, ⟨hstopped, -⟩, -⟩, -⟩ := hwind
      exact hstopped
    · simp only [restRule, hrun, Bool.false_or, Bool.and_eq_true, List.isEmpty_iff] at hrest
      obtain ⟨⟨⟨⟨-, hempty⟩, -⟩, -⟩, -⟩ := hrest
      exact cycle_none_of_empty hentry hempty
  have ht : InStep 0 t := step_keeps (P := InStep 0)
    (fun _ _ h => ⟨h.queue, h.cycle, h.cues, h.items, h.held, h.reason, h.wind, h.asleep⟩)
    (fun i _ _ hs => inStep_kept.carried.exec hs i) hs h
  exact ⟨ht.queue, (cycleMatches_iff t).2 ht.cycle, (showRule_iff t).2 ⟨ht.cues, ht.items, ht.held, ht.reason⟩⟩

end Sys2Proof.Proofs
end

section
/-! PROOFS. Frames: what an update leaves, update by update, and the end of a step (R5, R201, R202). -/

namespace Sys2Proof.Safety.onlyChanges

open Sys2Proof.Machine

variable {l : List Area} {s t u : State}

theorem refl (s : State) : onlyChanges l s s := fun p _ => by cases p <;> simp [Area.same]

theorem trans (h : onlyChanges l s t) (k : onlyChanges l t u) : onlyChanges l s u := by
  intro p hp
  have hst := h p hp
  have htu := k p hp
  cases p
  case tgc =>
    simp only [Area.same, beq_iff_eq] at hst htu ⊢
    exact (congrArg (fun g : Tgc => { g with shutter := s.tgc.shutter }) htu).trans hst
  case fe =>
    simp only [Area.same, beq_iff_eq] at hst htu ⊢
    exact (congrArg (fun f : Fe => { f with dimmer := s.fe.dimmer }) htu).trans hst
  case ltc =>
    simp only [Area.same, beq_iff_eq] at hst htu ⊢
    exact (congrArg (fun t : Ltc => { t with watch := s.ltc.watch }) htu).trans hst
  all_goals
    simp only [Area.same, Bool.and_eq_true, beq_iff_eq] at hst htu ⊢
    simp only [hst, htu, and_self]

theorem mono {m : List Area} (h : onlyChanges m s t) (hm : ∀ p ∈ m, p ∈ l := by decide) : onlyChanges l s t :=
  fun p hp => h p fun hpm => hp (hm p hpm)

/-- A change of one area. -/
theorem single {a : Area} (h : onlyChanges [a] s t) (ha : a ∈ l := by decide) : onlyChanges l s t :=
  h.mono fun p hp => by rw [List.mem_singleton.1 hp]; exact ha

/-! ## What a frame says of the areas that it does not list -/

theorem power (h : onlyChanges l s t) (hl : .power ∉ l := by decide) : t.power = s.power := by
  simpa [Area.same] using h .power hl

theorem shutter (h : onlyChanges l s t) (hl : .shutter ∉ l := by decide) : t.tgc.shutter = s.tgc.shutter := by
  simpa [Area.same] using h .shutter hl

/-- The link is what its three areas hold. -/
theorem link (h : onlyChanges l s t) (hin : .linkIn ∉ l := by decide) (hout : .linkOut ∉ l := by decide)
    (herr : .linkErrors ∉ l := by decide) : t.link = s.link := by
  have h1 := h .linkIn hin
  have h2 := h .linkOut hout
  have h3 := h .linkErrors herr
  simp only [Area.same, Bool.and_eq_true, beq_iff_eq] at h1 h2 h3
  obtain ⟨⟨⟨hrx, hholding⟩, howed⟩, hreset⟩ := h1
  obtain ⟨⟨⟨⟨⟨hpath, hanswer⟩, htx⟩, hreports⟩, hlost⟩, hcount⟩ := h2
  obtain ⟨⟨⟨hframing, hgaps⟩, hchecks⟩, hoverruns⟩ := h3
  cases ht : t.link
  cases hs : s.link
  simp_all

/-! ## One update after another -/

theorem updPins (h : onlyChanges l s t) (f : Pins → Pins) (hl : .pins ∈ l := by decide) :
    onlyChanges l s (t.updPins f) :=
  h.trans (single (a := .pins) (fun p hp => by cases p <;> simp_all [Area.same]) hl)

theorem updTgc (h : onlyChanges l s t) {f : Tgc → Tgc} (hf : (f t.tgc).shutter = t.tgc.shutter)
    (hl : .tgc ∈ l := by decide) : onlyChanges l s (t.updTgc f) :=
  h.trans (single (a := .tgc) (fun p hp => by cases p <;> simp_all [Area.same]) hl)

theorem updMq (h : onlyChanges l s t) (f : List Motion → List Motion) (hl : .mq ∈ l := by decide) :
    onlyChanges l s (t.updMq f) :=
  h.trans (single (a := .mq) (fun p hp => by cases p <;> simp_all [Area.same]) hl)

theorem updShc (h : onlyChanges l s t) (f : Shc → Shc) (hl : .shc ∈ l := by decide) : onlyChanges l s (t.updShc f) :=
  h.trans (single (a := .shc) (fun p hp => by cases p <;> simp_all [Area.same]) hl)

theorem updTac (h : onlyChanges l s t) (f : Tac → Tac) (hl : .tac ∈ l := by decide) : onlyChanges l s (t.updTac f) :=
  h.trans (single (a := .tac) (fun p hp => by cases p <;> simp_all [Area.same]) hl)

theorem updCdec (h : onlyChanges l s t) (f : Cdec → Cdec) (hl : .cdec ∈ l := by decide) :
    onlyChanges l s (t.updCdec f) :=
  h.trans (single (a := .cdec) (fun p hp => by cases p <;> simp_all [Area.same]) hl)

theorem updFree (h : onlyChanges l s t) (f : Nat → Nat) (hl : .free ∈ l := by decide) : onlyChanges l s (t.updFree f) :=
  h.trans (single (a := .free) (fun p hp => by cases p <;> simp_all [Area.same]) hl)

theorem setPosition (h : onlyChanges l s t) (p : Position) (hl : .position ∈ l := by decide) :
    onlyChanges l s (setPosition p t) :=
  h.trans (single (a := .position) (fun p hp => by cases p <;> simp_all [Area.same, Machine.setPosition]) hl)

theorem setMap (h : onlyChanges l s t) (p : Slot) (o : Occupancy) (hl : .map ∈ l := by decide) :
    onlyChanges l s (setMap p o t) := by
  refine h.trans (single (a := .map) (fun a ha => ?_) hl)
  unfold Machine.setMap
  split
  · exact refl (l := [.map]) t a ha
  · cases a <;> simp_all [Area.same]

theorem forgetTray (h : onlyChanges l s t) (hp : .position ∈ l := by decide) (hm : .map ∈ l := by decide) :
    onlyChanges l s (forgetTray t) :=
  h.trans (mono (m := [.position, .map])
    (fun p hp => by cases p <;> simp_all [Area.same, Machine.forgetTray]) (by simp [hp, hm]))

theorem placeReply (h : onlyChanges l s t) (kind : Byte) (r : Response) (hl : .linkOut ∈ l := by decide) :
    onlyChanges l s (placeReply kind r t) :=
  h.trans (single (a := .linkOut) (fun p hp => by cases p <;> simp_all [Area.same, Machine.placeReply]) hl)

theorem openCauses (h : onlyChanges l s t) (o : Opener) (hl : .causes ∈ l := by decide) :
    onlyChanges l s (openCauses o t) :=
  h.trans (single (a := .causes) (fun p hp => by cases p <;> simp_all [Area.same, Machine.openCauses]) hl)

theorem queueReport (h : onlyChanges l s t) (r : Report) (hl : .linkOut ∈ l := by decide) :
    onlyChanges l s (queueReport r t) := by
  refine h.trans (single (a := .linkOut) (fun p hp => ?_) hl)
  unfold Machine.queueReport
  cases p <;> simp_all [Area.same] <;> split <;> simp

theorem report (h : onlyChanges l s t) (b : ReportBody) (first : Bool) (hl : ∀ p ∈ reports, p ∈ l := by decide) :
    onlyChanges l s (report b first t) := by
  refine h.trans (mono (m := reports) ?_ hl)
  unfold Machine.report
  split
  · split
    · exact (refl t).queueReport _
    · exact single (a := .reporting) fun p hp => by cases p <;> simp_all [Area.same]
  · exact refl t

theorem raiseEvent (h : onlyChanges l s t) (e : Event) (hl : ∀ p ∈ reports, p ∈ l := by decide) :
    onlyChanges l s (raiseEvent e t) := h.report _ _ hl

theorem recordFault (h : onlyChanges l s t) (c : FaultCode) (sv : Severity) (d : Detail)
    (hl : ∀ p ∈ faultReports, p ∈ l := by decide) : onlyChanges l s (recordFault c sv d t) := by
  refine h.trans (mono (m := faultReports) (report ?_ _ _) hl)
  refine mono (m := [.faults, .causes]) fun p hp => ?_
  have hrecord : (t.flt.record c sv d).faultOn = t.flt.faultOn ∧ (t.flt.record c sv d).eventOn = t.flt.eventOn ∧
      (t.flt.record c sv d).switchOn = t.flt.switchOn ∧ (t.flt.record c sv d).waiting = t.flt.waiting ∧
      (t.flt.record c sv d).seconds = t.flt.seconds ∧ (t.flt.record c sv d).timer = t.flt.timer := by
    unfold Flt.record
    cases t.flt.first <;> exact ⟨rfl, rfl, rfl, rfl, rfl, rfl⟩
  cases p <;> simp_all [Area.same]

theorem updCycle (h : onlyChanges l s t) (f : CycleRecord → CycleRecord) (hl : .tgc ∈ l := by decide) :
    onlyChanges l s (updCycle f t) := h.updTgc rfl hl

/-! ## The end of a step -/

/-- The end of a step changes no area that the step has left, but for the shutter, which follows the phase and the blank
hold, and the transmitter, which takes what there is to send (R5, R201, R202). -/
theorem settle (hs : settled s) (h : onlyChanges l s u) (hopen : .shutter ∈ l ∨ u.shutterOpen = s.shutterOpen)
    (hlink : .linkOut ∈ l ∨ .linkIn ∉ l ∧ .linkErrors ∉ l := by decide) : onlyChanges l s (settle u) := by
  obtain ⟨hshutter, hkick⟩ := (settled_iff s).1 hs
  intro p hp
  have hsame := h p hp
  cases p
  case shutter =>
    have hopen := hopen.resolve_left hp
    simp [Area.same, hopen, hshutter]
  case linkOut =>
    obtain ⟨hin, herr⟩ := hlink.resolve_left hp
    simp [Area.same, h.link hin hp herr, hkick]
  all_goals simpa [Area.same] using hsame

end Sys2Proof.Safety.onlyChanges

namespace Sys2Proof.Proofs

open Sys2Proof.Machine Sys2Proof.Safety

/-! ## The shutter -/

theorem shutterOpen_of_phase {s : State} (h : s.tgc.phase ≠ .ready) : s.shutterOpen = false := by
  simp [shutterOpen_eq, h]

theorem shutterOpen_congr {s u : State} (hpower : u.power = s.power) (hphase : u.tgc.phase = s.tgc.phase)
    (hblank : u.tgc.blank = s.tgc.blank) : u.shutterOpen = s.shutterOpen := by
  simp only [State.shutterOpen, hpower, hphase, hblank]

/-- With the gate away from READY the shutter is closed (R5). -/
theorem shutter_closed {s : State} (hs : settled s) (h : s.tgc.phase ≠ .ready) : s.tgc.shutter = false := by
  rw [((settled_iff s).1 hs).1, shutterOpen_of_phase h]

/-- A part that runs opens the shutter in READY, unless the blank hold is set (R5, R6). -/
theorem shutterOpen_of_running {s : State} (hrun : s.running = true) :
    s.shutterOpen = (s.tgc.phase == .ready && !s.tgc.blank) := by
  simp only [State.running, State.live, Bool.and_eq_true, bne_iff_ne] at hrun
  obtain ⟨⟨hpowered, -⟩, hmode⟩ := hrun
  simp [State.shutterOpen, hpowered, bne_iff_ne.2 hmode]

/-- A step of a gate that is away from READY before and after: the end of the step changes nothing that the step has
left. -/
theorem settle_closed {l : List Area} {s u : State} (hs : settled s) (h : onlyChanges l s u)
    (hphase : s.tgc.phase ≠ .ready) (hphase' : u.tgc.phase ≠ .ready) (hshutter : .shutter ∉ l := by decide)
    (hlink : .linkOut ∈ l ∨ .linkIn ∉ l ∧ .linkErrors ∉ l := by decide) :
    (settle u).tgc = u.tgc ∧ onlyChanges l s (settle u) := by
  have hopen : u.shutterOpen = s.shutterOpen := by
    rw [shutterOpen_of_phase hphase, shutterOpen_of_phase hphase']
  refine ⟨?_, h.settle hs (.inr hopen) hlink⟩
  rw [settle_tgc, hopen, ← ((settled_iff s).1 hs).1, ← h.shutter hshutter]

/-- A step that leaves phase, blank hold and power: the end of the step changes nothing that the step has left. -/
theorem settle_same {l : List Area} {s u : State} (hs : settled s) (h : onlyChanges l s u)
    (hphase : u.tgc.phase = s.tgc.phase) (hblank : u.tgc.blank = s.tgc.blank) (hshutter : .shutter ∉ l := by decide)
    (hpower : .power ∉ l := by decide) (hlink : .linkOut ∈ l ∨ .linkIn ∉ l ∧ .linkErrors ∉ l := by decide) :
    (settle u).tgc = u.tgc ∧ onlyChanges l s (settle u) := by
  have hopen : u.shutterOpen = s.shutterOpen := shutterOpen_congr (h.power hpower) hphase hblank
  refine ⟨?_, h.settle hs (.inr hopen) hlink⟩
  rw [settle_tgc, hopen, ← ((settled_iff s).1 hs).1, ← h.shutter hshutter]

/-! ## Steps of a part that runs -/

theorem live_of_running {s : State} (h : s.running = true) : s.live = true := by
  rw [State.running, Bool.and_eq_true] at h
  exact h.1

theorem whenRunning_of {s : State} (h : s.running = true) (f : State → State) : whenRunning f s = settle (f s) :=
  if_pos h

/-- An input that moves while the part runs. -/
theorem whenRunning_updPins {s : State} (h : s.running = true) (f : State → State) {g : Pins → Pins}
    (hg : (g s.pins).resetPin = s.pins.resetPin) : whenRunning f (s.updPins g) = settle (f (s.updPins g)) := by
  refine whenRunning_of ?_ f
  simpa [State.running, State.live, hg] using h

/-- A request of a part that takes requests is acted on and answered (R200). -/
theorem whenLive_request {s : State} {i : Instr} (ht : takes s) (hlength : lengthOk i = true)
    (act : State → State × Response) :
    whenLive (hostRequest i act) s = settle (placeReply (requestKind i + 0x80) (act s).2 (act s).1) := by
  obtain ⟨⟨hrun, -⟩, hreset⟩ := ht
  have hmode : s.power.mode ≠ .standby := by
    rw [State.running, Bool.and_eq_true, bne_iff_ne] at hrun
    exact hrun.2
  rw [whenLive, if_pos (live_of_running hrun), hostRequest, hreset]
  simp [answerRequest, hlength, hmode]

theorem answered_settle {i : Instr} {r : Response} {s : State} :
    answered i r (settle (placeReply (requestKind i + 0x80) r s)) := by
  simp [answered, placeReply]

/-- A request that reads: the answer, and nothing else but what reading draws (R28, R66, R88, R105, R120, R126, R151,
R196, R211). -/
theorem answers_of_read {l : List Area} {s : State} {i : Instr} {act : State → State × Response} {r : Response}
    (ht : takes s) (hexec : exec i s = .next (whenLive (hostRequest i act) s)) (hlength : lengthOk i = true)
    (hanswer : (act s).2 = r) (hchange : onlyChanges l s (act s).1) (htgc : (act s).1.tgc = s.tgc)
    (hl : .linkOut ∈ l := by decide) (hpower : .power ∉ l := by decide) :
    ∃ t, exec i s = .next t ∧ answered i r t ∧ onlyChanges l s t := by
  obtain ⟨⟨-, hs⟩, -⟩ := id ht
  refine ⟨_, hexec.trans (congrArg _ (whenLive_request ht hlength act)), hanswer ▸ answered_settle, ?_⟩
  refine (hchange.placeReply _ _ hl).settle hs (.inr ?_) (.inl hl)
  exact shutterOpen_congr (hchange.power hpower) (congrArg _ htgc) (congrArg _ htgc)

end Sys2Proof.Proofs
end

section
/-! PROOFS. The requests that read (R28, R66, R88, R105, R120, R126, R151, R196, R211). -/

namespace Sys2Proof.Proofs

open Sys2Proof.Machine Sys2Proof.Safety

/-- A request whose owner answers and does nothing. -/
theorem answers_only {s : State} {i : Instr} {act : State → State × Response} {r : Response}
    (ht : takes s) (hexec : exec i s = .next (whenLive (hostRequest i act) s)) (hact : act s = (s, r))
    (hlength : lengthOk i = true := by rfl) :
    ∃ t, exec i s = .next t ∧ answered i r t ∧ onlyChanges [.linkOut] s t :=
  answers_of_read ht hexec hlength (congrArg Prod.snd hact) (by rw [hact]; exact .refl s) (by rw [hact])

theorem getCue_of_select {s : State} (ht : takes s) {selector value : Nat} {e : CueEntry}
    (h : selectCue selector value s.retained.cues = some e) :
    ∃ t, exec (.getCue selector value) s = .next t ∧
      answered (.getCue selector value)
        (okWith (.cue e (cueIndex e.number s.retained.cues) s.retained.cues.length)) t ∧ onlyChanges [.linkOut] s t :=
  answers_only (act := reqGetCue selector value) ht rfl (by simp [reqGetCue, h])

theorem getCue_of_none {s : State} (ht : takes s) {selector value : Nat}
    (h : selectCue selector value s.retained.cues = none) :
    ∃ t, exec (.getCue selector value) s = .next t ∧ answered (.getCue selector value) (refuse .badValue) t ∧
      onlyChanges [.linkOut] s t :=
  answers_only (act := reqGetCue selector value) ht rfl (by simp [reqGetCue, h])

/-- The first entry of a number is found by it, at its index (R126). -/
theorem find_first {l : List CueEntry} {index : Nat} {e : CueEntry} (he : l[index]? = some e)
    (hfirst : ∀ x ∈ l.take index, x.number ≠ e.number) :
    selectCue 0 e.number l = some e ∧ cueIndex e.number l = index := by
  obtain ⟨hlt, heq⟩ := List.getElem?_eq_some_iff.1 he
  have hbefore : ∀ j (hj : j < index), (l[j]'(hj.trans hlt)).number ≠ e.number := fun j hj =>
    hfirst _ (List.mem_take_iff_getElem.2 ⟨j, by omega, rfl⟩)
  have hindex : (l.findIdx? fun x => x.number == e.number) = some index :=
    List.findIdx?_eq_some_iff_getElem.2 ⟨hlt, by simp [heq], fun j hj => by simpa using hbefore j hj⟩
  have hfind : (l.find? fun x => x.number == e.number) = some e :=
    List.find?_eq_some_iff_getElem.2 ⟨by simp, index, hlt, heq, fun j hj => by simpa using hbefore j hj⟩
  exact ⟨hfind, by simp [cueIndex, hindex]⟩

/-- With no hold timer running there is nothing to draw (R151). -/
theorem reqGetShow_of_none {s : State} (h : s.shc.hold = none) :
    reqGetShow s = (s, okWith (.showRecord s.shc s.retained.cues.length
      (if s.shc.held.isSome then s.obstacles else []))) := by
  have hmap : (s.shc.hold.map fun h => min h (Config.freeSeconds s.free)) = s.shc.hold := by rw [h]; rfl
  rw [reqGetShow, hmap, if_neg (by simp [h])]

/-- Settles O10: a read's owner answers from the state and leaves it. -/
theorem readsChangeOnlyTheReply : Obligations.ReadsChangeOnlyTheReply := by
  unfold Obligations.ReadsChangeOnlyTheReply
  intro s ht
  refine ⟨answers_only ht rfl rfl, answers_only ht rfl rfl, answers_only ht rfl rfl, answers_only ht rfl rfl,
    answers_only ht rfl rfl, answers_only ht rfl rfl, answers_only ht rfl rfl, answers_only ht rfl rfl,
    answers_only ht rfl rfl, answers_only ht rfl rfl, answers_only ht rfl rfl, fun hhold => ?_, fun h hhold => ?_,
    fun index e he => ?_, fun index e he hfirst => ?_, fun number hnone => ?_, fun selector value hout => ?_,
    fun selector hout => ?_⟩
  case refine_1 => exact answers_only (act := reqGetShow) ht rfl (reqGetShow_of_none hhold)
  case refine_2 =>
    have hdraw : reqGetShow s = (s.updFree (· + 1), okWith (.showRecord
        { s.shc with hold := some (min h (Config.freeSeconds s.free)) } s.retained.cues.length
        (if s.shc.held.isSome then s.obstacles else []))) := by
      simp [reqGetShow, hhold]
    obtain ⟨t, hexec, hanswer, hframe⟩ := answers_of_read (l := [.linkOut, .free]) (i := .getShow)
      (act := reqGetShow) ht rfl rfl (congrArg Prod.snd hdraw)
      (by rw [hdraw]; exact .updFree (.refl s) _) (by rw [hdraw]; rfl)
    exact ⟨t, _, hexec, Nat.min_le_left .., hanswer, hframe⟩
  case refine_3 => exact getCue_of_select ht he
  case refine_4 =>
    obtain ⟨hselect, hindex⟩ := find_first he hfirst
    have h := getCue_of_select ht hselect
    rwa [hindex] at h
  case refine_5 =>
    refine getCue_of_none ht ?_
    simpa [selectCue, List.find?_eq_none] using hnone
  case refine_6 =>
    refine getCue_of_none ht ?_
    rcases hout with hbig | ⟨rfl, hlen⟩
    · obtain ⟨n, rfl⟩ := Nat.exists_eq_add_of_le' hbig
      rfl
    · exact List.getElem?_eq_none hlen
  case refine_7 =>
    obtain ⟨n, rfl⟩ := Nat.exists_eq_add_of_le' hout
    exact answers_only ht rfl rfl

end Sys2Proof.Proofs
end

section
/-! PROOFS. Records of a raising, BLANK and the tray's presence (R5, R6, R24, R25, R186 to R189). -/

namespace Sys2Proof.Safety.raised

open Sys2Proof.Machine

variable {c : FaultCode} {sv : Severity} {d : Detail} {s t u : State}

/-- A raising adds to the records that stand: first and later faults, sticky and last-cause set (R186 to R189). -/
theorem record_congr {f g : Flt} (hfirst : g.first = f.first) (hlater : g.later = f.later)
    (hcount : g.laterCount = f.laterCount) (hsticky : g.sticky = f.sticky) (hopener : g.opener = f.opener)
    (hcauses : g.causes = f.causes) (hseconds : g.seconds = f.seconds) :
    (g.record c sv d).first = (f.record c sv d).first ∧ (g.record c sv d).later = (f.record c sv d).later ∧
      (g.record c sv d).laterCount = (f.record c sv d).laterCount ∧
      (g.record c sv d).sticky = (f.record c sv d).sticky ∧ (g.record c sv d).causes = (f.record c sv d).causes := by
  unfold Flt.record
  dsimp only
  rw [hfirst]
  cases f.first <;> simp [hlater, hcount, hsticky, hopener, hcauses, hseconds]

/-- The Fault Unit's part of a raising, its report apart. -/
theorem recordFault_same (s : State) : raised c sv d s (recordFault c sv d s) := by
  have hkeep := (onlyChanges.refl (l := reports) (s.updFlt (Flt.record c sv d))).report (.fault c sv d)
    s.flt.first.isNone
  have hfaults := hkeep .faults (by decide)
  have hcauses := hkeep .causes (by decide)
  simp only [Area.same, Bool.and_eq_true, beq_iff_eq, State.updFlt_flt] at hfaults hcauses
  obtain ⟨⟨⟨hfirst, hlater⟩, hcount⟩, hsticky⟩ := hfaults
  exact ⟨hfirst, hlater, hcount, hsticky, hcauses.2⟩

/-- A raising after steps that leave the fault records is one more raising in them. -/
theorem recordFault_of_only {l : List Area} (h : onlyChanges l s t) (hf : .faults ∉ l := by decide)
    (hc : .causes ∉ l := by decide) (hsec : .seconds ∉ l := by decide) : raised c sv d s (recordFault c sv d t) := by
  have hfaults := h .faults hf
  have hcauses := h .causes hc
  have hseconds := h .seconds hsec
  simp only [Area.same, Bool.and_eq_true, beq_iff_eq] at hfaults hcauses hseconds
  obtain ⟨⟨⟨hfirst, hlater⟩, hcount⟩, hsticky⟩ := hfaults
  obtain ⟨h1, h2, h3, h4, h5⟩ := record_congr (c := c) (sv := sv) (d := d) hfirst hlater hcount hsticky hcauses.1
    hcauses.2 hseconds.1
  obtain ⟨k1, k2, k3, k4, k5⟩ := recordFault_same (c := c) (sv := sv) (d := d) t
  exact ⟨k1.trans h1, k2.trans h2, k3.trans h3, k4.trans h4, k5.trans h5⟩

/-- A raising with the fault records as they were. -/
theorem recordFault (h : t.flt = s.flt) : raised c sv d s (recordFault c sv d t) := by
  obtain ⟨k1, k2, k3, k4, k5⟩ := recordFault_same (c := c) (sv := sv) (d := d) t
  rw [h] at k1 k2 k3 k4 k5
  exact ⟨k1, k2, k3, k4, k5⟩

/-- What leaves the fault records and the last-cause set keeps a raising in them. -/
theorem of_only {l : List Area} (h : raised c sv d s t) (k : onlyChanges l t u) (hf : .faults ∉ l := by decide)
    (hc : .causes ∉ l := by decide) : raised c sv d s u := by
  have hfaults := k .faults hf
  have hcauses := k .causes hc
  simp only [Area.same, Bool.and_eq_true, beq_iff_eq] at hfaults hcauses
  obtain ⟨⟨⟨hfirst, hlater⟩, hcount⟩, hsticky⟩ := hfaults
  obtain ⟨h1, h2, h3, h4, h5⟩ := h
  exact ⟨hfirst.trans h1, hlater.trans h2, hcount.trans h3, hsticky.trans h4, hcauses.2.trans h5⟩

/-- The sticky set takes the code (R188). -/
theorem mem_sticky (h : raised c sv d s t) (x : FaultCode) : x ∈ t.flt.sticky ↔ x = c ∨ x ∈ s.flt.sticky := by
  obtain ⟨-, -, -, hsticky, -⟩ := h
  rw [hsticky, ← mem_insertCode]
  unfold Flt.record
  cases s.flt.first <;> rfl

theorem congr_left (h : raised c sv d s t) (hflt : u.flt = s.flt) : raised c sv d u t := by
  unfold raised at h ⊢
  rwa [hflt]

theorem settle (h : raised c sv d s t) : raised c sv d s (settle t) := h

end Sys2Proof.Safety.raised

namespace Sys2Proof.Proofs

open Sys2Proof.Machine Sys2Proof.Safety

/-- BLANK and its reply, before the shutter follows (R6). -/
def blankToggled (s : State) : State :=
  placeReply (requestKind .blank + 0x80) (okWith (.blanked (!s.tgc.blank)))
    (s.updTgc fun t => { t with blank := !t.blank })

theorem only_blankToggled (s : State) : onlyChanges [.tgc, .shutter, .linkOut] s (blankToggled s) :=
  ((onlyChanges.refl s).updTgc rfl).placeReply _ _

theorem exec_blank {s : State} (ht : takes s) : exec .blank s = .next (settle (blankToggled s)) :=
  congrArg _ (whenLive_request ht rfl reqBlank)

/-- The show does not react to a NOTE (R144). -/
theorem raiseFault_note {c : FaultCode} (h : c.severity = .note) (d : Detail) (s : State) :
    raiseFault c d s = recordFault c .note d s := by
  rw [raiseFault, h, raiseAs_mild _ _ _ (.inl rfl)]

/-- With the show STOPPED a HALT is recorded and reported, and no more (R144). -/
theorem raiseFault_stopped {s : State} (h : s.shc.state = .stopped) (c : FaultCode) (d : Detail) :
    raiseFault c d s = recordFault c c.severity d s := raiseAs_of_stopped h _ _ _

theorem exec_trayInsertion {s : State} (hs : runs s) : exec .trayInsertion s = .next (settle
    ((s.updPins fun p => { p with trayPresent := true }).updTgc fun t => { t with present := true })) :=
  congrArg _ (whenRunning_updPins hs.1 _ rfl)

theorem exec_trayRemoval {s : State} (hs : runs s) : exec .trayRemoval s = .next (settle
    (trayRemoved (s.updPins fun p => { p with trayPresent := false }))) :=
  congrArg _ (whenRunning_updPins hs.1 _ rfl)

/-- The records once the tray is gone, before the fault of a removal (R24). -/
def trayGone (s : State) : State :=
  forgetTray ((s.updPins fun p => { p with trayPresent := false }).updTgc fun t => { t with present := false })

theorem only_trayGone (s : State) : onlyChanges [.pins, .tgc, .position, .map] s (trayGone s) :=
  (((onlyChanges.refl s).updPins _).updTgc rfl).forgetTray

/-- A removal in READY is a NOTE where a slide is in the gate, and no fault else (R24). -/
theorem trayRemoved_of_ready {s : State} (h : s.tgc.phase = .ready) :
    trayRemoved (s.updPins fun p => { p with trayPresent := false }) =
      if s.tgc.gateLoad = .slide then
        recordFault .trayRemoved .note { Detail.empty with slideInGate := true } (trayGone s)
      else trayGone s := by
  rw [← raiseAs_mild _ _ _ (.inl rfl)]
  simp [trayRemoved, trayGone, forgetTray, h]

/-- Settles O13: BLANK and a removal or an insertion in READY change the tray records alone, and the shutter follows
phase and blank hold. -/
theorem blankAndTrayPresence : Obligations.BlankAndTrayPresence := by
  unfold Obligations.BlankAndTrayPresence
  refine ⟨fun s ht => ?_, fun s hs => ?_, fun s hs hphase hload => ?_, fun s hs hphase hload => ?_⟩
  case refine_1 =>
    refine ⟨_, exec_blank ht, rfl, ?_, answered_settle, rfl, (only_blankToggled s).settle ht.1.2 (.inl (by decide))⟩
    refine (shutterOpen_of_running (s := blankToggled s) ht.1.1).trans ?_
    simp [blankToggled, placeReply]
  case refine_2 =>
    have honly : onlyChanges [.pins, .tgc] s
        ((s.updPins fun p => { p with trayPresent := true }).updTgc fun t => { t with present := true }) :=
      ((onlyChanges.refl s).updPins _).updTgc rfl
    obtain ⟨htgc, honly⟩ := settle_same hs.2 honly rfl rfl
    exact ⟨_, exec_trayInsertion hs, rfl, htgc, honly⟩
  case refine_3 =>
    have hgone := exec_trayRemoval hs
    rw [trayRemoved_of_ready hphase, if_neg hload] at hgone
    obtain ⟨htgc, honly⟩ := settle_same hs.2 (only_trayGone s) rfl rfl
    exact ⟨_, hgone, rfl, htgc, rfl, rfl, honly⟩
  case refine_4 =>
    have hgone := exec_trayRemoval hs
    rw [trayRemoved_of_ready hphase, if_pos hload] at hgone
    have hfault : onlyChanges (.pins :: .tgc :: .position :: .map :: faultReports) s
        (recordFault .trayRemoved .note { Detail.empty with slideInGate := true } (trayGone s)) :=
      (only_trayGone s).mono.recordFault _ _ _
    obtain ⟨htgc, honly⟩ := settle_same hs.2 hfault (by simp [trayGone, forgetTray]) (by simp [trayGone, forgetTray])
    refine ⟨_, hgone, htgc.trans ?_, ?_, ?_, (raised.recordFault rfl).settle, honly⟩
    all_goals simp [trayGone, forgetTray]

end Sys2Proof.Proofs
end

section
/-! PROOFS. The taking of the queue's head (R7, R22, R36, R147). -/

namespace Sys2Proof.Proofs

open Sys2Proof.Machine Sys2Proof.Safety

theorem exec_takeEntry {s : State} (hs : runs s) : exec .takeEntry s = .next (settle (takeHead s)) :=
  congrArg _ (whenRunning_of hs.1 _)

/-- The head taken: ACTIVE, with its cycle in CLOSING (R7). -/
def headTaken (m : Motion) (rest : List Motion) (s : State) : State :=
  enterClosing (openCauses (.changeCycle m.move m.source m.tag)
    ((s.updMq fun _ => { m with active := true } :: rest).updTgc fun t =>
      { t with cycle := some (CycleRecord.start m (moveNeedsHome m.move s.tgc.phase s.retained.position)) }))

theorem only_headTaken (m : Motion) (rest : List Motion) (s : State) :
    onlyChanges [.mq, .tgc, .causes] s (headTaken m rest s) :=
  ((((onlyChanges.refl s).updMq _).updTgc rfl).openCauses _).updTgc rfl

theorem takeHead_of_taken {s : State} {m : Motion} {rest : List Motion} (hmq : s.mq = m :: rest) (hm : m.active = false)
    (hpresent : s.tgc.present = true) (htakes : s.tgc.phase.takes = true)
    (hrefused : moveRefused m.move s.tgc.phase = false) : takeHead s = entryActive m.source (headTaken m rest s) := by
  simp [takeHead, hmq, hm, hpresent, htakes, hrefused, headTaken]

/-- A counted move alone is refused, in JAMMED and in UNSEATED (R7). -/
theorem phase_of_refused {m : Move} {phase : Phase} (h : moveRefused m phase = true) :
    phase = .jammed ∨ phase = .unseated := by
  cases m with
  | advance n => simpa [moveRefused] using h
  | back n => simpa [moveRefused] using h
  | goto p => simp [moveRefused] at h
  | home => simp [moveRefused] at h

/-- A counted move in JAMMED or UNSEATED leaves the queue REFUSED (R7). -/
theorem takeHead_of_refused {s : State} {m : Motion} {rest : List Motion} (hmq : s.mq = m :: rest)
    (hm : m.active = false) (hpresent : s.tgc.present = true) (hrefused : moveRefused m.move s.tgc.phase = true) :
    takeHead s = tellCancelled (waitingCancelled .refused (s.updMq fun _ => rest) m) m := by
  have htakes : s.tgc.phase.takes = true := by
    rcases phase_of_refused hrefused with h | h <;> rw [h] <;> rfl
  simp [takeHead, hmq, hm, hpresent, htakes, hrefused]

/-- Without a tray, or with an empty queue, nothing is taken (R7, R36). -/
theorem takeHead_of_waits {s : State} (h : s.tgc.present = false ∨ s.mq = []) : takeHead s = s := by
  unfold takeHead
  split
  · rfl
  · next m rest hmq => simp [h.resolve_right (by simp [hmq])]

/-- The return register takes the position where R147 asks for it. -/
theorem entryActive_shc (source : Source) (s : State) : (entryActive source s).shc =
    { s.shc with register :=
      if source = .remote ∧ s.shc.state = .excursion ∧ s.shc.register = .empty ∧ s.shc.returning = false then
        match s.retained.position with
        | .known p => .known p
        | .unknown => .unknown
      else s.shc.register } := by
  unfold entryActive
  split <;> rfl

theorem only_entryActive {l : List Area} {s t : State} (h : onlyChanges l s t) (source : Source)
    (hl : .shc ∈ l := by decide) : onlyChanges l s (entryActive source t) := by
  unfold entryActive
  split
  · exact h.updShc _ hl
  · exact h

/-- What an item acts on nothing for: a change, a CUT that is gone, an excursion that has ended, or the part of a show
that stays STOPPED (R130, R134, R140, R148). -/
def actsOnNothing (item : Issued) (c : Shc) : Prop :=
  item.purpose = .change ∨ item.purpose = .step ∨ item.purpose = .resync ∨
    (item.purpose = .cutChange ∧ c.cut = none) ∨ (item.purpose = .excursionReturn ∧ c.state ≠ .excursion) ∨
    ((item.purpose = .start ∨ item.purpose = .loopReturn) ∧ c.state = .stopped ∧ c.parts = .empty)

theorem actsOnNothing_of_change {item : Issued}
    (h : item.purpose = .change ∨ item.purpose = .step ∨ item.purpose = .resync)
    (c : Shc) : actsOnNothing item c := h.imp_right (Or.imp_right .inl)

theorem popIssued_eq {s : State} {item : Issued} {more : List Issued} (h : s.shc.issued = item :: more) :
    popIssued s = s.updShc fun c => { c with issued := more } := by
  simp only [popIssued, State.updShc, h, List.drop_one, List.tail_cons]

/-- A show that stays STOPPED has no part to end. -/
theorem examine_finishPart_stopped {s : State} (hstate : s.shc.state = .stopped) (hparts : s.shc.parts = .empty)
    (part : Part) (ending : PartState) (reason : ShowReason) : examine reason (finishPart part ending s) = s := by
  have hfinish : finishPart part ending s = s := by
    have hempty : s.shc.parts.finish part ending = s.shc.parts := by rw [hparts]; cases part <;> rfl
    simp only [finishPart, State.updShc, hempty]
  rw [hfinish, examine_of_stopped hstate]

theorem showMoveCancelled_idle {s : State} {item : Issued} {more : List Issued} (h : s.shc.issued = item :: more)
    (hidle : actsOnNothing item s.shc) : showMoveCancelled s = s.updShc fun c => { c with issued := more } := by
  unfold showMoveCancelled
  rw [h]
  simp only [List.head?_cons, popIssued_eq h]
  rcases hidle with hp | hp | hp | ⟨hp, hcut⟩ | ⟨hp, hstate⟩ | ⟨hp, hstate, hparts⟩
  · simp only [hp]
  · simp only [hp]
  · simp only [hp]
  · simp [hp, hcut, Shc.changingCut]
  · simp [hp, hstate]
  · rcases hp with hp | hp <;> simp only [hp] <;>
      exact examine_finishPart_stopped (by exact hstate) (by exact hparts) _ _ _

/-- Settles O14: the head's cycle begins, the head leaves REFUSED, or nothing happens, as `takeHead` decides. -/
theorem takeEntryStartsOrRefuses : Obligations.TakeEntryStartsOrRefuses := by
  unfold Obligations.TakeEntryStartsOrRefuses
  refine ⟨fun s m rest hs hmq hm hpresent hphase hrefused => ?_, fun s m rest hs hmq hm hpresent hrefused hsource => ?_,
    fun s m rest item more hs hmq hm hpresent hrefused hsource hissued hpurpose => ?_, fun s hs hwait => ?_⟩
  case refine_1 =>
    have htakes : s.tgc.phase.takes = true := by rcases hphase with h | h | h <;> rw [h] <;> rfl
    have hexec := exec_takeEntry hs
    rw [takeHead_of_taken hmq hm hpresent htakes hrefused] at hexec
    have honly : onlyChanges [.mq, .tgc, .shutter, .causes, .shc] s (entryActive m.source (headTaken m rest s)) :=
      only_entryActive (only_headTaken m rest s).mono _
    have hclosed : (entryActive m.source (headTaken m rest s)).shutterOpen = false :=
      shutterOpen_of_phase (by simp [headTaken, enterClosing])
    refine ⟨_, hexec, ?_, ?_, ?_, ?_, ?_, ?_, ?_, ?_, honly.settle hs.2 (.inl (by decide))⟩
    case refine_4 => exact hclosed
    case refine_8 => exact entryActive_shc _ _
    all_goals simp [headTaken, enterClosing, openCauses]
  case refine_2 =>
    have hexec := exec_takeEntry hs
    rw [takeHead_of_refused hmq hm hpresent hrefused, tellCancelled, if_neg hsource] at hexec
    have honly : onlyChanges (.mq :: reports) s (waitingCancelled .refused (s.updMq fun _ => rest) m) :=
      ((onlyChanges.refl s).updMq _).raiseEvent _
    refine ⟨_, hexec, ?_, (settle_same hs.2 honly ?_ ?_).2⟩
    all_goals simp
  case refine_3 =>
    have hexec := exec_takeEntry hs
    rw [takeHead_of_refused hmq hm hpresent hrefused, tellCancelled, if_pos hsource,
      showMoveCancelled_idle (item := item) (more := more) (by simpa using hissued)
        (actsOnNothing_of_change hpurpose _)] at hexec
    have honly : onlyChanges (.mq :: .shc :: reports) s
        ((waitingCancelled .refused (s.updMq fun _ => rest) m).updShc fun c => { c with issued := more }) :=
      (((onlyChanges.refl s).updMq _).raiseEvent _).updShc _
    refine ⟨_, hexec, ?_, ?_, (settle_same hs.2 honly ?_ ?_).2⟩
    all_goals simp
  case refine_4 =>
    have hexec := exec_takeEntry hs
    rwa [takeHead_of_waits hwait, show settle s = s from hs.2] at hexec

end Sys2Proof.Proofs
end

section
/-! PROOFS. The phases of the change cycle: where each operation takes the tray records (R8 to R17, R21 to R23). -/

namespace Sys2Proof.Proofs

open Sys2Proof.Machine Sys2Proof.Safety

theorem slot_of_known {s : State} {p : Slot} (h : s.retained.position = .known p) : s.slot = some p := by
  simp [State.slot, h, Position.slot]

theorem slot_of_unknown {s : State} (h : s.retained.position = .unknown) : s.slot = none := by
  simp [State.slot, h, Position.slot]

/-! ## DROPPING and SEATING (R14, R15) -/

/-- The gate on its way down, with the drop timer running (R14). -/
def Tgc.dropped (t : Tgc) : Tgc := { t with phase := .dropping, lift := false, motor := none, timer := some .drop }

/-- No slide is seen: the sensor is inactive, or not consulted at slot 0 (R14). -/
def noSlide (s : State) : Prop := s.pins.slidePresent = false ∨ s.retained.position = .known 0

theorem enterDropping_of_noSlide {s : State} (h : noSlide s) : enterDropping s = s.updTgc Tgc.dropped := by
  unfold enterDropping
  refine if_neg ?_
  rintro ⟨hslide, hslot⟩
  rcases h with h | h
  · simp [h] at hslide
  · exact hslot (slot_of_known h)

theorem enterDropping_of_slide {s : State} {p : Slot} (hslide : s.pins.slidePresent = true)
    (hp : s.retained.position = .known p) (hp0 : p ≠ 0) : enterDropping s = dropFound (s.updTgc Tgc.dropped) := by
  unfold enterDropping
  refine if_pos ⟨hslide, ?_⟩
  rw [slot_of_known (s := s.updTgc _) hp]
  simpa using hp0

theorem enterSeating_of_open {s : State} (h : s.pins.gateSeated = false) :
    enterSeating s = s.updTgc fun t => { t with phase := .seating, timer := some .seat } := by
  unfold enterSeating
  exact if_neg (by simp [h])

/-- A gate that is down already is seated at once (R15). -/
theorem enterSeating_of_seated {s : State} (h : s.pins.gateSeated = true) :
    enterSeating s = seatSucceeded (s.updTgc fun t => { t with phase := .seating, timer := some .seat }) := by
  unfold enterSeating
  exact if_pos h

theorem dropFound_of_known {s : State} {p : Slot} (hp : s.retained.position = .known p) :
    dropFound s = enterSeating (setMap p .occupied (s.updTgc fun t => { t with gateLoad := .slide })) := by
  simp only [dropFound, slot_of_known (s := s.updTgc _) hp]

theorem dropFound_of_unknown {s : State} (hp : s.retained.position = .unknown) :
    dropFound s = enterSeating (s.updTgc fun t => { t with gateLoad := .slide }) := by
  simp only [dropFound, slot_of_unknown (s := s.updTgc _) hp]

/-- What a drop leaves that finds a slide with the gate still above its seat (R14). -/
def slideFound (p : Slot) (s : State) : State :=
  (setMap p .occupied (s.updTgc fun t => { t with gateLoad := .slide })).updTgc fun t =>
    { t with phase := .seating, timer := some .seat }

theorem dropFound_of_open {s : State} {p : Slot} (hp : s.retained.position = .known p)
    (hopen : s.pins.gateSeated = false) : dropFound s = slideFound p s := by
  rw [dropFound_of_known hp, enterSeating_of_open (by simpa using hopen), slideFound]

theorem only_slideFound {l : List Area} {s t : State} (h : onlyChanges l s t) (p : Slot) (ht : .tgc ∈ l := by decide)
    (hm : .map ∈ l := by decide) : onlyChanges l s (slideFound p t) :=
  ((h.updTgc rfl ht).setMap _ _ hm).updTgc rfl ht

theorem slideFound_tgc (p : Slot) (s : State) : (slideFound p s).tgc =
    { s.tgc with phase := .seating, timer := some .seat, gateLoad := .slide } := by
  simp [slideFound]

theorem slideFound_map {p : Slot} (hp : p ≠ 0) (s : State) :
    (slideFound p s).retained.map = s.retained.map.set p.val .occupied p.isLt := by
  simp [slideFound, setMap, hp]

/-! ## HOMING and INDEXING (R11, R12, R21) -/

theorem enterHoming_of_away {s : State} (h : s.pins.home = false) : enterHoming s =
    updCycle (fun c => { c with pulses := 0 }) ((setPosition .unknown s).updTgc fun t =>
      { t with phase := .homing, motor := some .forward, timer := some .step }) := by
  unfold enterHoming
  exact if_neg (by simp [setPosition, h])

theorem enterHoming_of_home {s : State} (h : s.pins.home = true) : enterHoming s =
    (setPosition (.known 0) s).updTgc Tgc.dropped := by
  have hdrop := enterDropping_of_noSlide
    (s := setPosition (.known 0) ((setPosition .unknown s).updTgc fun t => { t with phase := .homing })) (.inr rfl)
  unfold enterHoming
  exact (if_pos (by simpa using h)).trans hdrop

/-- The cycle record set in motion in a direction for a step total (R11). -/
theorem enterIndexing_tgc {s : State} {c : CycleRecord} (hc : s.tgc.cycle = some c) (d : Direction) (n : Nat) :
    (enterIndexing d n s).tgc = { s.tgc with
      phase := .indexing, motor := some d, timer := some .step,
      cycle := some { c with direction := some d, steps := n } } := by
  simp [enterIndexing, updCycle, hc]

theorem only_enterIndexing (d : Direction) (n : Nat) (s : State) : onlyChanges [.tgc] s (enterIndexing d n s) :=
  ((onlyChanges.refl s).updTgc rfl).updTgc rfl

/-! ## The phase after a lift (R9) -/

/-- The phase that R9 decides on, after the lift's own records. -/
def afterLift (c : CycleRecord) (s : State) : State :=
  if c.seatRetried then enterDropping s
  else if c.move = .home ∨ c.homeFirst then enterHoming s
  else if c.cancel then enterDropping s
  else indexEntry c s

/-- A success at the first attempt (R9). -/
theorem liftSucceeded_of_first {s : State} {c : CycleRecord} (hc : s.tgc.cycle = some c) (ha : c.attempt < 2) :
    liftSucceeded s = afterLift c (s.updTgc fun t => { t with timer := none }) := by
  simp [liftSucceeded, hc, afterLift, not_le.2 ha]

/-- A success at a later attempt is T1 (R10). -/
theorem liftSucceeded_of_retry {s : State} {c : CycleRecord} (hc : s.tgc.cycle = some c) (ha : 2 ≤ c.attempt) :
    liftSucceeded s = afterLift c (recordFault .liftRetried .note (.atSlot s.slot)
      (s.updTgc fun t => { t with timer := none })) := by
  simp [liftSucceeded, hc, afterLift, ha, raiseFault_note (c := .liftRetried) rfl, State.slot]

/-- Where a lift leads with no sensor active. -/
theorem indexEntry_cases (c : CycleRecord) {s : State} (hslide : noSlide s) :
    indexEntry c s = s.updTgc Tgc.dropped ∨ indexEntry c s = enterHoming s ∨
      ∃ d n, indexEntry c s = enterIndexing d n s := by
  unfold indexEntry
  split
  · exact .inr (.inr ⟨_, _, rfl⟩)
  · split
    · exact .inr (.inr ⟨_, _, rfl⟩)
    · exact .inr (.inr ⟨_, _, rfl⟩)
    · split
      · exact .inl (enterDropping_of_noSlide hslide)
      · split
        · exact .inl (enterDropping_of_noSlide hslide)
        · exact .inr (.inr ⟨_, _, rfl⟩)
    · exact .inr (.inl rfl)

theorem afterLift_cases (c : CycleRecord) {s : State} (hslide : noSlide s) :
    afterLift c s = s.updTgc Tgc.dropped ∨ afterLift c s = enterHoming s ∨
      ∃ d n, afterLift c s = enterIndexing d n s := by
  unfold afterLift
  split
  · exact .inl (enterDropping_of_noSlide hslide)
  · split
    · exact .inr (.inl rfl)
    · split
      · exact .inl (enterDropping_of_noSlide hslide)
      · exact indexEntry_cases c hslide

theorem only_afterLift (c : CycleRecord) {s : State} (hhome : s.pins.home = false) (hslide : noSlide s) :
    onlyChanges [.tgc, .position] s (afterLift c s) ∧ (afterLift c s).tgc.phase ≠ .ready := by
  rcases afterLift_cases c hslide with h | h | ⟨d, n, h⟩
  · rw [h]
    exact ⟨(onlyChanges.refl s).updTgc rfl, by simp [Tgc.dropped]⟩
  · rw [h, enterHoming_of_away hhome]
    exact ⟨(((onlyChanges.refl s).setPosition _).updTgc rfl).updTgc rfl, by simp [updCycle]⟩
  · rw [h]
    exact ⟨(only_enterIndexing d n s).mono, by simp [enterIndexing]⟩

theorem lifted_afterLift {c : CycleRecord} {s : State} (hc : s.tgc.cycle = some c) (hhome : s.pins.home = false)
    (hslide : noSlide s) : lifted s.tgc c s (afterLift c s) := by
  have hdrop := enterDropping_of_noSlide hslide
  refine ⟨fun h => ?_, fun hseat h => ?_, fun hseat hfirst hcancel hskip => ⟨fun n hm => ?_, fun n hm => ?_,
    fun p q hm hp => ⟨fun hpq => ?_, fun hpq => ?_⟩⟩, fun d hseat hm hfirst hcancel hskip hd => ?_⟩
  · have hto : afterLift c s = s.updTgc Tgc.dropped := by
      rcases h with h | ⟨hm, hf, hcancel⟩
      · simp [afterLift, h, hdrop]
      · simp [afterLift, hm, hf, hcancel, hdrop]
    rw [hto]
    exact ⟨rfl, rfl⟩
  · have hto : afterLift c s = enterHoming s := by
      rcases h with h | h <;> simp [afterLift, hseat, h]
    rw [hto, enterHoming_of_away hhome]
    simp [updCycle, setPosition, hc]
  · have hto : afterLift c s = enterIndexing .forward n s := by
      simp [afterLift, indexEntry, hseat, hfirst, hcancel, hskip, hm]
    rw [hto]
    exact ⟨enterIndexing_tgc hc _ _, rfl⟩
  · have hto : afterLift c s = enterIndexing .backward n s := by
      simp [afterLift, indexEntry, hseat, hfirst, hcancel, hskip, hm]
    rw [hto]
    exact ⟨enterIndexing_tgc hc _ _, rfl⟩
  · have hto : afterLift c s = enterIndexing (gotoWay p q).1 (gotoWay p q).2 s := by
      simp [afterLift, indexEntry, hseat, hfirst, hcancel, hskip, hm, slot_of_known hp, hpq]
    rw [hto]
    exact ⟨enterIndexing_tgc hc _ _, rfl⟩
  · have hto : afterLift c s = s.updTgc Tgc.dropped := by
      simp [afterLift, indexEntry, hseat, hfirst, hcancel, hskip, hm, slot_of_known hp, hpq, hdrop]
    rw [hto]
    exact ⟨rfl, rfl⟩
  · have hto : afterLift c s = enterIndexing d 1 s := by
      simp [afterLift, indexEntry, hseat, hfirst, hcancel, hskip, hm, hd]
    rw [hto]
    exact ⟨enterIndexing_tgc hc _ _, rfl⟩

/-- Where a lift leads is said of tray records and position alone. -/
theorem lifted_congr {g : Tgc} {c : CycleRecord} {s s' t t' : State} (h : lifted g c s t)
    (hs : s'.retained.position = s.retained.position) (htgc : t'.tgc = t.tgc)
    (ht : t'.retained.position = t.retained.position) : lifted g c s' t' := by
  unfold lifted at h ⊢
  simpa only [hs, htgc, ht] using h

end Sys2Proof.Proofs
end

section
/-! PROOFS. Lift attempts and the phase after a lift (R8 to R12). -/

namespace Sys2Proof.Proofs

open Sys2Proof.Machine Sys2Proof.Safety

/-! ## The shorter way round (R12) -/

theorem stepSlot_forward_iterate (n : Nat) (p : Slot) : ((stepSlot .forward)^[n] p).val = (p.val + n) % 91 := by
  induction n with
  | zero => exact (Nat.mod_eq_of_lt p.isLt).symm
  | succ n ih =>
    rw [Function.iterate_succ_apply', stepSlot, Fin.val_add, ih, Fin.val_one]
    omega

/-- A step backward is 90 steps forward. -/
theorem stepSlot_backward_iterate (n : Nat) (p : Slot) : ((stepSlot .backward)^[n] p).val = (p.val + 90 * n) % 91 := by
  induction n with
  | zero => exact (Nat.mod_eq_of_lt p.isLt).symm
  | succ n ih =>
    rw [Function.iterate_succ_apply', stepSlot, Fin.val_sub, ih, Fin.val_one]
    omega

/-- The steps forward from one slot to another. -/
theorem sub_val (p q : Slot) : (q - p).val = (q.val + 91 - p.val) % 91 := by
  rw [Fin.val_sub]
  congr 1
  omega

theorem gotoWay_arrives (p q : Slot) (h : p ≠ q) :
    (gotoWay p q).2 ≤ 45 ∧ 1 ≤ (gotoWay p q).2 ∧
    ((gotoWay p q).1 = .forward ↔ (q.val + 91 - p.val) % 91 ≤ 45) ∧
    (stepSlot (gotoWay p q).1)^[(gotoWay p q).2] p = q := by
  have hne : p.val ≠ q.val := fun hval => h (Fin.ext hval)
  have hp := p.isLt
  have hq := q.isLt
  unfold gotoWay
  rw [sub_val]
  by_cases hf : (q.val + 91 - p.val) % 91 ≤ 45
  · simp only [hf, if_true, true_and]
    refine ⟨by omega, Fin.ext ?_⟩
    rw [stepSlot_forward_iterate]
    omega
  · simp only [hf, if_false, iff_false]
    refine ⟨by omega, by omega, by simp, Fin.ext ?_⟩
    rw [stepSlot_backward_iterate]
    omega

/-! ## The events of a lift -/

theorem exec_settleExpiry {s : State} (hs : runs s) (ht : s.tgc.timer = some .settle) :
    exec .settleExpiry s = .next (settle (enterLifting s)) := by
  refine congrArg _ ((whenRunning_of hs.1 _).trans ?_)
  rw [onTimer, if_pos ht]

theorem exec_liftTimeout {s : State} (hs : runs s) (ht : s.tgc.timer = some .lift) :
    exec .liftTimeout s = .next (settle (liftExpired s)) := by
  refine congrArg _ ((whenRunning_of hs.1 _).trans ?_)
  rw [onTimer, if_pos ht]

theorem exec_liftReleaseExpiry {s : State} (hs : runs s) (ht : s.tgc.timer = some .release) :
    exec .liftReleaseExpiry s =
      .next (settle (startLift (updCycle (fun c => { c with attempt := c.attempt + 1 }) s))) := by
  refine congrArg _ ((whenRunning_of hs.1 _).trans ?_)
  rw [onTimer, if_pos ht]

theorem exec_gateUp_active {s : State} (hs : runs s) (ht : s.tgc.timer = some .lift) :
    exec (.gateUp true) s = .next (settle (liftSucceeded (s.updPins fun p => { p with gateUp := true }))) := by
  refine congrArg _ ((whenRunning_updPins hs.1 _ rfl).trans ?_)
  simp [gateUpActive, onTimer, ht]

theorem exec_gateUp_inactive {s : State} (hs : runs s) :
    exec (.gateUp false) s = .next (settle (s.updPins fun p => { p with gateUp := false })) :=
  congrArg _ (whenRunning_updPins hs.1 _ rfl)

/-- A sensor that changes its level alone. -/
theorem settle_updPins {s : State} (hs : settled s) (f : Pins → Pins) : onlyChanges [.pins] s (settle (s.updPins f)) :=
  (settle_same hs ((onlyChanges.refl s).updPins f) rfl rfl).2

/-! ## Attempts (R8 to R10) -/

/-- The lift drive on, with attempt `n` under way. -/
def lifting (c : CycleRecord) (n : Nat) (t : Tgc) : Tgc :=
  { t with phase := .lifting, lift := true, timer := some .lift, cycle := some { c with attempt := n } }

theorem startLift_of_down {s : State} {c : CycleRecord} (hc : s.tgc.cycle = some c) (f : CycleRecord → CycleRecord)
    (n : Nat) (hf : f c = { c with attempt := n }) (hup : s.pins.gateUp = false) :
    startLift (updCycle f s) = s.updTgc (lifting c n) := by
  have hcycle : (updCycle f s) = s.updTgc fun t => { t with cycle := some { c with attempt := n } } := by
    simp only [updCycle, State.updTgc, hc, Option.map_some, hf]
  rw [hcycle]
  exact if_neg (by simp [hup])

theorem startLift_of_up {s : State} {c : CycleRecord} (hc : s.tgc.cycle = some c) (f : CycleRecord → CycleRecord)
    (n : Nat) (hf : f c = { c with attempt := n }) (hup : s.pins.gateUp = true) :
    startLift (updCycle f s) = liftSucceeded (s.updTgc (lifting c n)) := by
  have hcycle : (updCycle f s) = s.updTgc fun t => { t with cycle := some { c with attempt := n } } := by
    simp only [updCycle, State.updTgc, hc, Option.map_some, hf]
  rw [hcycle]
  exact if_pos hup

/-- A success at the first attempt, with no sensor active but the gate's (R9). -/
theorem lift_succeeds_first {l : List Area} {s u : State} {c : CycleRecord} (hs : settled s)
    (hphase : s.tgc.phase ≠ .ready) (hu : onlyChanges l s u) (hc : u.tgc.cycle = some c) (ha : c.attempt < 2)
    (hhome : u.pins.home = false) (hslide : noSlide u) (hpos : u.retained.position = s.retained.position)
    (hl : ∀ p ∈ [Area.tgc, .position], p ∈ l := by decide) (hshutter : .shutter ∉ l := by decide)
    (hlink : .linkOut ∈ l ∨ .linkIn ∉ l ∧ .linkErrors ∉ l := by decide) :
    lifted u.tgc c s (settle (liftSucceeded u)) ∧ onlyChanges l s (settle (liftSucceeded u)) := by
  rw [liftSucceeded_of_first hc ha]
  obtain ⟨honly, hto⟩ := only_afterLift c (s := u.updTgc fun t => { t with timer := none }) hhome hslide
  have hstep := (hu.updTgc (f := fun t => { t with timer := none }) rfl (hl _ (by decide))).trans (honly.mono hl)
  obtain ⟨htgc, hsettle⟩ := settle_closed hs hstep hphase hto hshutter hlink
  have hlifted := lifted_afterLift (c := c) (s := u.updTgc fun t => { t with timer := none }) hc hhome hslide
  exact ⟨lifted_congr hlifted hpos.symm htgc rfl, hsettle⟩

/-- A success at a later attempt: T1, and the phase that follows (R9, R10). -/
theorem lift_succeeds_retried {l : List Area} {s u : State} {c : CycleRecord} (hs : settled s)
    (hphase : s.tgc.phase ≠ .ready) (hu : onlyChanges l s u) (hc : u.tgc.cycle = some c) (ha : 2 ≤ c.attempt)
    (hhome : u.pins.home = false) (hslide : noSlide u) (hpos : u.retained.position = s.retained.position)
    (hflt : u.flt = s.flt) (hl : ∀ p ∈ Area.tgc :: .position :: faultReports, p ∈ l := by decide)
    (hshutter : .shutter ∉ l := by decide) :
    lifted u.tgc c s (settle (liftSucceeded u)) ∧
      raised .liftRetried .note (.atSlot s.slot) s (settle (liftSucceeded u)) ∧
      onlyChanges l s (settle (liftSucceeded u)) := by
  rw [liftSucceeded_of_retry hc ha, show u.slot = s.slot from congrArg Position.slot hpos]
  have hfault := raised.recordFault (c := .liftRetried) (sv := .note) (d := .atSlot s.slot)
    (t := u.updTgc fun t => { t with timer := none }) hflt
  have hrecord := (hu.updTgc (f := fun t => { t with timer := none }) rfl (hl _ (by decide))).recordFault .liftRetried
    .note (.atSlot s.slot) fun p hp => hl p (by simp [hp])
  generalize hv : recordFault .liftRetried .note (.atSlot s.slot) (u.updTgc fun t => { t with timer := none }) = v
    at hfault hrecord ⊢
  have hvtgc : v.tgc = { u.tgc with timer := none } := by simp [← hv]
  have hvpos : v.retained.position = u.retained.position := by simp [← hv]
  have hvpins : v.pins = u.pins := by simp [← hv]
  have hvhome : v.pins.home = false := hvpins ▸ hhome
  have hvslide : noSlide v := by
    unfold noSlide
    rwa [hvpins, hvpos]
  obtain ⟨honly, hto⟩ := only_afterLift c hvhome hvslide
  have hstep := hrecord.trans (honly.mono fun p hp => hl p (by simp at hp ⊢; tauto))
  obtain ⟨htgc, hsettle⟩ := settle_closed hs hstep hphase hto hshutter (.inl (hl _ (by decide)))
  have hlifted := lifted_afterLift (c := c) (s := v) (by rw [hvtgc]; exact hc) hvhome hvslide
  rw [hvtgc] at hlifted
  exact ⟨lifted_congr hlifted (hpos.symm.trans hvpos.symm) htgc rfl, (hfault.of_only honly).settle, hsettle⟩

/-- A gate that drops at once with a slide at its slot finds it (R9, R14). -/
theorem afterLift_of_dropsAt {s : State} {c : CycleRecord} {p : Slot} (h : dropsAt c p)
    (hp : s.retained.position = .known p) : afterLift c s = enterDropping s := by
  rcases h with h | ⟨hm, hfirst, hcancel⟩ | ⟨hm, hfirst, hskip⟩
  · simp [afterLift, h]
  · simp [afterLift, hm, hfirst, hcancel]
  · simp [afterLift, hm, hfirst, hskip, indexEntry, slot_of_known hp]

theorem afterLift_of_home {s : State} {c : CycleRecord} (hseat : c.seatRetried = false)
    (hm : c.move = .home ∨ c.homeFirst = true) : afterLift c s = enterHoming s := by
  rcases hm with hm | hm <;> simp [afterLift, hseat, hm]

/-- Settles O15: each expiry and each level of the gate-up sensor, by the phase that R9 decides on. -/
theorem liftChoosesThePhase : Obligations.LiftChoosesThePhase := by
  unfold Obligations.LiftChoosesThePhase
  refine ⟨fun s c hs hphase ht hc hup => ?_, fun s c hs hphase ht hc ha => ?_, fun s c hs hphase ht hc hup => ?_,
    fun s c hs hphase ht hc hhome hslide => ?_, fun s c hs hphase ht hc hup hhome hslide => ?_,
    fun s c hs hphase ht hc ha hup hhome hslide => ?_, fun s c hs hphase ht hc ha => ⟨fun hhome hseat hm => ?_,
      fun p hslide hopen hp hp0 hdrops => ?_⟩, fun s hs => ?_, gotoWay_arrives⟩
  case refine_1 =>
    have hlift : enterLifting s = s.updTgc (lifting c 1) := startLift_of_down hc _ 1 rfl hup
    have honly : onlyChanges [.tgc] s (s.updTgc (lifting c 1)) := (onlyChanges.refl s).updTgc rfl
    obtain ⟨htgc, honly⟩ := settle_closed hs.2 honly (by simp [hphase]) (by simp [lifting])
    exact ⟨_, hlift ▸ exec_settleExpiry hs ht, htgc, honly⟩
  case refine_2 =>
    have hexpired : liftExpired s = s.updTgc fun t => { t with lift := false, timer := some .release } := by
      simp [liftExpired, hc, ha]
    have honly : onlyChanges [.tgc] s (s.updTgc fun t => { t with lift := false, timer := some .release }) :=
      (onlyChanges.refl s).updTgc rfl
    obtain ⟨htgc, honly⟩ := settle_closed hs.2 honly (by simp [hphase]) (by simp [hphase])
    exact ⟨_, hexpired ▸ exec_liftTimeout hs ht, htgc, honly⟩
  case refine_3 =>
    have hexec := exec_liftReleaseExpiry hs ht
    rw [startLift_of_down hc _ (c.attempt + 1) rfl hup] at hexec
    have honly : onlyChanges [.tgc] s (s.updTgc (lifting c (c.attempt + 1))) := (onlyChanges.refl s).updTgc rfl
    obtain ⟨htgc, honly⟩ := settle_closed hs.2 honly (by simp [hphase]) (by simp [lifting])
    exact ⟨_, hexec, htgc.trans (by simp [lifting, hphase]), honly⟩
  case refine_4 =>
    have hup : onlyChanges [.pins, .tgc, .position] s (s.updPins fun p => { p with gateUp := true }) :=
      (onlyChanges.refl s).updPins _
    refine ⟨_, exec_gateUp_active hs ht, ?_, ?_⟩
    · simp
    · rcases lt_or_ge c.attempt 2 with ha | ha
      · obtain ⟨hlifted, honly⟩ := lift_succeeds_first hs.2 (by simp [hphase]) hup hc ha hhome hslide rfl
        exact ⟨hlifted, fun _ => honly, fun h => absurd h (not_le.2 ha)⟩
      · obtain ⟨hlifted, hraised, honly⟩ := lift_succeeds_retried
          (l := .pins :: .tgc :: .position :: faultReports) hs.2 (by simp [hphase]) hup.mono hc ha hhome hslide rfl rfl
        exact ⟨hlifted, fun h => absurd ha (not_le.2 h), fun _ => ⟨hraised, honly⟩⟩
  case refine_5 =>
    have hlift : enterLifting s = liftSucceeded (s.updTgc (lifting c 1)) := startLift_of_up hc _ 1 rfl hup
    have honly : onlyChanges [.tgc, .position] s (s.updTgc (lifting c 1)) := (onlyChanges.refl s).updTgc rfl
    obtain ⟨hlifted, honly⟩ := lift_succeeds_first (c := { c with attempt := 1 }) hs.2
      (by simp [hphase]) honly rfl (by simp) hhome
      hslide rfl
    exact ⟨_, hlift ▸ exec_settleExpiry hs ht, hlifted, honly⟩
  case refine_6 =>
    have hexec := exec_liftReleaseExpiry hs ht
    rw [startLift_of_up hc _ (c.attempt + 1) rfl hup] at hexec
    have honly : onlyChanges (.tgc :: .position :: faultReports) s (s.updTgc (lifting c (c.attempt + 1))) :=
      (onlyChanges.refl s).updTgc rfl
    obtain ⟨hlifted, hraised, honly⟩ := lift_succeeds_retried
      (c := { c with attempt := c.attempt + 1 }) hs.2 (by simp [hphase]) honly
      rfl (Nat.succ_le_succ ha) hhome hslide rfl rfl
    exact ⟨_, hexec, hlifted, hraised, honly⟩
  case refine_7 =>
    have hexec := exec_gateUp_active hs ht
    rw [liftSucceeded_of_first (c := c) (by exact hc) ha, afterLift_of_home hseat hm,
      enterHoming_of_home (by exact hhome)] at hexec
    have honly : onlyChanges [.pins, .tgc, .position] s ((setPosition (.known 0) ((s.updPins fun p =>
        { p with gateUp := true }).updTgc fun t => { t with timer := none })).updTgc Tgc.dropped) :=
      ((((onlyChanges.refl s).updPins _).updTgc rfl).setPosition _).updTgc rfl
    obtain ⟨htgc, honly⟩ := settle_closed hs.2 honly (by simp [hphase]) (by simp [Tgc.dropped])
    exact ⟨_, hexec, htgc, rfl, honly⟩
  case refine_8 =>
    have hexec := exec_gateUp_active hs ht
    rw [liftSucceeded_of_first (c := c) (by exact hc) ha, afterLift_of_dropsAt hdrops (by exact hp),
      enterDropping_of_slide (p := p) (by exact hslide) (by exact hp) hp0,
      dropFound_of_open (p := p) (by exact hp) (by exact hopen)] at hexec
    have honly : onlyChanges [.pins, .tgc, .map] s (slideFound p (((s.updPins fun p =>
        { p with gateUp := true }).updTgc fun t => { t with timer := none }).updTgc Tgc.dropped)) :=
      only_slideFound ((((onlyChanges.refl s).updPins _).updTgc rfl).updTgc rfl) p
    obtain ⟨htgc, honly⟩ := settle_closed hs.2 honly (by simp [hphase]) (by simp [slideFound_tgc])
    exact ⟨_, hexec, htgc.trans (slideFound_tgc _ _), slideFound_map hp0 _, honly⟩
  case refine_9 => exact ⟨_, exec_gateUp_inactive hs, rfl, settle_updPins hs.2 _⟩

end Sys2Proof.Proofs
end

section
/-! PROOFS. Index pulses (R2, R11, R21). -/

namespace Sys2Proof.Proofs

open Sys2Proof.Machine Sys2Proof.Safety

theorem exec_indexPulse {s : State} (hs : runs s) (home : Bool) : exec (.indexPulse home) s =
    .next (settle (indexPulsed (s.updPins fun p => { p with home := home }))) :=
  congrArg _ (whenRunning_updPins hs.1 _ rfl)

/-- The records of a pulse in INDEXING: one slot on, and one step less to go (R2, R11). -/
def pulsed (c : CycleRecord) (d : Direction) (s : State) : State :=
  (setPosition (s.retained.position.step d) s).updTgc fun t => { t with cycle := some { c with steps := c.steps - 1 } }

theorem only_pulsed {l : List Area} {s t : State} (h : onlyChanges l s t) (c : CycleRecord) (d : Direction)
    (hp : .position ∈ l := by decide) (ht : .tgc ∈ l := by decide) : onlyChanges l s (pulsed c d t) :=
  (h.setPosition _ hp).updTgc rfl ht

theorem pulseIndexing_eq {s : State} {c : CycleRecord} {d : Direction} (hc : s.tgc.cycle = some c)
    (hd : c.direction = some d) : pulseIndexing c s =
      if c.cancel = true ∨ c.steps ≤ 1 then enterDropping (pulsed c d s) else pulsed c d s := by
  have hpulsed : updCycle (fun c => { c with steps := c.steps - 1 })
      (setPosition (s.retained.position.step (c.direction.getD .forward)) s) = pulsed c d s := by
    simp only [updCycle, setPosition, pulsed, State.updTgc, State.updRetained, hc, hd, Option.map_some,
      Option.getD_some]
  simp only [pulseIndexing, hpulsed]

theorem indexPulsed_of_indexing {s : State} {c : CycleRecord} (hc : s.tgc.cycle = some c)
    (hphase : s.tgc.phase = .indexing) : indexPulsed s = pulseIndexing c s := by
  simp [indexPulsed, hc, hphase]

theorem indexPulsed_of_homing {s : State} {c : CycleRecord} (hc : s.tgc.cycle = some c)
    (hphase : s.tgc.phase = .homing) : indexPulsed s = pulseHoming c s := by
  simp [indexPulsed, hc, hphase]

/-- A pulse in INDEXING, the last one or one of more to come (R11, R23). -/
theorem exec_indexPulse_indexing {s : State} {c : CycleRecord} {d : Direction} (hs : runs s) (home : Bool)
    (hphase : s.tgc.phase = .indexing) (hc : s.tgc.cycle = some c) (hd : c.direction = some d) :
    exec (.indexPulse home) s = .next (settle (if c.cancel = true ∨ c.steps ≤ 1 then
      enterDropping (pulsed c d (s.updPins fun p => { p with home := home }))
      else pulsed c d (s.updPins fun p => { p with home := home }))) := by
  rw [exec_indexPulse hs, indexPulsed_of_indexing (s := s.updPins _) hc hphase,
    pulseIndexing_eq (s := s.updPins _) hc hd]

theorem exec_indexPulse_homing {s : State} {c : CycleRecord} (hs : runs s) (home : Bool)
    (hphase : s.tgc.phase = .homing) (hc : s.tgc.cycle = some c) :
    exec (.indexPulse home) s = .next (settle (pulseHoming c (s.updPins fun p => { p with home := home }))) := by
  rw [exec_indexPulse hs, indexPulsed_of_homing (s := s.updPins _) hc hphase]

/-- Where a pulse in INDEXING takes the position (R2). -/
theorem pulsed_position (c : CycleRecord) (d : Direction) (s : State) :
    (∀ p, s.retained.position = .known p → (pulsed c d s).retained.position = .known (stepSlot d p)) ∧
    (s.retained.position = .unknown → (pulsed c d s).retained.position = .unknown) := by
  constructor
  · intro p hp
    simp [pulsed, setPosition, hp, Position.step]
  · intro hp
    simp [pulsed, setPosition, hp, Position.step]

/-- In any other phase a pulse moves nothing (R2). -/
theorem indexPulsed_of_other {s : State} (hindexing : s.tgc.phase ≠ .indexing) (hhoming : s.tgc.phase ≠ .homing) :
    indexPulsed s = s := by
  unfold indexPulsed
  split
  · rfl
  · split
    · next h => exact absurd h hindexing
    · next h => exact absurd h hhoming
    all_goals rfl

theorem pulseHoming_of_home {s : State} (c : CycleRecord) (h : s.pins.home = true) :
    pulseHoming c s = (setPosition (.known 0) s).updTgc Tgc.dropped :=
  (if_pos h).trans (enterDropping_of_noSlide (.inr rfl))

/-- A pulse before the 92nd is counted (R21). -/
theorem pulseHoming_of_away {s : State} {c : CycleRecord} (hc : s.tgc.cycle = some c) (h : s.pins.home = false)
    (hn : c.pulses < 91) :
    pulseHoming c s = s.updTgc fun t => { t with cycle := some { c with pulses := c.pulses + 1 } } := by
  have hfew : c.pulses + 1 < 92 := by omega
  simp [pulseHoming, h, hfew, updCycle, State.updTgc, hc]

/-- Settles O16: by the phase, and in INDEXING by whether the pulse is the last one. -/
theorem indexPulsesMoveTheTray : Obligations.IndexPulsesMoveTheTray := by
  unfold Obligations.IndexPulsesMoveTheTray
  refine ⟨fun s c d home hs hphase hc hd hslide => ?_,
    fun s c d home p hs hphase hc hd hlast hp hne hslide hopen => ?_, fun s c hs hphase hc => ?_,
    fun s c hs hphase hc hn => ?_, fun s home hs hindexing hhoming => ?_⟩
  case refine_1 =>
    have hexec := exec_indexPulse_indexing hs home hphase hc hd
    have hpulse : onlyChanges [.pins, .position, .tgc] s (pulsed c d (s.updPins fun p => { p with home := home })) :=
      only_pulsed ((onlyChanges.refl s).updPins _) c d
    obtain ⟨hknown, hunknown⟩ := pulsed_position c d (s.updPins fun p => { p with home := home })
    have hforward : ∀ p, s.retained.position = .known p → d = .forward →
        (pulsed c d (s.updPins fun p => { p with home := home })).retained.position = .known (p + 1) := by
      rintro p hp rfl
      exact hknown p hp
    have hbackward : ∀ p, s.retained.position = .known p → d = .backward →
        (pulsed c d (s.updPins fun p => { p with home := home })).retained.position = .known (p - 1) := by
      rintro p hp rfl
      exact hknown p hp
    by_cases hlast : c.cancel = true ∨ c.steps ≤ 1
    · rw [if_pos hlast, enterDropping_of_noSlide (.inl (by exact hslide))] at hexec
      obtain ⟨htgc, honly⟩ := settle_closed hs.2 (hpulse.updTgc (f := Tgc.dropped) rfl) (by simp [hphase])
        (by simp [Tgc.dropped])
      refine ⟨_, hexec, rfl, hforward, hbackward, hunknown, fun hcancel hsteps => ?_, fun _ => htgc, honly⟩
      exact absurd hlast (by simp [hcancel, hsteps])
    · rw [if_neg hlast] at hexec
      obtain ⟨htgc, honly⟩ := settle_closed hs.2 hpulse (by simp [hphase]) (by simp [pulsed, setPosition, hphase])
      exact ⟨_, hexec, rfl, hforward, hbackward, hunknown, fun _ _ => htgc, fun h => absurd h hlast, honly⟩
  case refine_2 =>
    have hexec := exec_indexPulse_indexing hs home hphase hc hd
    have hknown := (pulsed_position c d (s.updPins fun p => { p with home := home })).1 p hp
    rw [if_pos hlast, enterDropping_of_slide (by exact hslide) hknown hne, dropFound_of_open (by exact hknown)
      (by exact hopen)] at hexec
    have honly : onlyChanges [.pins, .position, .map, .tgc] s (slideFound (stepSlot d p)
        ((pulsed c d (s.updPins fun p => { p with home := home })).updTgc Tgc.dropped)) :=
      only_slideFound ((only_pulsed ((onlyChanges.refl s).updPins _) c d).updTgc rfl) _
    obtain ⟨htgc, honly⟩ := settle_closed hs.2 honly (by simp [hphase]) (by simp [slideFound_tgc])
    refine ⟨_, hexec, ?_, htgc.trans (slideFound_tgc _ _), slideFound_map hne _, honly⟩
    simpa [slideFound] using hknown
  case refine_3 =>
    have hexec := exec_indexPulse_homing hs true hphase hc
    rw [pulseHoming_of_home c rfl] at hexec
    have honly : onlyChanges [.pins, .position, .tgc] s
        ((setPosition (.known 0) (s.updPins fun p => { p with home := true })).updTgc Tgc.dropped) :=
      (((onlyChanges.refl s).updPins _).setPosition _).updTgc rfl
    obtain ⟨htgc, honly⟩ := settle_closed hs.2 honly (by simp [hphase]) (by simp [Tgc.dropped])
    exact ⟨_, hexec, rfl, htgc, honly⟩
  case refine_4 =>
    have hexec := exec_indexPulse_homing hs false hphase hc
    rw [pulseHoming_of_away (by exact hc) rfl hn] at hexec
    have honly : onlyChanges [.pins, .tgc] s ((s.updPins fun p => { p with home := false }).updTgc fun t =>
        { t with cycle := some { c with pulses := c.pulses + 1 } }) := ((onlyChanges.refl s).updPins _).updTgc rfl
    obtain ⟨htgc, honly⟩ := settle_closed hs.2 honly (by simp [hphase]) (by simp [hphase])
    exact ⟨_, hexec, htgc, honly⟩
  case refine_5 =>
    have hexec := exec_indexPulse hs home
    rw [indexPulsed_of_other (s := s.updPins _) hindexing hhoming] at hexec
    exact ⟨_, hexec, settle_updPins hs.2 _⟩

end Sys2Proof.Proofs
end

section
/-! PROOFS. The end of a cycle, and what the show does of its own entry (R15, R16, R22, R37, R134, R136). -/

namespace Sys2Proof.Proofs

open Sys2Proof.Machine Sys2Proof.Safety

theorem exec_gateSeated_active {s : State} (hs : runs s) (ht : s.tgc.timer = some .seat) :
    exec (.gateSeated true) s = .next (settle (seatSucceeded (s.updPins fun p => { p with gateSeated := true }))) := by
  refine congrArg _ ((whenRunning_updPins hs.1 _ rfl).trans ?_)
  simp [onTimer, ht]

theorem exec_gateSeated_inactive {s : State} (hs : runs s) :
    exec (.gateSeated false) s = .next (settle (s.updPins fun p => { p with gateSeated := false })) :=
  congrArg _ (whenRunning_updPins hs.1 _ rfl)

theorem exec_seatTimeout {s : State} (hs : runs s) (ht : s.tgc.timer = some .seat) :
    exec .seatTimeout s = .next (settle (seatExpired s)) := by
  refine congrArg _ ((whenRunning_of hs.1 _).trans ?_)
  rw [onTimer, if_pos ht]

/-! ## The seat's own records -/

/-- T3 where the gate was lifted once more (R16). -/
def seatRecorded (c : CycleRecord) (s : State) : State :=
  if c.seatRetried then recordFault .seatRetried .note (.atSlot s.slot) s else s

theorem seatSucceeded_eq {s : State} {c : CycleRecord} (hc : s.tgc.cycle = some c) : seatSucceeded s =
    if c.homeFirst = true ∧ c.cancel = false then
      enterClosing (updCycle (fun c =>
        { c with homeFirst := false, attempt := 1, seatRetried := false, emptyDrops := 0, pulses := 0 })
        (seatRecorded c s))
    else completeCycle c (seatRecorded c s) := by
  have hrecord : (if c.seatRetried then raiseFault .seatRetried (.atSlot s.slot) s else s) = seatRecorded c s := by
    rw [raiseFault_note rfl, seatRecorded]
  simp only [seatSucceeded, hc, hrecord]

theorem seatRecorded_of_first {c : CycleRecord} (h : c.seatRetried = false) (s : State) : seatRecorded c s = s := by
  simp [seatRecorded, h]

theorem seatRecorded_of_retried {c : CycleRecord} (h : c.seatRetried = true) (s : State) :
    seatRecorded c s = recordFault .seatRetried .note (.atSlot s.slot) s := by
  simp [seatRecorded, h]

@[simp] theorem seatRecorded_frame (c : CycleRecord) (s : State) :
    (seatRecorded c s).tgc = s.tgc ∧ (seatRecorded c s).mq = s.mq ∧ (seatRecorded c s).shc = s.shc ∧
      (seatRecorded c s).retained = s.retained ∧ (seatRecorded c s).pins = s.pins ∧
      (seatRecorded c s).power = s.power := by
  unfold seatRecorded
  split <;> simp

theorem only_seatRecorded {l : List Area} {s t : State} (h : onlyChanges l s t) (c : CycleRecord)
    (hl : ∀ p ∈ faultReports, p ∈ l := by decide) : onlyChanges l s (seatRecorded c t) := by
  unfold seatRecorded
  split
  · exact h.recordFault _ _ _ hl
  · exact h

/-! ## The cycle's end in READY (R15, R37) -/

/-- The drives off and the cycle gone, in READY. -/
def Tgc.ended (t : Tgc) : Tgc := { t.stopped with phase := .ready }

/-- The records of a cycle that has ended, with the queue's head gone. -/
def cycleEnded (rest : List Motion) (s : State) : State := (s.updTgc Tgc.ended).updMq fun _ => rest

theorem only_cycleEnded {l : List Area} {s t : State} (h : onlyChanges l s t) (rest : List Motion)
    (ht : .tgc ∈ l := by decide) (hm : .mq ∈ l := by decide) : onlyChanges l s (cycleEnded rest t) :=
  (h.updTgc rfl ht).updMq _ hm

/-- The head leaves with its notice, and the show is told of its own (R15, R37, R43). -/
theorem completeCycle_eq {s : State} {m : Motion} {rest : List Motion} (c : CycleRecord) (hmq : s.mq = m :: rest) :
    ∃ e, completeCycle c s =
      if c.cancel then tellCancelled (raiseEvent e (cycleEnded rest s)) m
      else if c.source = .theShow then showMoveDone s.retained.position (raiseEvent e (cycleEnded rest s))
      else raiseEvent e (cycleEnded rest s) := by
  have hended : ((s.updTgc fun t => { t.stopped with phase := .ready }).updMq fun q => q.drop 1) =
    cycleEnded rest s := by
    simp only [cycleEnded, State.updMq, State.updTgc, hmq, List.drop_one, List.tail_cons, Tgc.ended]
  by_cases hcancel : c.cancel = true
  · refine ⟨.motionCancelled m c.cancelReason (some s.retained.position), ?_⟩
    simp only [completeCycle, hended, hcancel, if_true, State.updTgc_mq, hmq, List.head?_cons, activeCancelled]
    rfl
  · refine ⟨.changeDone c.move c.source c.tag s.retained.position s.tgc.gateLoad, ?_⟩
    simp only [completeCycle, hended, hcancel]
    rfl

/-- An entry that is not the show's ends with its notice alone. -/
theorem completeCycle_other {s : State} {c : CycleRecord} {m : Motion} {rest : List Motion} (hmq : s.mq = m :: rest)
    (hc : c.source ≠ .theShow) (hm : m.source ≠ .theShow) :
    ∃ e, completeCycle c s = raiseEvent e (cycleEnded rest s) := by
  obtain ⟨e, he⟩ := completeCycle_eq c hmq
  exact ⟨e, by simpa [tellCancelled, hc, hm] using he⟩

theorem running_of_only {l : List Area} {s t : State} (hrun : s.running = true) (h : onlyChanges l s t)
    (hpin : t.pins.resetPin = s.pins.resetPin) (hpower : .power ∉ l := by decide) : t.running = true := by
  simpa only [State.running, State.live, h.power hpower, hpin] using hrun

/-- A step that ends a cycle: the shutter opens unless the blank hold is set (R5, R15). -/
theorem seated_settle {l : List Area} {s u w : State} {rest : List Motion} (hs : runs s) (hw : onlyChanges l s w)
    (hpin : w.pins.resetPin = s.pins.resetPin) (htgc : w.tgc = Tgc.ended u.tgc) (hmq : w.mq = rest)
    (hpower : .power ∉ l := by decide) (hl : .shutter ∈ l ∧ .linkOut ∈ l := by decide) :
    seated rest u (settle w) ∧ onlyChanges l s (settle w) := by
  have hopen : w.shutterOpen = !u.tgc.blank := by
    rw [shutterOpen_of_running (running_of_only hs.1 hw hpin hpower), htgc]
    simp [Tgc.ended, Tgc.stopped]
  refine ⟨⟨?_, hmq⟩, hw.settle hs.2 (.inl hl.1) (.inl hl.2)⟩
  rw [settle_tgc, hopen, htgc]
  rfl

/-! ## The show's own entry (R134, R136) -/

/-- A check that is not made, or that matches, acts on nothing (R136). -/
theorem itemCheck_of_none {s : State} {check : Option SlotCheck} {position : Position}
    (h : check = none ∨ (s.shc.state = .stopped ∨ s.shc.state = .starting ∨ s.shc.state = .looping) ∨
      ∃ (cue : Nat) (p : Slot), check = some ⟨cue, p.val⟩ ∧ position = .known p) : itemCheck check position s = s := by
  rcases h with rfl | hstate | ⟨cue, p, rfl, rfl⟩
  · rfl
  · cases check with
    | none => rfl
    | some k => rcases hstate with h | h | h <;> simp only [itemCheck, h]
  · have hmatch : slotCheck ⟨cue, p.val⟩ (.known p) s = s := if_pos rfl
    simp only [itemCheck, hmatch]
    split <;> rfl

/-- The detail of a C7 (R136). -/
def mismatch (cue : Nat) (p : Slot) (position : Position) : Detail :=
  { Detail.empty with cue := some cue, expected := some p.val, position := some position }

/-- A check that is made and does not match raises C7 and, with RESYNC on, offers the GOTO (R136). -/
theorem itemCheck_of_mismatch {s : State} {cue : Nat} {p : Slot} {position : Position}
    (hstate : s.shc.state = .running ∨ s.shc.state = .paused ∨ s.shc.state = .held ∨ s.shc.state = .excursion)
    (hne : position ≠ .known p) : itemCheck (some ⟨cue, p.val⟩) position s =
      if s.retained.params.resync then
        offerShow (.goto p) (some cue) .resync none (recordFault .syncLost .note (mismatch cue p position) s)
      else recordFault .syncLost .note (mismatch cue p position) s := by
  have hcheck : itemCheck (some ⟨cue, p.val⟩) position s = slotCheck ⟨cue, p.val⟩ position s := by
    rcases hstate with h | h | h | h <;> simp only [itemCheck, h]
  have hslot : position.slot.map (·.val) ≠ some p.val := by
    cases position with
    | unknown => simp [Position.slot]
    | known q =>
      intro h
      refine hne (congrArg _ (Fin.ext ?_))
      simpa [Position.slot] using h
  rw [hcheck, slotCheck, if_neg hslot]
  simp [raiseFault_note (c := .syncLost) rfl, mismatch]

theorem showMoveDone_idle {s : State} {item : Issued} {more : List Issued} {position : Position}
    (h : s.shc.issued = item :: more) (hidle : actsOnNothing item s.shc)
    (hcheck : ∀ u : State, u.shc.state = s.shc.state → itemCheck item.check position u = u) :
    showMoveDone position s = s.updShc fun c => { c with issued := more } := by
  unfold showMoveDone
  rw [h]
  simp only [List.head?_cons, popIssued_eq h]
  have hnone := hcheck (s.updShc fun c => { c with issued := more }) rfl
  rcases hidle with hp | hp | hp | ⟨hp, hcut⟩ | ⟨hp, hstate⟩ | ⟨hp, hstate, hparts⟩
  · simpa only [hp] using hnone
  · simpa only [hp] using hnone
  · simpa only [hp] using hnone
  · simpa [hp, hcut, Shc.changingCut] using hnone
  · simp [hp, hstate]
  · rcases hp with hp | hp <;> simp only [hp] <;>
      exact examine_finishPart_stopped (by exact hstate) (by exact hparts) _ _ _

/-! ## A cycle of the host's or of the handset's -/

/-- The step that ends the cycle of an entry that is not the show's (R15, R37). -/
theorem other_seated {l : List Area} {s u : State} {c : CycleRecord} {m : Motion} {rest : List Motion} (hs : runs s)
    (hu : onlyChanges l s u) (hpin : u.pins.resetPin = s.pins.resetPin) (hmq : u.mq = m :: rest)
    (hc : c.source ≠ .theShow) (hm : m.source ≠ .theShow)
    (hl : ∀ p ∈ Area.tgc :: .shutter :: .mq :: reports, p ∈ l := by decide) (hpower : .power ∉ l := by decide) :
    seated rest u (settle (completeCycle c u)) ∧ onlyChanges l s (settle (completeCycle c u)) := by
  obtain ⟨e, he⟩ := completeCycle_other hmq hc hm
  have hw := (only_cycleEnded hu rest (hl _ (by decide)) (hl _ (by decide))).raiseEvent e fun p hp =>
    hl p (by simp [hp])
  rw [he]
  exact seated_settle hs hw (by simpa [cycleEnded] using hpin) (by simp [cycleEnded]) (by simp [cycleEnded]) hpower
    ⟨hl _ (by decide), hl _ (by decide)⟩

/-! ## A cycle of the show's -/

/-- The records of a cycle of the show's that has ended, with its item gone (R15, R134). -/
def showCycleEnded (e : Event) (rest : List Motion) (more : List Issued) (s : State) : State :=
  (raiseEvent e (cycleEnded rest s)).updShc fun c => { c with issued := more }

theorem only_showCycleEnded {l : List Area} {s t : State} (h : onlyChanges l s t) (e : Event) (rest : List Motion)
    (more : List Issued) (hl : ∀ p ∈ Area.tgc :: .mq :: .shc :: reports, p ∈ l := by decide) :
    onlyChanges l s (showCycleEnded e rest more t) :=
  ((only_cycleEnded h rest (hl _ (by decide)) (hl _ (by decide))).raiseEvent e fun p hp => hl p (by simp [hp])).updShc _
    (hl _ (by decide))

@[simp] theorem showCycleEnded_frame (e : Event) (rest : List Motion) (more : List Issued) (s : State) :
    (showCycleEnded e rest more s).tgc = Tgc.ended s.tgc ∧ (showCycleEnded e rest more s).mq = rest ∧
      (showCycleEnded e rest more s).shc = { s.shc with issued := more } ∧
      (showCycleEnded e rest more s).pins = s.pins ∧ (showCycleEnded e rest more s).retained = s.retained := by
  simp [showCycleEnded, cycleEnded]

/-- An entry of the show's that leaves cancelled, and whose item acts on nothing (R37, R134). -/
theorem completeCycle_cancelled {s : State} {c : CycleRecord} {m : Motion} {rest : List Motion} {item : Issued}
    {more : List Issued} (hmq : s.mq = m :: rest) (hm : m.source = .theShow) (hissued : s.shc.issued = item :: more)
    (hcancel : c.cancel = true) (hidle : actsOnNothing item s.shc) :
    ∃ e, completeCycle c s = showCycleEnded e rest more s := by
  obtain ⟨e, he⟩ := completeCycle_eq c hmq
  refine ⟨e, he.trans ?_⟩
  rw [if_pos hcancel, tellCancelled, if_pos hm, showMoveCancelled_idle (item := item) (more := more)]
  · rfl
  · simpa [cycleEnded] using hissued
  · simpa [cycleEnded] using hidle

/-- An entry of the show's that has completed: its item is acted on (R134, R136). -/
theorem completeCycle_done {s : State} {c : CycleRecord} {m : Motion} {rest : List Motion} (hmq : s.mq = m :: rest)
    (hc : c.source = .theShow) (hcancel : c.cancel = false) :
    ∃ e, completeCycle c s = showMoveDone s.retained.position (raiseEvent e (cycleEnded rest s)) := by
  obtain ⟨e, he⟩ := completeCycle_eq c hmq
  exact ⟨e, by simpa [hcancel, hc] using he⟩

theorem completeCycle_done_idle {s : State} {c : CycleRecord} {m : Motion} {rest : List Motion} {item : Issued}
    {more : List Issued} (hmq : s.mq = m :: rest) (hc : c.source = .theShow) (hissued : s.shc.issued = item :: more)
    (hcancel : c.cancel = false) (hidle : actsOnNothing item s.shc)
    (hcheck : ∀ u : State, u.shc.state = s.shc.state → itemCheck item.check s.retained.position u = u) :
    ∃ e, completeCycle c s = showCycleEnded e rest more s := by
  obtain ⟨e, he⟩ := completeCycle_done hmq hc hcancel
  refine ⟨e, he.trans ((showMoveDone_idle (item := item) (more := more) ?_ ?_ ?_).trans rfl)⟩
  · simpa [cycleEnded] using hissued
  · simpa [cycleEnded] using hidle
  · simpa [cycleEnded] using hcheck

/-- The step that ends a cycle of the show's whose item acts on nothing. -/
theorem show_seated {l : List Area} {s u : State} {e : Event} {rest : List Motion} {more : List Issued} (hs : runs s)
    (hu : onlyChanges l s u) (htgc : u.tgc = s.tgc) (hshc : u.shc = s.shc)
    (hpin : u.pins.resetPin = s.pins.resetPin)
    (hl : ∀ p ∈ Area.tgc :: .shutter :: .mq :: .shc :: reports, p ∈ l := by decide) (hpower : .power ∉ l := by decide) :
    seated rest s (settle (showCycleEnded e rest more u)) ∧
      (settle (showCycleEnded e rest more u)).shc = { s.shc with issued := more } ∧
      onlyChanges l s (settle (showCycleEnded e rest more u)) := by
  have hw := only_showCycleEnded hu e rest more fun p hp => hl p (by simp at hp ⊢; tauto)
  obtain ⟨hseated, honly⟩ := seated_settle (u := s) (rest := rest) hs hw (by simpa using hpin)
    (by simp [htgc]) (by simp)
    hpower ⟨hl _ (by decide), hl _ (by decide)⟩
  exact ⟨hseated, by simp [hshc], honly⟩

/-! ## The checks and parts that a cycle of the show's ends (R130, R134, R136) -/

theorem showMoveDone_of_change {s : State} {item : Issued} {more : List Issued} (h : s.shc.issued = item :: more)
    (hpurpose : item.purpose = .change ∨ item.purpose = .step ∨ item.purpose = .resync) (position : Position) :
    showMoveDone position s = itemCheck item.check position (s.updShc fun c => { c with issued := more }) := by
  unfold showMoveDone
  rw [h]
  rcases hpurpose with hp | hp | hp <;> simp only [List.head?_cons, hp, popIssued_eq h]

/-- A cancelled start GOTO fails its part, and the other parts are waited for (R130, R131). -/
theorem showMoveCancelled_of_start {s : State} {item : Issued} {more : List Issued} {parts : Parts}
    (h : s.shc.issued = item :: more) (hpurpose : item.purpose = .start ∨ item.purpose = .loopReturn)
    (hgoto : s.shc.parts.goto = some .outstanding) (hparts : parts = { s.shc.parts with goto := some .failed })
    (hout : parts.outstanding = true) :
    showMoveCancelled s = s.updShc fun c => { c with issued := more, parts := parts } := by
  have hfinish : finishPart .goto .failed (popIssued s) =
      s.updShc fun c => { c with issued := more, parts := parts } := by
    simp only [popIssued_eq h, finishPart, Parts.finish, State.updShc, hgoto, if_true, hparts]
  have hexamine : examine .notice (finishPart .goto .failed (popIssued s)) =
      finishPart .goto .failed (popIssued s) := by
    rw [hfinish]
    exact if_neg (by simp [Shc.examinable, hout])
  unfold showMoveCancelled
  rw [h]
  rw [hfinish] at hexamine
  rcases hpurpose with hp | hp <;> simp only [List.head?_cons, hp, hfinish, hexamine]

/-- An entry of the show's joins a queue with room, and takes an item of the issued-move list (R33, R134). -/
theorem offerShow_joins {s : State} (hroom : s.mq.length < 8) (move : Move) (tag : Option Nat) (purpose : Purpose)
    (check : Option SlotCheck) : offerShow move tag purpose check s =
      (s.updMq fun q => q ++ [⟨move, .theShow, tag, false⟩]).updShc fun c =>
        { c with issued := c.issued ++ [⟨purpose, check⟩] } := by
  have hoffer : offer move .theShow tag s = (s.updMq fun q => q ++ [⟨move, .theShow, tag, false⟩], .joined) := by
    simp [offer, mergeInto_theShow, not_le.2 hroom]
  simp [offerShow, hoffer]

theorem seated_congr {rest : List Motion} {s u t : State} (h : seated rest u t) (htgc : u.tgc = s.tgc) :
    seated rest s t := by
  unfold seated at h ⊢
  rwa [htgc] at h

/-- A change of the show's that has completed at another slot than its check expects (R136). -/
theorem completeCycle_mismatch {s : State} {c : CycleRecord} {m : Motion} {rest : List Motion} {item : Issued}
    {more : List Issued} {cue : Nat} {p : Slot} (hmq : s.mq = m :: rest) (hc : c.source = .theShow)
    (hissued : s.shc.issued = item :: more) (hcancel : c.cancel = false)
    (hpurpose : item.purpose = .change ∨ item.purpose = .step ∨ item.purpose = .resync)
    (hstate : s.shc.state = .running ∨ s.shc.state = .paused ∨ s.shc.state = .held ∨ s.shc.state = .excursion)
    (hcheck : item.check = some ⟨cue, p.val⟩) (hne : s.retained.position ≠ .known p) :
    ∃ e, completeCycle c s =
      if s.retained.params.resync then offerShow (.goto p) (some cue) .resync none
        (recordFault .syncLost .note (mismatch cue p s.retained.position) (showCycleEnded e rest more s))
      else recordFault .syncLost .note (mismatch cue p s.retained.position) (showCycleEnded e rest more s) := by
  obtain ⟨e, he⟩ := completeCycle_done hmq hc hcancel
  refine ⟨e, he.trans ?_⟩
  have hitem : (raiseEvent e (cycleEnded rest s)).shc.issued = item :: more := by simpa [cycleEnded] using hissued
  have hmade := itemCheck_of_mismatch (s := showCycleEnded e rest more s) (cue := cue) (by simpa using hstate) hne
  rw [(showCycleEnded_frame e rest more s).2.2.2.2] at hmade
  rw [showMoveDone_of_change hitem hpurpose, hcheck]
  exact hmade

end Sys2Proof.Proofs
end

section
/-! PROOFS. The gate seated, and the seat retry (R15, R16, R22, R37, R130, R134, R136). -/

namespace Sys2Proof.Proofs

open Sys2Proof.Machine Sys2Proof.Safety

/-- The gate seated ends the cycle but where a HOME run was ahead of an entry (R15, R22). -/
theorem exec_gateSeated_completes {s : State} {c : CycleRecord} (hs : runs s) (ht : s.tgc.timer = some .seat)
    (hc : s.tgc.cycle = some c) (hends : c.homeFirst = false ∨ c.cancel = true) :
    exec (.gateSeated true) s = .next (settle (completeCycle c
      (seatRecorded c (s.updPins fun p => { p with gateSeated := true })))) := by
  have hnot : ¬(c.homeFirst = true ∧ c.cancel = false) := by
    rintro ⟨hfirst, hcancel⟩
    rcases hends with h | h <;> simp_all
  rw [exec_gateSeated_active hs ht, seatSucceeded_eq (s := s.updPins _) hc, if_neg hnot]

/-- The seat's records at a change of the sensor alone. -/
theorem only_gateSeated (c : CycleRecord) (s : State) : onlyChanges (.pins :: faultReports) s
    (seatRecorded c (s.updPins fun p => { p with gateSeated := true })) :=
  only_seatRecorded ((onlyChanges.refl s).updPins _) c

/-- A success after the retry raises T3, and the cycle's end leaves it in the records (R16). -/
theorem raised_seatRetried {l : List Area} {c : CycleRecord} {s u : State} (h : c.seatRetried = true)
    (hu : onlyChanges l (seatRecorded c (s.updPins fun p => { p with gateSeated := true })) u)
    (hf : .faults ∉ l := by decide) (hc : .causes ∉ l := by decide) :
    raised .seatRetried .note (.atSlot s.slot) s (settle u) := by
  rw [seatRecorded_of_retried h] at hu
  exact ((raised.recordFault rfl).of_only hu hf hc).settle

/-- Settles O18: by whether the cycle goes on after a HOME run, is the show's, is cancelled, and by its item. -/
theorem seatingEndsTheCycle : Obligations.SeatingEndsTheCycle := by
  unfold Obligations.SeatingEndsTheCycle
  refine ⟨fun s c m rest hs hphase ht hc hfirst hends hcs hmq hm => ?_,
    fun s m rest item more hs hmove hpurpose hcheck => ?_,
    fun s m rest item more cue p hs hmove hpurpose hstate hcheck hne hroom => ?_,
    fun s m rest item more c hs hmove hhow hidle => ?_,
    fun s m rest item more c parts hs hmove hcancel hfirst hpurpose hgoto hparts hout => ?_,
    fun s c m rest hs ht hc hretried hends hcs hmq hm => ?_,
    fun s c hs hphase ht hc hhome hcancel => ?_, fun s hs => ?_,
    fun s c hs hphase ht hc hfirst hup => ?_⟩
  case refine_1 =>
    have hexec := exec_gateSeated_completes hs ht hc hends
    rw [seatRecorded_of_first hfirst] at hexec
    have hu : onlyChanges (.pins :: .tgc :: .shutter :: .mq :: reports) s
        (s.updPins fun p => { p with gateSeated := true }) := (onlyChanges.refl s).updPins _
    obtain ⟨⟨htgc, hrest⟩, honly⟩ := other_seated (c := c) hs hu rfl hmq hcs hm
    refine ⟨_, hexec, ?_, ?_, ?_, ?_, ?_, ?_, ?_, ?_, ?_, ?_, hrest, honly⟩
    · simp
    all_goals simp only [htgc, State.updPins_tgc]
  case refine_2 =>
    obtain ⟨ht, hmq, hm, hissued, c, hc, hcs, hfirst, hhome, hcancel⟩ := hmove
    have hexec := exec_gateSeated_completes hs ht hc (.inl hhome)
    rw [seatRecorded_of_first hfirst] at hexec
    obtain ⟨e, he⟩ := completeCycle_done_idle (s := s.updPins fun p => { p with gateSeated := true }) hmq hcs hissued
      hcancel (actsOnNothing_of_change hpurpose _) fun u hu => itemCheck_of_none (hu ▸ hcheck)
    rw [he] at hexec
    have hu : onlyChanges (.pins :: .tgc :: .shutter :: .mq :: .shc :: reports) s
        (s.updPins fun p => { p with gateSeated := true }) := (onlyChanges.refl s).updPins _
    exact ⟨_, hexec, show_seated hs hu rfl rfl rfl⟩
  case refine_3 =>
    obtain ⟨ht, hmq, hm, hissued, c, hc, hcs, hfirst, hhome, hcancel⟩ := hmove
    have hexec := exec_gateSeated_completes hs ht hc (.inl hhome)
    rw [seatRecorded_of_first hfirst] at hexec
    obtain ⟨e, he⟩ := completeCycle_mismatch (s := s.updPins fun p => { p with gateSeated := true }) hmq hcs hissued
      hcancel hpurpose hstate hcheck hne
    rw [he] at hexec
    have hended : onlyChanges (.pins :: .tgc :: .mq :: .shc :: reports) s
        (showCycleEnded e rest more (s.updPins fun p => { p with gateSeated := true })) :=
      only_showCycleEnded ((onlyChanges.refl s).updPins _) e rest more
    have hraised := raised.recordFault_of_only (c := .syncLost) (sv := .note)
      (d := mismatch cue p s.retained.position) hended
    have hrecord : onlyChanges (.pins :: .tgc :: .shutter :: .mq :: .shc :: faultReports) s _ :=
      hended.mono.recordFault .syncLost .note (mismatch cue p s.retained.position)
    cases hresync : s.retained.params.resync with
    | false =>
      rw [State.updPins_retained, hresync] at hexec
      obtain ⟨hseated, honly⟩ := seated_settle (u := s) (rest := rest) hs hrecord (by simp) (by simp) (by simp)
      exact ⟨_, hexec, hraised.settle, fun _ => ⟨hseated, by simp⟩, by simp, honly⟩
    | true =>
      rw [State.updPins_retained, hresync, if_pos rfl, offerShow_joins (by simpa using hroom)] at hexec
      have hjoin := (hrecord.updMq fun q => q ++ [⟨.goto p, .theShow, some cue, false⟩]).updShc fun c =>
        { c with issued := c.issued ++ [⟨.resync, none⟩] }
      obtain ⟨hseated, honly⟩ := seated_settle (u := s) (rest := rest ++ [⟨.goto p, .theShow, some cue, false⟩]) hs
        hjoin (by simp) (by simp) (by simp)
      exact ⟨_, hexec, hraised.settle, by simp, fun _ => ⟨hseated, by simp⟩, honly⟩
  case refine_4 =>
    obtain ⟨ht, hmq, hm, hissued, hc, hcs, hends⟩ := hmove
    have hexec := exec_gateSeated_completes hs ht hc hends
    have hidle : actsOnNothing item (seatRecorded c (s.updPins fun p => { p with gateSeated := true })).shc := by
      rw [(seatRecorded_frame _ _).2.2.1]
      exact hidle
    have hleft : ∃ e, completeCycle c (seatRecorded c (s.updPins fun p => { p with gateSeated := true })) =
        showCycleEnded e rest more (seatRecorded c (s.updPins fun p => { p with gateSeated := true })) := by
      by_cases hcancel : c.cancel = true
      · exact completeCycle_cancelled (by simpa using hmq) hm (by simpa using hissued) hcancel hidle
      · obtain ⟨-, hnone⟩ := hhow.resolve_left hcancel
        exact completeCycle_done_idle (by simpa using hmq) hcs (by simpa using hissued) (by simpa using hcancel) hidle
          fun u _ => itemCheck_of_none (.inl hnone)
    obtain ⟨e, he⟩ := hleft
    rw [he] at hexec
    have hu : onlyChanges (.pins :: .tgc :: .shutter :: .mq :: .shc :: faultReports) s
        (seatRecorded c (s.updPins fun p => { p with gateSeated := true })) := (only_gateSeated c s).mono
    obtain ⟨hseated, hshc, honly⟩ := show_seated (e := e) (rest := rest) (more := more) hs hu (by simp)
      (by simp) (by simp)
    refine ⟨_, hexec, hseated, hshc, fun hretried => ⟨?_, honly⟩, fun hfirst => ?_⟩
    · exact raised_seatRetried (l := .tgc :: .mq :: .shc :: reports) hretried
        (only_showCycleEnded (.refl _) e rest more)
    · rw [seatRecorded_of_first hfirst]
      have hu : onlyChanges (.pins :: .tgc :: .shutter :: .mq :: .shc :: reports) s
          (s.updPins fun p => { p with gateSeated := true }) := (onlyChanges.refl s).updPins _
      exact (show_seated hs hu rfl rfl rfl).2.2
  case refine_5 =>
    obtain ⟨ht, hmq, hm, hissued, hc, hcs, hends⟩ := hmove
    have hexec := exec_gateSeated_completes hs ht hc hends
    rw [seatRecorded_of_first hfirst] at hexec
    obtain ⟨e, he⟩ := completeCycle_eq (s := s.updPins fun p => { p with gateSeated := true }) c hmq
    rw [he, if_pos hcancel, tellCancelled, if_pos hm, showMoveCancelled_of_start (item := item) (more := more)
      (by simpa [cycleEnded] using hissued) hpurpose (by simpa [cycleEnded] using hgoto)
      (by simpa [cycleEnded] using hparts) hout] at hexec
    have hw : onlyChanges (.pins :: .tgc :: .shutter :: .mq :: .shc :: reports) s
        ((raiseEvent e (cycleEnded rest (s.updPins fun p => { p with gateSeated := true }))).updShc fun c =>
          { c with issued := more, parts := parts }) :=
      ((only_cycleEnded ((onlyChanges.refl s).updPins _) rest).raiseEvent e).updShc _
    obtain ⟨hseated, honly⟩ := seated_settle (u := s) (rest := rest) hs hw (by simp [cycleEnded]) (by simp [cycleEnded])
      (by simp [cycleEnded])
    exact ⟨_, hexec, hseated, by simp [cycleEnded], honly⟩
  case refine_6 =>
    have hexec := exec_gateSeated_completes hs ht hc hends
    have hu : onlyChanges (.pins :: .tgc :: .shutter :: .mq :: faultReports) s
        (seatRecorded c (s.updPins fun p => { p with gateSeated := true })) := (only_gateSeated c s).mono
    obtain ⟨hseated, honly⟩ := other_seated (c := c) hs hu (by simp) (by simpa using hmq) hcs hm
    obtain ⟨e, he⟩ := completeCycle_other (s := seatRecorded c (s.updPins fun p => { p with gateSeated := true }))
      (by simpa using hmq) hcs hm
    refine ⟨_, hexec, seated_congr hseated (by simp), ?_, honly⟩
    rw [he]
    exact raised_seatRetried (l := .tgc :: .mq :: reports) hretried ((only_cycleEnded (.refl _) rest).raiseEvent e)
  case refine_7 =>
    have hexec := exec_gateSeated_active hs ht
    rw [seatSucceeded_eq (s := s.updPins _) hc, if_pos ⟨hhome, hcancel⟩] at hexec
    have hstep : onlyChanges [.tgc] (seatRecorded c (s.updPins fun p => { p with gateSeated := true })) (enterClosing
        (updCycle (fun c =>
          { c with homeFirst := false, attempt := 1, seatRetried := false, emptyDrops := 0, pulses := 0 })
          (seatRecorded c (s.updPins fun p => { p with gateSeated := true })))) :=
      ((onlyChanges.refl _).updCycle _).updTgc rfl
    have hall : onlyChanges (.pins :: .tgc :: faultReports) s _ := ((only_gateSeated c s).mono).trans hstep.mono
    obtain ⟨htgc, honly⟩ := settle_closed hs.2 hall (by simp [hphase]) (by simp [enterClosing])
    refine ⟨_, hexec, htgc.trans ?_, fun hretried => ⟨raised_seatRetried hretried hstep, honly⟩, fun hfirst => ?_⟩
    · simp [enterClosing, updCycle, hc]
    · rw [seatRecorded_of_first hfirst] at hstep ⊢
      have hall : onlyChanges [.pins, .tgc] s _ := ((onlyChanges.refl s).updPins _).trans hstep.mono
      exact (settle_closed hs.2 hall (by simp [hphase]) (by simp [enterClosing])).2
  case refine_8 => exact ⟨_, exec_gateSeated_inactive hs, rfl, settle_updPins hs.2 _⟩
  case refine_9 =>
    have hexpired : seatExpired s =
        startLift (updCycle (fun c => { c with attempt := 1 }) (updCycle (fun c =>
          { c with seatRetried := true }) s)) := by
      simp [seatExpired, hc, hfirst, enterLifting]
    have hexec := exec_seatTimeout hs ht
    rw [hexpired, startLift_of_down (c := { c with seatRetried := true }) (by simp [updCycle, hc]) _ 1 rfl
      (by simpa using hup)] at hexec
    have honly : onlyChanges [.tgc] s ((updCycle (fun c => { c with seatRetried := true }) s).updTgc
        (lifting { c with seatRetried := true } 1)) := ((onlyChanges.refl s).updCycle _).updTgc rfl
    obtain ⟨htgc, honly⟩ := settle_closed hs.2 honly (by simp [hphase]) (by simp [lifting])
    exact ⟨_, hexec, htgc, honly⟩

end Sys2Proof.Proofs
end

section
/-! PROOFS. Drops, with and without a slide, and skip-empty (R3, R4, R9, R14, R15, R17, R18). -/

namespace Sys2Proof.Proofs

open Sys2Proof.Machine Sys2Proof.Safety

theorem exec_slidePresent_active {s : State} (hs : runs s) : exec (.slidePresent true) s =
    .next (settle (slideActive (s.updPins fun p => { p with slidePresent := true }))) :=
  congrArg _ (whenRunning_updPins hs.1 _ rfl)

theorem exec_slidePresent_inactive {s : State} (hs : runs s) : exec (.slidePresent false) s =
    .next (settle (s.updPins fun p => { p with slidePresent := false })) :=
  congrArg _ (whenRunning_updPins hs.1 _ rfl)

/-- A slide seen at any slot but 0, while the drop timer runs (R14). -/
theorem slideActive_finds {s : State} (hslot : s.retained.position ≠ .known 0) (ht : s.tgc.timer = some .drop) :
    slideActive s = dropFound s := by
  have hne : s.slot ≠ some 0 := by
    cases hp : s.retained.position with
    | unknown => simp [slot_of_unknown hp]
    | known p =>
      rw [slot_of_known hp]
      rintro ⟨rfl⟩
      exact hslot hp
  simp [slideActive, hne, onTimer, ht]

/-- At slot 0 the sensor is not consulted (R14). -/
theorem slideActive_of_zero {s : State} (h : s.retained.position = .known 0) : slideActive s = s :=
  if_pos (slot_of_known h)

theorem exec_dropTimeout {s : State} {c : CycleRecord} (hs : runs s) (ht : s.tgc.timer = some .drop)
    (hc : s.tgc.cycle = some c) : exec .dropTimeout s = .next (settle (dropEmpty c s)) := by
  refine congrArg _ ((whenRunning_of hs.1 _).trans ?_)
  simp [onTimer, ht, dropExpired, hc]

/-! ## The records of a drop that finds no slide (R14) -/

/-- The gate load of a drop that found none, with its timer stopped. -/
def Tgc.emptied (t : Tgc) : Tgc := { t with gateLoad := .empty, timer := none }

/-- The records of an empty drop, and T8 where the slot was OCCUPIED (R14). -/
def dropRecorded (s : State) : State :=
  match s.slot with
  | none => s.updTgc Tgc.emptied
  | some p =>
    if s.retained.map[p] = .occupied ∧ p ≠ 0 then
      recordFault .slideMissing .note (.atSlot (some p)) (setMap p .empty (s.updTgc Tgc.emptied))
    else setMap p .empty (s.updTgc Tgc.emptied)

/-- Skip-empty, T9 or SEATING after the records of an empty drop (R17, R18). -/
def afterEmptyDrop (c : CycleRecord) (slot : Option Slot) (s : State) : State :=
  if c.skips s.retained.params.skipEmpty then
    let n := if slot = some 0 then c.emptyDrops else c.emptyDrops + 1
    let u := updCycle (fun c => { c with emptyDrops := n }) s
    if n < 90 then enterLifting (updCycle (fun c => { c with skipping := true }) u)
    else enterSeating (raiseFault .trayEmpty (.atSlot slot) u)
  else enterSeating s

theorem dropEmpty_eq (c : CycleRecord) (s : State) : dropEmpty c s = afterEmptyDrop c s.slot (dropRecorded s) := by
  have hrecords : (match s.slot with
      | none => s.updTgc Tgc.emptied
      | some p =>
        if s.retained.map[p] = .occupied ∧ p ≠ 0 then
          raiseFault .slideMissing (.atSlot s.slot) (setMap p .empty (s.updTgc Tgc.emptied))
        else setMap p .empty (s.updTgc Tgc.emptied)) = dropRecorded s := by
    unfold dropRecorded
    cases hp : s.slot with
    | none => rfl
    | some p => simp only [raiseFault_note (c := .slideMissing) rfl]
  rw [← hrecords]
  rfl

/-- At slot 0, and with the position UNKNOWN, the map stays (R3, R14). -/
theorem dropRecorded_of_none {s : State} (h : s.retained.position = .known 0 ∨ s.retained.position = .unknown) :
    dropRecorded s = s.updTgc Tgc.emptied := by
  rcases h with h | h
  · simp [dropRecorded, slot_of_known h, setMap]
  · simp [dropRecorded, slot_of_unknown h]

theorem dropRecorded_of_occupied {s : State} {p : Slot} (hp : s.retained.position = .known p) (hp0 : p ≠ 0)
    (h : s.retained.map[p] = .occupied) : dropRecorded s =
      recordFault .slideMissing .note (.atSlot (some p)) (setMap p .empty (s.updTgc Tgc.emptied)) := by
  simp only [dropRecorded, slot_of_known hp]
  exact if_pos ⟨h, hp0⟩

theorem dropRecorded_of_vacant {s : State} {p : Slot} (hp : s.retained.position = .known p)
    (h : s.retained.map[p] ≠ .occupied) : dropRecorded s = setMap p .empty (s.updTgc Tgc.emptied) := by
  simp only [dropRecorded, slot_of_known hp]
  exact if_neg fun hocc => h hocc.1

theorem dropRecorded_flt_of_vacant {s : State} {p : Slot} (hp : s.retained.position = .known p)
    (h : s.retained.map[p] ≠ .occupied) : (dropRecorded s).flt = s.flt := by
  rw [dropRecorded_of_vacant hp h]
  simp

/-- T8 marks the sticky set (R14, R188). -/
theorem slideMissing_mem_sticky {s : State} {p : Slot} (hp : s.retained.position = .known p) (hp0 : p ≠ 0)
    (h : s.retained.map[p] = .occupied) : .slideMissing ∈ (dropRecorded s).flt.sticky := by
  rw [dropRecorded_of_occupied hp hp0 h]
  exact ((raised.recordFault_same _).mem_sticky _).2 (.inl rfl)

/-- What the records of an empty drop leave. -/
@[simp] theorem dropRecorded_frame (s : State) :
    (dropRecorded s).tgc = Tgc.emptied s.tgc ∧ (dropRecorded s).pins = s.pins ∧ (dropRecorded s).mq = s.mq ∧
      (dropRecorded s).shc = s.shc ∧ (dropRecorded s).retained.params = s.retained.params ∧
      (dropRecorded s).retained.position = s.retained.position := by
  unfold dropRecorded
  split
  · simp
  · split <;> simp

theorem dropRecorded_map {s : State} {p : Slot} (hp : s.retained.position = .known p) (hp0 : p ≠ 0) :
    (dropRecorded s).retained.map = s.retained.map.set p.val .empty p.isLt := by
  by_cases h : s.retained.map[p] = .occupied
  · simp [dropRecorded_of_occupied hp hp0 h, setMap, hp0]
  · simp [dropRecorded_of_vacant hp h, setMap, hp0]

theorem only_dropRecorded (s : State) : onlyChanges (.tgc :: .map :: faultReports) s (dropRecorded s) := by
  unfold dropRecorded
  split
  · exact (onlyChanges.refl s).updTgc rfl
  · split
    · exact (((onlyChanges.refl s).updTgc rfl).setMap _ _).recordFault _ _ _
    · exact ((onlyChanges.refl s).updTgc rfl).setMap _ _

/-- An empty drop at slot 0 or with the position UNKNOWN, and where it leads (R14, R17). -/
theorem unmapped_drop {s : State} {g : Tgc → Tgc} (hs : runs s) (hphase : s.tgc.phase = .dropping)
    (hp : s.retained.position = .known 0 ∨ s.retained.position = .unknown) (hshutter : ∀ t, (g t).shutter = t.shutter)
    (hg : ∀ t, (g t).phase ≠ .ready) :
    (settle ((dropRecorded s).updTgc g)).tgc = g (Tgc.emptied s.tgc) ∧
      onlyChanges [.tgc] s (settle ((dropRecorded s).updTgc g)) := by
  rw [dropRecorded_of_none hp]
  have honly : onlyChanges [.tgc] s ((s.updTgc Tgc.emptied).updTgc g) :=
    ((onlyChanges.refl s).updTgc rfl).updTgc (hshutter _)
  exact settle_closed hs.2 honly (by simp [hphase]) (hg _)

/-- An empty drop at a slot of the map, and where it leads: the slot's entry, and T8 where it was OCCUPIED (R14). -/
theorem mapped_drop {s : State} {p : Slot} {g : Tgc → Tgc} (hs : runs s) (hphase : s.tgc.phase = .dropping)
    (hp : s.retained.position = .known p) (hp0 : p ≠ 0) (hshutter : ∀ t, (g t).shutter = t.shutter)
    (hg : ∀ t, (g t).phase ≠ .ready) :
    (settle ((dropRecorded s).updTgc g)).tgc = g (Tgc.emptied s.tgc) ∧
      (settle ((dropRecorded s).updTgc g)).retained.map = s.retained.map.set p.val .empty p.isLt ∧
      (s.retained.map[p] = .occupied →
        raised .slideMissing .note (.atSlot (some p)) s (settle ((dropRecorded s).updTgc g)) ∧
        onlyChanges (.tgc :: .map :: faultReports) s (settle ((dropRecorded s).updTgc g))) ∧
      (s.retained.map[p] ≠ .occupied → onlyChanges [.tgc, .map] s (settle ((dropRecorded s).updTgc g))) := by
  have hrecords : onlyChanges [.tgc, .map] s (setMap p .empty (s.updTgc Tgc.emptied)) :=
    ((onlyChanges.refl s).updTgc rfl).setMap _ _
  have haway : s.tgc.phase ≠ .ready := by simp [hphase]
  refine ⟨?_, dropRecorded_map hp hp0, fun hocc => ?_, fun hvacant => ?_⟩
  · rw [settle_tgc, shutterOpen_of_phase (hg _)]
    have hclosed : (g (Tgc.emptied s.tgc)).shutter = false := (hshutter _).trans (shutter_closed hs.2 haway)
    rw [← hclosed, State.updTgc_tgc, (dropRecorded_frame s).1]
  · rw [dropRecorded_of_occupied hp hp0 hocc]
    have hfault : onlyChanges (.tgc :: .map :: faultReports) s (recordFault .slideMissing .note (.atSlot (some p))
        (setMap p .empty (s.updTgc Tgc.emptied))) := hrecords.mono.recordFault _ _ _
    exact ⟨((raised.recordFault_of_only hrecords).of_only (l := [.tgc])
      ((onlyChanges.refl _).updTgc (hshutter _))).settle,
      (settle_closed hs.2 (hfault.updTgc (hshutter _)) haway (hg _)).2⟩
  · rw [dropRecorded_of_vacant hp hvacant]
    exact (settle_closed hs.2 (hrecords.updTgc (hshutter _)) haway (hg _)).2

/-! ## After an empty drop (R15, R17, R18) -/

/-- What a drop that is repeated says of its cycle (R17). -/
theorem of_skips {c : CycleRecord} {b : Bool} (h : c.skips b = true) :
    c.cancel = false ∧ c.seatRetried = false ∧ c.move ≠ .home := by
  simp only [CycleRecord.skips, Bool.and_eq_true, Bool.not_eq_true'] at h
  obtain ⟨⟨⟨-, hcancel⟩, hseat⟩, hmove⟩ := h
  refine ⟨hcancel, hseat, fun hm => ?_⟩
  simp [hm] at hmove

/-- A repeat takes one step in the entry's direction (R17). -/
theorem afterLift_of_repeat {s : State} {c : CycleRecord} {d : Direction} {b : Bool} (h : c.skips b = true)
    (hhome : c.homeFirst = false) (hskip : c.skipping = true) (hd : c.direction = some d) :
    afterLift c s = enterIndexing d 1 s := by
  obtain ⟨hcancel, hseat, hm⟩ := of_skips h
  simp [afterLift, indexEntry, hcancel, hseat, hm, hhome, hskip, hd]

theorem afterEmptyDrop_of_once {s : State} {c : CycleRecord} {slot : Option Slot}
    (h : c.skips s.retained.params.skipEmpty = false) : afterEmptyDrop c slot s = enterSeating s := by
  simp [afterEmptyDrop, h]

/-- The count of empty drops after one more, at `slot` (R18). -/
def emptyCount (c : CycleRecord) (slot : Option Slot) : Nat := if slot = some 0 then c.emptyDrops else c.emptyDrops + 1

/-- The cycle record of a drop that is repeated (R17). -/
def skipAgain (c : CycleRecord) (slot : Option Slot) : CycleRecord :=
  { c with emptyDrops := emptyCount c slot, skipping := true }

theorem afterEmptyDrop_of_repeat {s : State} {c : CycleRecord} {slot : Option Slot} (hc : s.tgc.cycle = some c)
    (h : c.skips s.retained.params.skipEmpty = true) (hn : emptyCount c slot < 90) :
    afterEmptyDrop c slot s =
      if s.pins.gateUp then liftSucceeded (s.updTgc (lifting (skipAgain c slot) 1))
      else s.updTgc (lifting (skipAgain c slot) 1) := by
  have hlift : afterEmptyDrop c slot s = startLift (updCycle (fun c => { c with attempt := 1 }) (updCycle
      (fun c => { c with skipping := true }) (updCycle (fun k => { k with emptyDrops := emptyCount c slot }) s))) := by
    simp only [emptyCount] at hn
    simp [afterEmptyDrop, h, hn, enterLifting, emptyCount]
  have hcycle : (updCycle (fun c => { c with skipping := true })
      (updCycle (fun k => { k with emptyDrops := emptyCount c slot }) s)).tgc.cycle = some (skipAgain c slot) := by
    simp [updCycle, hc, skipAgain]
  rw [hlift]
  cases hup : s.pins.gateUp with
  | false => exact startLift_of_down hcycle _ 1 rfl hup
  | true => exact startLift_of_up hcycle _ 1 rfl hup

/-- The 90th empty drop is T9, and the gate is seated all the same (R18). -/
theorem afterEmptyDrop_of_last {s : State} {c : CycleRecord} {slot : Option Slot} (hstop : s.shc.state = .stopped)
    (hc : s.tgc.cycle = some c) (h : c.skips s.retained.params.skipEmpty = true) (hn : 90 ≤ emptyCount c slot)
    (hopen : s.pins.gateSeated = false) :
    afterEmptyDrop c slot s = (recordFault .trayEmpty .halt (.atSlot slot)
      (s.updTgc fun t => { t with cycle := some { c with emptyDrops := emptyCount c slot } })).updTgc fun t =>
        { t with phase := .seating, timer := some .seat } := by
  have hcount : updCycle (fun k => { k with emptyDrops := emptyCount c slot }) s =
      s.updTgc fun t => { t with cycle := some { c with emptyDrops := emptyCount c slot } } := by
    simp only [updCycle, State.updTgc, hc, Option.map_some]
  have hseat : afterEmptyDrop c slot s = enterSeating (raiseFault .trayEmpty (.atSlot slot)
      (updCycle (fun k => { k with emptyDrops := emptyCount c slot }) s)) := by
    simp only [emptyCount] at hn
    simp [afterEmptyDrop, h, not_lt.2 hn, emptyCount]
  rw [hseat, hcount, raiseFault_stopped (by simpa using hstop), enterSeating_of_open (by simpa using hopen)]
  rfl

/-- A gate that seats as the drop ends: the cycle of an entry that is not the show's ends with it (R15). -/
theorem drop_seats {l : List Area} {s u : State} {c : CycleRecord} {m : Motion} {rest : List Motion} (hs : runs s)
    (hu : onlyChanges l s u) (hpin : u.pins.resetPin = s.pins.resetPin) (hmq : u.mq = m :: rest)
    (hc : u.tgc.cycle = some c) (hfirst : c.seatRetried = false) (hends : c.homeFirst = false ∨ c.cancel = true)
    (hcs : c.source ≠ .theShow) (hm : m.source ≠ .theShow) (hseated : u.pins.gateSeated = true)
    (hl : ∀ p ∈ Area.tgc :: .shutter :: .mq :: reports, p ∈ l := by decide) (hpower : .power ∉ l := by decide) :
    seated rest u (settle (enterSeating u)) ∧ onlyChanges l s (settle (enterSeating u)) := by
  have hnot : ¬(c.homeFirst = true ∧ c.cancel = false) := by
    rintro ⟨hhome, hcancel⟩
    rcases hends with h | h <;> simp_all
  rw [enterSeating_of_seated hseated, seatSucceeded_eq (c := c) (by exact hc), if_neg hnot,
    seatRecorded_of_first hfirst]
  exact other_seated (s := s) (u := u.updTgc _) hs (hu.updTgc rfl (hl _ (by decide))) hpin hmq hcs hm hl hpower

end Sys2Proof.Proofs
end

section
/-! PROOFS. A slide found, a slot marked EMPTY, and skip-empty to its end (R14, R15, R17, R18). -/

namespace Sys2Proof.Proofs

open Sys2Proof.Machine Sys2Proof.Safety

/-- SEATING, as an empty drop begins it. -/
def Tgc.seating (t : Tgc) : Tgc := { t with phase := .seating, timer := some .seat }

/-- The slide-present sensor goes active while the drop timer runs, at any slot but 0 (R14). -/
theorem exec_slidePresent_finds {s : State} (hs : runs s) (ht : s.tgc.timer = some .drop)
    (hslot : s.retained.position ≠ .known 0) : exec (.slidePresent true) s =
      .next (settle (dropFound (s.updPins fun p => { p with slidePresent := true }))) := by
  rw [exec_slidePresent_active hs, slideActive_finds (s := s.updPins _) hslot ht]

theorem exec_dropTimeout_eq {s : State} {c : CycleRecord} (hs : runs s) (ht : s.tgc.timer = some .drop)
    (hc : s.tgc.cycle = some c) :
    exec .dropTimeout s = .next (settle (afterEmptyDrop c s.slot (dropRecorded s))) := by
  rw [exec_dropTimeout hs ht hc, dropEmpty_eq]

/-- A drop that is not repeated, with the gate still above its seat (R14, R15). -/
theorem exec_dropTimeout_once {s : State} {c : CycleRecord} (hs : runs s) (ht : s.tgc.timer = some .drop)
    (hc : s.tgc.cycle = some c) (hskip : c.skips s.retained.params.skipEmpty = false)
    (hopen : s.pins.gateSeated = false) :
    exec .dropTimeout s = .next (settle ((dropRecorded s).updTgc Tgc.seating)) := by
  rw [exec_dropTimeout_eq hs ht hc, afterEmptyDrop_of_once (by simpa using hskip),
    enterSeating_of_open (by simpa using hopen)]
  rfl

/-- A drop that is repeated, with the gate down (R17). -/
theorem exec_dropTimeout_repeats {s : State} {c : CycleRecord} (hs : runs s) (ht : s.tgc.timer = some .drop)
    (hc : s.tgc.cycle = some c) (hskip : c.skips s.retained.params.skipEmpty = true) (hn : emptyCount c s.slot < 90)
    (hdown : s.pins.gateUp = false) :
    exec .dropTimeout s = .next (settle ((dropRecorded s).updTgc (lifting (skipAgain c s.slot) 1))) := by
  rw [exec_dropTimeout_eq hs ht hc, afterEmptyDrop_of_repeat (by simpa [Tgc.emptied] using hc)
    (by simpa using hskip) hn,
    if_neg (by simp [hdown])]

/-- The 90th empty drop (R18). -/
theorem exec_dropTimeout_last {s : State} {c : CycleRecord} (hs : runs s) (hstop : s.shc.state = .stopped)
    (ht : s.tgc.timer = some .drop) (hc : s.tgc.cycle = some c) (hskip : c.skips s.retained.params.skipEmpty = true)
    (hn : 90 ≤ emptyCount c s.slot) (hopen : s.pins.gateSeated = false) :
    exec .dropTimeout s = .next (settle ((recordFault .trayEmpty .halt (.atSlot s.slot)
      ((dropRecorded s).updTgc fun t =>
      { t with cycle := some { c with emptyDrops := emptyCount c s.slot } })).updTgc Tgc.seating)) := by
  rw [exec_dropTimeout_eq hs ht hc, afterEmptyDrop_of_last (by simpa using hstop) (by simpa [Tgc.emptied] using hc)
    (by simpa using hskip) hn (by simpa using hopen)]
  rfl

theorem emptyCount_of_zero {c : CycleRecord} {s : State} (h : s.retained.position = .known 0) :
    emptyCount c s.slot = c.emptyDrops := by
  simp [emptyCount, slot_of_known h]

theorem emptyCount_of_ne {c : CycleRecord} {s : State} (h : s.retained.position ≠ .known 0) :
    emptyCount c s.slot = c.emptyDrops + 1 := by
  refine if_neg fun hslot => h ?_
  cases hp : s.retained.position with
  | unknown => simp [slot_of_unknown hp] at hslot
  | known p => simpa [slot_of_known hp] using hslot

theorem known_ne_zero {s : State} {p : Slot} (hp : s.retained.position = .known p) (hp0 : p ≠ 0) :
    s.retained.position ≠ .known 0 := by
  simpa [hp] using hp0

/-- Settles O17: by where the tray stands, whether the drop is repeated, and how many have been. -/
theorem dropsSetTheMap : Obligations.DropsSetTheMap := by
  unfold Obligations.DropsSetTheMap
  refine ⟨fun s p hs hphase ht hp hp0 hopen => ?_, fun s hs hphase ht hp hopen => ?_,
    fun s c m rest p hs hphase ht hc hfirst hends hcs hmq hm hp hp0 hseated => ⟨?_, fun hskip hvacant => ?_⟩,
    fun s hs hp => ?_, fun s hs => ?_, fun s c p hs hphase ht hc hskip hp hp0 hopen => ?_,
    fun s c hs hphase ht hc hp => ⟨fun hskip hopen => ?_, fun hskip hdown => ⟨fun hzero hn => ?_,
      fun hunknown hn => ?_⟩⟩,
    fun s c p hs hphase ht hc hskip hp hp0 hn => ⟨fun hdown => ?_, fun d hup hhome hd hvacant => ?_⟩,
    fun s c hs hstop hphase ht hc hskip hp hn hopen => ?_, fun s c p hs hstop hphase ht hc hskip hp hp0 hn hopen => ?_⟩
  case refine_1 =>
    have hexec := exec_slidePresent_finds hs ht (known_ne_zero hp hp0)
    rw [dropFound_of_open (by exact hp) (by exact hopen)] at hexec
    have honly : onlyChanges [.pins, .tgc, .map] s (slideFound p (s.updPins fun p =>
      { p with slidePresent := true })) :=
      only_slideFound ((onlyChanges.refl s).updPins _) p
    obtain ⟨htgc, honly⟩ := settle_closed hs.2 honly (by simp [hphase]) (by simp [slideFound_tgc])
    exact ⟨_, hexec, by simp [slideFound], htgc.trans (slideFound_tgc _ _), slideFound_map hp0 _, honly⟩
  case refine_2 =>
    have hexec := exec_slidePresent_finds hs ht (by simp [hp])
    rw [dropFound_of_unknown (by exact hp), enterSeating_of_open (by exact hopen)] at hexec
    have honly : onlyChanges [.pins, .tgc] s (((s.updPins fun p => { p with slidePresent := true }).updTgc fun t =>
        { t with gateLoad := .slide }).updTgc fun t => { t with phase := .seating, timer := some .seat }) :=
      (((onlyChanges.refl s).updPins _).updTgc rfl).updTgc rfl
    obtain ⟨htgc, honly⟩ := settle_closed hs.2 honly (by simp [hphase]) (by simp)
    exact ⟨_, hexec, rfl, htgc, honly⟩
  case refine_3 =>
    have hexec := exec_slidePresent_finds hs ht (known_ne_zero hp hp0)
    rw [dropFound_of_known (p := p) (by exact hp)] at hexec
    have hu : onlyChanges (.pins :: .tgc :: .shutter :: .map :: .mq :: reports) s (setMap p .occupied
        ((s.updPins fun p => { p with slidePresent := true }).updTgc fun t => { t with gateLoad := .slide })) :=
      (((onlyChanges.refl s).updPins _).updTgc rfl).setMap _ _
    obtain ⟨⟨htgc, hrest⟩, honly⟩ := drop_seats (c := c) (m := m) (rest := rest) hs hu (by simp) (by simpa using hmq)
      (by simpa using hc) hfirst hends hcs hm (by simpa using hseated)
    exact ⟨_, hexec, hrest, htgc.trans (by simp), by simp [setMap, hp0], honly⟩
  case refine_4 =>
    have hexec := exec_dropTimeout_eq hs ht hc
    rw [afterEmptyDrop_of_once (by simpa using hskip), dropRecorded_of_vacant hp hvacant] at hexec
    have hu : onlyChanges (.tgc :: .shutter :: .map :: .mq :: reports) s (setMap p .empty (s.updTgc Tgc.emptied)) :=
      ((onlyChanges.refl s).updTgc rfl).setMap _ _
    obtain ⟨⟨htgc, hrest⟩, honly⟩ := drop_seats (c := c) (m := m) (rest := rest) hs hu (by simp) (by simpa using hmq)
      (by simpa [Tgc.emptied] using hc) hfirst hends hcs hm (by simpa using hseated)
    exact ⟨_, hexec, hrest, htgc.trans (by simp [Tgc.emptied]), by simp [setMap, hp0], honly⟩
  case refine_5 =>
    have hexec := exec_slidePresent_active hs
    rw [slideActive_of_zero (by exact hp)] at hexec
    exact ⟨_, hexec, settle_updPins hs.2 _⟩
  case refine_6 => exact ⟨_, exec_slidePresent_inactive hs, rfl, settle_updPins hs.2 _⟩
  case refine_7 =>
    obtain ⟨htgc, hmap, hocc, hvacant⟩ := mapped_drop (g := Tgc.seating) hs hphase hp hp0 (fun _ => rfl)
      (fun _ => by simp [Tgc.seating])
    exact ⟨_, exec_dropTimeout_once hs ht hc hskip hopen, htgc, hmap, hocc, hvacant⟩
  case refine_8 =>
    obtain ⟨htgc, honly⟩ := unmapped_drop (g := Tgc.seating) hs hphase hp (fun _ => rfl)
      (fun _ => by simp [Tgc.seating])
    exact ⟨_, exec_dropTimeout_once hs ht hc hskip hopen, htgc, honly⟩
  case refine_9 =>
    have hcount := emptyCount_of_zero (c := c) hzero
    obtain ⟨htgc, honly⟩ := unmapped_drop (g := lifting (skipAgain c s.slot) 1) hs hphase hp (fun _ => rfl)
      (fun _ => by simp [lifting])
    refine ⟨_, exec_dropTimeout_repeats hs ht hc hskip (by rwa [hcount]) hdown, htgc.trans ?_, honly⟩
    rw [lifting, skipAgain, hcount]
    rfl
  case refine_10 =>
    have hcount := emptyCount_of_ne (c := c) (s := s) (by simp [hunknown])
    obtain ⟨htgc, honly⟩ := unmapped_drop (g := lifting (skipAgain c s.slot) 1) hs hphase hp (fun _ => rfl)
      (fun _ => by simp [lifting])
    refine ⟨_, exec_dropTimeout_repeats hs ht hc hskip (by omega) hdown, htgc.trans ?_, honly⟩
    rw [lifting, skipAgain, hcount]
    rfl
  case refine_11 =>
    have hcount := emptyCount_of_ne (c := c) (known_ne_zero hp hp0)
    obtain ⟨htgc, hmap, hocc, hvacant⟩ := mapped_drop (g := lifting (skipAgain c s.slot) 1) hs hphase hp hp0
      (fun _ => rfl) (fun _ => by simp [lifting])
    refine ⟨_, exec_dropTimeout_repeats hs ht hc hskip (by omega) hdown, htgc.trans ?_, hmap, hocc, hvacant⟩
    rw [lifting, skipAgain, hcount]
    rfl
  case refine_12 =>
    have hcount := emptyCount_of_ne (c := c) (known_ne_zero hp hp0)
    have hexec := exec_dropTimeout_eq hs ht hc
    rw [afterEmptyDrop_of_repeat (c := c) (by simpa [Tgc.emptied] using hc) (by simpa using hskip) (by omega),
      if_pos (by simpa using hup), dropRecorded_of_vacant hp hvacant,
      liftSucceeded_of_first (c := { skipAgain c s.slot with attempt := 1 }) rfl (by simp),
      afterLift_of_repeat (c := { skipAgain c s.slot with attempt := 1 }) (b := s.retained.params.skipEmpty) hskip hhome
        rfl hd] at hexec
    have honly : onlyChanges [.tgc, .map] s (enterIndexing d 1 (((setMap p .empty (s.updTgc Tgc.emptied)).updTgc
        (lifting (skipAgain c s.slot) 1)).updTgc fun t => { t with timer := none })) :=
      (((((onlyChanges.refl s).updTgc rfl).setMap _ _).updTgc rfl).updTgc rfl).trans (only_enterIndexing d 1 _).mono
    obtain ⟨htgc, honly⟩ := settle_closed hs.2 honly (by simp [hphase]) (by simp [enterIndexing])
    refine ⟨_, hexec, htgc.trans ?_, by simp [setMap, hp0], honly⟩
    rw [enterIndexing_tgc (c := { skipAgain c s.slot with attempt := 1 }) rfl, skipAgain, hcount]
    simp [lifting, Tgc.emptied]
  case refine_13 =>
    have hcount := emptyCount_of_ne (c := c) (s := s) (by simp [hp])
    have hexec := exec_dropTimeout_last hs hstop ht hc hskip (by omega) hopen
    rw [dropRecorded_of_none (.inr hp), slot_of_unknown hp] at hexec
    have hcounted : onlyChanges [.tgc] s ((s.updTgc Tgc.emptied).updTgc fun t =>
        { t with cycle := some { c with emptyDrops := emptyCount c none } }) :=
      ((onlyChanges.refl s).updTgc rfl).updTgc rfl
    have hseating : onlyChanges (.tgc :: faultReports) s _ :=
      (hcounted.mono.recordFault .trayEmpty .halt (.atSlot none)).updTgc (f := Tgc.seating) rfl
    refine ⟨_, hexec, rfl, by simp [Tgc.seating, Tgc.emptied], ?_,
      (settle_closed hs.2 hseating (by simp [hphase]) (by simp [Tgc.seating])).2⟩
    exact ((raised.recordFault_of_only hcounted).of_only (l := [.tgc]) ((onlyChanges.refl _).updTgc rfl)).settle
  case refine_14 =>
    have hcount := emptyCount_of_ne (c := c) (known_ne_zero hp hp0)
    have hexec := exec_dropTimeout_last hs hstop ht hc hskip (by omega) hopen
    rw [slot_of_known hp] at hexec
    generalize hv : ((dropRecorded s).updTgc fun t =>
      { t with cycle := some { c with emptyDrops := emptyCount c (some p) } }) = v at hexec
    have hcounted : onlyChanges [.tgc] (dropRecorded s) v := hv ▸ (onlyChanges.refl _).updTgc rfl
    have hseating : onlyChanges (.tgc :: .map :: faultReports) s _ :=
      (((only_dropRecorded s).trans hcounted.mono).recordFault .trayEmpty .halt (.atSlot (some p))).updTgc
        (f := Tgc.seating) rfl
    have hraised : raised .trayEmpty .halt (.atSlot (some p)) (dropRecorded s) (settle
        ((recordFault .trayEmpty .halt (.atSlot (some p)) v).updTgc Tgc.seating)) :=
      ((raised.recordFault_of_only hcounted).of_only (l := [.tgc]) ((onlyChanges.refl _).updTgc rfl)).settle
    refine ⟨_, hexec, rfl, by simp [Tgc.seating, ← hv, Tgc.emptied], ?_,
      (settle_closed hs.2 hseating (by simp [hphase]) (by simp [Tgc.seating])).2, fun hvacant => ?_, fun hocc => ?_⟩
    · simpa [← hv] using dropRecorded_map hp hp0
    · exact hraised.congr_left (dropRecorded_flt_of_vacant hp hvacant).symm
    · exact ⟨(hraised.mem_sticky _).2 (.inr (slideMissing_mem_sticky hp hp0 hocc)), (hraised.mem_sticky _).2 (.inl rfl)⟩

end Sys2Proof.Proofs
end

section
/-! PROOFS. Jams (R10, R13, R16, R19, R21, R24, R41, R134, R144). -/

namespace Sys2Proof.Proofs

open Sys2Proof.Machine Sys2Proof.Safety

/-! ## The queue is emptied (R41) -/

theorem flushQueue_mq (reason : CancelReason) (s : State) : (flushQueue reason s).mq = [] :=
  ((Alike.refl (s.updMq fun _ => [])).flushQueue reason).mq

theorem only_flushQueue {l : List Area} {s t : State} (h : onlyChanges l s t) (reason : CancelReason)
    (hl : ∀ p ∈ Area.mq :: reports, p ∈ l := by decide) : onlyChanges l s (flushQueue reason t) := by
  have all : ∀ (q : List Motion) (u : State), onlyChanges l s u → onlyChanges l s (q.foldl (fun s m =>
      if m.active then activeCancelled reason m s else waitingCancelled reason s m) u) := by
    intro q
    induction q with
    | nil => exact fun u hu => hu
    | cons m q ih =>
      intro u hu
      refine ih _ ?_
      dsimp only
      split
      · exact hu.raiseEvent _ fun p hp => hl p (by simp [hp])
      · exact hu.raiseEvent _ fun p hp => hl p (by simp [hp])
  exact all _ _ (h.updMq _ (hl _ (by decide)))

/-- The records of a jam before the show is told of its entries (R19, R41). -/
def jamCleared (s : State) : State :=
  flushQueue .jammed (s.updTgc fun t => { t.stopped with phase := .jammed, gateLoad := .unknown })

theorem enterJammed_eq (s : State) : enterJammed s = s.mq.foldl tellCancelled (jamCleared s) := rfl

theorem only_jamCleared {l : List Area} {s t : State} (h : onlyChanges l s t)
    (hl : ∀ p ∈ Area.tgc :: .mq :: reports, p ∈ l := by decide) : onlyChanges l s (jamCleared t) :=
  only_flushQueue (h.updTgc rfl (hl _ (by decide))) _ fun p hp => hl p (by simp at hp ⊢; tauto)

@[simp] theorem jamCleared_frame (s : State) :
    (jamCleared s).tgc = { s.tgc with
      motor := none, lift := false, timer := none, cycle := none, phase := .jammed, gateLoad := .unknown } ∧
      (jamCleared s).mq = [] ∧ (jamCleared s).shc = s.shc ∧ (jamCleared s).tac = s.tac ∧
      (jamCleared s).retained = s.retained := by
  simp [jamCleared, flushQueue_mq, Tgc.stopped]

/-- A step that ends with the records of a jam ends jammed, the shutter closed (R5, R19). -/
theorem jammed_settle {s t : State} (htgc : t.tgc = (jamCleared s).tgc) (hmq : t.mq = []) : jammed (settle t) := by
  have hclosed : t.shutterOpen = false := shutterOpen_of_phase (by simp [htgc])
  simp [jammed, htgc, hmq, hclosed]

/-! ## With the show at rest -/

/-- The notices of entries that are not the show's are nobody's (R43). -/
theorem foldl_tellCancelled_other {q : List Motion} (h : ∀ m ∈ q, m.source ≠ .theShow) (s : State) :
    q.foldl tellCancelled s = s := by
  induction q with
  | nil => rfl
  | cons m q ih =>
    rw [List.foldl_cons, tellCancelled, if_neg (h m (by simp))]
    exact ih fun x hx => h x (by simp [hx])

theorem enterJammed_at_rest {s : State} (h : ∀ m ∈ s.mq, m.source ≠ .theShow) : enterJammed s = jamCleared s := by
  rw [enterJammed_eq, foldl_tellCancelled_other h]

/-- A jam with the show at rest: the fault, and the queue emptied (R19, R41). -/
theorem jam_at_rest {l : List Area} {s u : State} (hs : runs s) (hrest : showAtRest s) (hu : onlyChanges l s u)
    (c : FaultCode) (sv : Severity) (d : Detail) (hf : u.flt = s.flt) (hq : u.mq = s.mq) (hshc : u.shc = s.shc)
    (hl : ∀ p ∈ Area.tgc :: .shutter :: .mq :: faultReports, p ∈ l := by decide) :
    jammed (settle (enterJammed (raiseAs c sv d u))) ∧ raised c sv d s (settle (enterJammed (raiseAs c sv d u))) ∧
      (settle (enterJammed (raiseAs c sv d u))).tgc.present = u.tgc.present ∧
      (settle (enterJammed (raiseAs c sv d u))).retained = u.retained ∧
      onlyChanges l s (settle (enterJammed (raiseAs c sv d u))) := by
  obtain ⟨hstop, -, -, hsource⟩ := hrest
  rw [raiseAs_of_stopped (hshc ▸ hstop), enterJammed_at_rest (by simpa [hq] using hsource)]
  have hclear : onlyChanges (.tgc :: .mq :: reports) (recordFault c sv d u) (jamCleared (recordFault c sv d u)) :=
    only_jamCleared (.refl _)
  have honly := only_jamCleared (hu.recordFault c sv d fun p hp => hl p (by simp [hp])) fun p hp => hl p (by
    simp [reports, faultReports] at hp ⊢; tauto)
  exact ⟨jammed_settle (s := recordFault c sv d u) rfl (by simp), ((raised.recordFault hf).of_only hclear).settle,
    by simp, by simp, honly.settle hs.2 (.inl (hl _ (by decide))) (.inl (hl _ (by decide)))⟩

/-! ## With a show that runs or is paused (R134, R144) -/

/-- The transport of a show that is held: a PLAY is paused (R144, R156). -/
theorem enterHeld_tac (code : FaultCode) (hold : Bool) (s : State) :
    (enterHeld code hold s).tac.state = if s.tac.state = .play then .paused else s.tac.state := by
  unfold enterHeld
  dsimp only
  by_cases hplay : s.tac.state = .play
  · rw [if_pos (by simpa using hplay)]
    simp [tapePauseOrder, hplay]
  · rw [if_neg (by simpa using hplay)]
    simp [hplay]

theorem enterHeld_shc (code : FaultCode) (hold : Bool) (s : State) : (enterHeld code hold s).shc =
    { s.shc with state := .held, register := .empty, returning := false,
                 held := some ⟨hold, code, s.shc.state.resumeAs⟩ } := by
  unfold enterHeld
  dsimp only
  split <;> simp

theorem only_tapePauseOrder {l : List Area} {s t : State} (h : onlyChanges l s t) (cause : TapeCause)
    (hplay : t.tac.state = .play) (hl : ∀ p ∈ Area.tac :: .cdec :: reports, p ∈ l := by decide) :
    onlyChanges l s (tapePauseOrder cause t) := by
  rw [tapePauseOrder, hplay]
  unfold enterTransport
  dsimp only
  split
  · exact (h.updTac _ (hl _ (by decide))).updCdec _ (hl _ (by decide))
  · exact ((h.updTac _ (hl _ (by decide))).updCdec _ (hl _ (by decide))).raiseEvent _ fun p hp => hl p (by simp [hp])

theorem only_enterHeld {l : List Area} {s t : State} (h : onlyChanges l s t) (code : FaultCode) (hold : Bool)
    (hl : ∀ p ∈ Area.shc :: .tac :: .cdec :: reports, p ∈ l := by decide) :
    onlyChanges l s (enterHeld code hold t) := by
  have hreports : ∀ p ∈ reports, p ∈ l := fun p hp => hl p (by simp [hp])
  have hheld : onlyChanges l s ((setShow .held (.fault code) t).updShc fun c =>
      { c with held := some ⟨hold, code, t.shc.state.resumeAs⟩ }) :=
    ((h.updShc _ (hl _ (by decide))).raiseEvent _ hreports).updShc _ (hl _ (by decide))
  unfold enterHeld
  dsimp only
  split
  · next hplay => exact only_tapePauseOrder hheld _ hplay fun p hp => hl p (by simp at hp ⊢; tauto)
  · exact hheld

/-- The show's changes that leave the queue take their items of the issued-move list with them, the oldest first
(R134). -/
theorem foldl_tellCancelled_changes {q : List Motion} {s : State} (hlen : showCount q ≤ s.shc.issued.length)
    (hpurpose : ∀ x ∈ s.shc.issued, x.purpose = .change ∨ x.purpose = .step ∨ x.purpose = .resync) :
    q.foldl tellCancelled s = s.updShc fun c => { c with issued := c.issued.drop (showCount q) } := by
  induction q generalizing s with
  | nil => rfl
  | cons m q ih =>
    rw [showCount_cons] at hlen ⊢
    by_cases hm : m.source = .theShow
    · rw [if_pos hm] at hlen ⊢
      obtain ⟨item, more, hissued⟩ := List.exists_cons_of_length_pos (l := s.shc.issued) (by omega)
      rw [List.foldl_cons, tellCancelled, if_pos hm, showMoveCancelled_idle hissued
        (actsOnNothing_of_change (hpurpose item (by simp [hissued])) _)]
      rw [hissued] at hlen
      rw [ih (by simpa using hlen) fun x hx => hpurpose x (by simp only [State.updShc_shc] at hx; simp [hissued, hx])]
      simp [State.updShc, hissued]
    · rw [if_neg hm] at hlen ⊢
      rw [List.foldl_cons, tellCancelled, if_neg hm]
      exact ih hlen hpurpose

/-- A HALT in a show that runs or is paused holds it (R144). -/
theorem raiseFault_halt {s : State} {c : FaultCode} (hc : c.severity = .halt)
    (hstate : s.shc.state = .running ∨ s.shc.state = .paused) (d : Detail) :
    raiseFault c d s = enterHeld c false (recordFault c .halt d s) := by
  have hheeds : (recordFault c .halt d s).shc.state.heedsFaults = true := by
    rcases hstate with h | h <;> simp [h, ShowState.heedsFaults]
  simp only [raiseFault, raiseAs, hc, showReact, hheeds, if_true]

/-- A jam in a show that runs or is paused: it is held, and its changes leave with their items (R134, R144). -/
theorem jam_in_show {s : State} {c : FaultCode} (hc : c.severity = .halt) (d : Detail)
    (hstate : s.shc.state = .running ∨ s.shc.state = .paused) (hlen : s.shc.issued.length = showCount s.mq)
    (hpurpose : ∀ x ∈ s.shc.issued, x.purpose = .change ∨ x.purpose = .step ∨ x.purpose = .resync) :
    enterJammed (raiseFault c d s) = (jamCleared (enterHeld c false (recordFault c .halt d s))).updShc fun k =>
      { k with issued := [] } := by
  have hissued : (jamCleared (enterHeld c false (recordFault c .halt d s))).shc.issued = s.shc.issued := by
    simp [enterHeld_shc]
  have htell := foldl_tellCancelled_changes (q := s.mq)
    (s := jamCleared (enterHeld c false (recordFault c .halt d s))) (by rw [hissued, hlen]) (by rwa [hissued])
  have hmq : (enterHeld c false (recordFault c .halt d s)).mq = s.mq := by simp
  rw [raiseFault_halt hc hstate, enterJammed_eq, hmq, htell]
  simp only [State.updShc, hissued, ← hlen, List.drop_length]

/-! ## The events -/

theorem exec_stepTimeout {s : State} (hs : runs s) (ht : s.tgc.timer = some .step) : exec .stepTimeout s =
    .next (settle (enterJammed (raiseAs .trayStall .halt (.atSlot s.slot)
      (setPosition .unknown (s.updTgc fun t => { t with motor := none }))))) := by
  refine congrArg _ ((whenRunning_of hs.1 _).trans ?_)
  rw [onTimer, if_pos ht]
  rfl

/-- The 92nd pulse without the home sensor (R21). -/
theorem pulseHoming_of_lost {s : State} {c : CycleRecord} (h : s.pins.home = false) (hn : 91 ≤ c.pulses) :
    pulseHoming c s = enterJammed (raiseAs .homeNotFound .halt .empty
      ((updCycle (fun c => { c with pulses := c.pulses + 1 }) s).updTgc fun t => { t with motor := none })) := by
  have hmany : ¬ c.pulses + 1 < 92 := by omega
  simp [pulseHoming, h, hmany, raiseFault, FaultCode.severity]

/-- A removal in a cycle, or with the gate UNSEATED (R24). -/
theorem trayRemoved_of_cycle {s : State} (hready : s.tgc.phase ≠ .ready) (hjammed : s.tgc.phase ≠ .jammed) :
    trayRemoved (s.updPins fun p => { p with trayPresent := false }) =
      enterJammed (raiseAs .trayRemoved .halt .empty (trayGone s)) := by
  unfold trayRemoved
  dsimp only
  split
  · next h => exact absurd h hready
  · next h => exact absurd h hjammed
  all_goals rfl

/-- Settles O19: each jam raises its HALT first and then empties the queue, which leaves a show at rest as it is and
takes the items of one that runs. -/
theorem jamsEmptyTheQueue : Obligations.JamsEmptyTheQueue := by
  unfold Obligations.JamsEmptyTheQueue
  refine ⟨fun s c hs hrest ht hc ha => ?_, fun s hs hrest ht => ?_, fun s c hs hrest ht hc hseat => ?_,
    fun s c hs hrest hphase hc hn => ?_, fun s c hs hstate hlen hpurpose ht hc ha => ?_,
    fun s hs hrest hready hjammed => ?_⟩
  case refine_1 =>
    have hexpired : liftExpired s = enterJammed (raiseAs .gateJam .halt (.atSlot s.slot) s) := by
      simp [liftExpired, hc, not_lt.2 ha, raiseFault, FaultCode.severity]
    obtain ⟨hjam, hraised, -, -, honly⟩ := jam_at_rest (l := .tgc :: .shutter :: .mq :: faultReports) hs hrest (.refl s)
      .gateJam .halt (.atSlot s.slot) rfl rfl rfl
    exact ⟨_, hexpired ▸ exec_liftTimeout hs ht, hjam, hraised, honly⟩
  case refine_2 =>
    have hlost : onlyChanges (.tgc :: .shutter :: .mq :: .position :: faultReports) s
        (setPosition .unknown (s.updTgc fun t => { t with motor := none })) :=
      ((onlyChanges.refl s).updTgc rfl).setPosition _
    obtain ⟨hjam, hraised, -, hretained, honly⟩ := jam_at_rest hs hrest hlost .trayStall .halt (.atSlot s.slot) rfl rfl
      rfl
    exact ⟨_, exec_stepTimeout hs ht, hjam, hraised, by rw [hretained]; rfl, honly⟩
  case refine_3 =>
    have hexpired : seatExpired s = enterJammed (raiseAs .seatFailed .halt (.atSlot s.slot) s) := by
      simp [seatExpired, hc, hseat, raiseFault, FaultCode.severity]
    obtain ⟨hjam, hraised, -, -, honly⟩ := jam_at_rest (l := .tgc :: .shutter :: .mq :: faultReports) hs hrest (.refl s)
      .seatFailed .halt (.atSlot s.slot) rfl rfl rfl
    exact ⟨_, hexpired ▸ exec_seatTimeout hs ht, hjam, hraised, honly⟩
  case refine_4 =>
    have hexec := exec_indexPulse_homing hs false hphase hc
    rw [pulseHoming_of_lost rfl hn] at hexec
    have hpulse : onlyChanges (.pins :: .tgc :: .shutter :: .mq :: faultReports) s
        ((updCycle (fun c => { c with pulses := c.pulses + 1 }) (s.updPins fun p => { p with home := false })).updTgc
          fun t => { t with motor := none }) := (((onlyChanges.refl s).updPins _).updCycle _).updTgc rfl
    obtain ⟨hjam, hraised, -, -, honly⟩ := jam_at_rest hs hrest hpulse .homeNotFound .halt .empty rfl rfl
      rfl
    exact ⟨_, hexec, hjam, hraised, honly⟩
  case refine_5 =>
    have hexpired : liftExpired s = enterJammed (raiseFault .gateJam (.atSlot s.slot) s) := by
      simp [liftExpired, hc, not_lt.2 ha]
    have hexec := exec_liftTimeout hs ht
    rw [hexpired, jam_in_show rfl _ hstate hlen hpurpose] at hexec
    have hheld : onlyChanges (.tgc :: .mq :: .shc :: .tac :: .cdec :: reports)
        (recordFault .gateJam .halt (.atSlot s.slot) s)
        ((jamCleared (enterHeld .gateJam false (recordFault .gateJam .halt (.atSlot s.slot) s))).updShc fun k =>
          { k with issued := [] }) := (only_jamCleared (only_enterHeld (.refl _) _ _)).updShc _
    have hrecord : onlyChanges (.tgc :: .shutter :: .mq :: .shc :: .tac :: .cdec :: faultReports) s
        (recordFault .gateJam .halt (.atSlot s.slot) s) := (onlyChanges.refl s).recordFault _ _ _
    refine ⟨_, hexec, jammed_settle (s := enterHeld .gateJam false (recordFault .gateJam .halt (.atSlot s.slot) s)) rfl
      (by simp), ((raised.recordFault_same s).of_only hheld).settle, ?_, ?_,
      (hrecord.trans hheld.mono).settle hs.2 (.inl (by decide))⟩
    · rcases hstate with h | h <;> simp [enterHeld_shc, h, ShowState.resumeAs]
    · simp [enterHeld_tac]
  case refine_6 =>
    have hexec := exec_trayRemoval hs
    rw [trayRemoved_of_cycle hready hjammed] at hexec
    have hgone : onlyChanges (.pins :: .tgc :: .shutter :: .mq :: .position :: .map :: faultReports) s (trayGone s) :=
      (only_trayGone s).mono
    obtain ⟨hjam, hraised, hpresent, hretained, honly⟩ := jam_at_rest hs hrest hgone .trayRemoved .halt .empty rfl rfl
      rfl
    exact ⟨_, hexec, hjam, hpresent.trans rfl, hraised, by rw [hretained]; rfl, by rw [hretained]; rfl, honly⟩

end Sys2Proof.Proofs
end

section
/-! PROOFS. Requests that act, and MOVE at the motion queue (R32 to R35). -/

namespace Sys2Proof.Proofs

open Sys2Proof.Machine Sys2Proof.Safety

/-! ## A request that acts -/

/-- The end of a request whose owner has acted and answered: the reply placed, the step settled (R200, log 5). -/
def requestDone (i : Instr) (r : State × Response) : State := settle (placeReply (requestKind i + 0x80) r.2 r.1)

@[simp] theorem requestDone_frame (i : Instr) (r : State × Response) :
    (requestDone i r).mq = r.1.mq ∧ (requestDone i r).shc = r.1.shc ∧ (requestDone i r).tac = r.1.tac ∧
      (requestDone i r).fe = r.1.fe ∧ (requestDone i r).cdec = r.1.cdec ∧
      (requestDone i r).retained = r.1.retained :=
  ⟨rfl, rfl, rfl, rfl, rfl, rfl⟩

/-- A request changes what its owner changes, and the reply (R200). -/
theorem requestDone_of_act {l : List Area} {s u : State} {i : Instr} {act : State → State × Response} {r : Response}
    (ht : takes s) (hexec : exec i s = .next (whenLive (hostRequest i act) s)) (hact : act s = (u, r))
    (hchange : onlyChanges l s u) (hphase : u.tgc.phase = s.tgc.phase) (hblank : u.tgc.blank = s.tgc.blank)
    (hlength : lengthOk i = true := by rfl) (hl : .linkOut ∈ l := by decide) (hshutter : .shutter ∉ l := by decide)
    (hpower : .power ∉ l := by decide) :
    exec i s = .next (requestDone i (u, r)) ∧ answered i r (requestDone i (u, r)) ∧
      (requestDone i (u, r)).tgc = u.tgc ∧ onlyChanges l s (requestDone i (u, r)) := by
  refine ⟨?_, answered_settle,
    settle_same ht.1.2 (hchange.placeReply _ _ hl) hphase hblank hshutter hpower (.inl hl)⟩
  rw [hexec, whenLive_request ht hlength act, hact]
  rfl

/-! ## An entry offered to the queue (R33, R34) -/

/-- An entry is offered to the tail alone (R34). -/
theorem mergeInto_append (move : Move) (source : Source) (before : List Motion) (tail : Motion) :
    mergeInto move source (before ++ [tail]) = (mergeTail tail move source).map fun t => before ++ [t] := by
  induction before with
  | nil => rfl
  | cons m before ih =>
    obtain ⟨n, more, hmore⟩ := List.exists_cons_of_ne_nil (l := before ++ [tail]) (by simp)
    have hstep : mergeInto move source (m :: (before ++ [tail])) =
        (mergeInto move source (before ++ [tail])).map fun r => m :: r := by
      rw [hmore]
      rfl
    rw [List.cons_append, hstep, ih, Option.map_map]
    rfl

/-- A GOTO and a HOME merge with nothing (R34). -/
theorem mergeInto_uncounted {move : Move} (h : (∃ p, move = .goto p) ∨ move = .home) (source : Source)
    (q : List Motion) : mergeInto move source q = none := by
  have htail : ∀ tail, mergeTail tail move source = none := by
    intro tail
    unfold mergeTail
    rcases h with ⟨p, rfl⟩ | rfl <;> simp
  rcases List.eq_nil_or_concat q with rfl | ⟨before, tail, rfl⟩
  · rfl
  · simp [mergeInto_append, htail]

/-- A counted move does not merge into an entry that is ACTIVE, another source's, tagged, or of another move (R34). -/
theorem mergeTail_ineligible {kind n : Nat} {move : Move} {tail : Motion}
    (h : (kind = 1 ∧ move = .advance n) ∨ (kind = 2 ∧ move = .back n))
    (htail : tail.active = true ∨ tail.source ≠ .link ∨ tail.tag ≠ none ∨
      (∀ m, tail.move ≠ (if kind = 1 then .advance m else .back m))) : mergeTail tail move .link = none := by
  unfold mergeTail
  split
  · next heligible =>
    obtain ⟨-, hactive, hsource, htag⟩ := heligible
    have hmove : ∀ m, tail.move ≠ (if kind = 1 then .advance m else .back m) := by simp_all
    rcases h with ⟨rfl, rfl⟩ | ⟨rfl, rfl⟩
    · have hother : ∀ m, tail.move ≠ .advance m := hmove
      cases hm : tail.move <;> simp_all
    · have hother : ∀ m, tail.move ≠ .back m := hmove
      cases hm : tail.move <;> simp_all
  · rfl

/-! ## MOVE by its operand and by what the queue does with the entry -/

/-- A counted MOVE takes at most 90 positions, and says whether it was clamped (R32). -/
theorem moveOperand_counted {kind n : Nat} {move : Move} (hn : 1 ≤ n)
    (h : (kind = 1 ∧ move = .advance (min n 90)) ∨ (kind = 2 ∧ move = .back (min n 90))) :
    moveOperand kind n = some (move, decide (90 < n)) := by
  have hne : n ≠ 0 := by omega
  rcases h with ⟨rfl, rfl⟩ | ⟨rfl, rfl⟩ <;> simp [moveOperand, hne]

theorem moveOperand_goto (p : Slot) : moveOperand 3 p.val = some (.goto p, false) := by
  simp [moveOperand]

section

variable {s : State} {kind arg : Nat} {move : Move} {clamped : Bool}

/-- A MOVE that joins behind what waits (R33). -/
theorem move_joins (ht : takes s) (hop : moveOperand kind arg = some (move, clamped))
    (hmerge : mergeInto move .link s.mq = none) (hroom : s.mq.length < 8) :
    ∃ t, exec (.move kind arg) s = .next t ∧ t.mq = s.mq ++ [⟨move, .link, none, false⟩] ∧
      answered (.move kind arg) (okClamped clamped (.moved false (s.mq.length + 1))) t ∧
      onlyChanges [.mq, .linkOut] s t := by
  have hreq : reqMove kind arg s = (s.updMq fun q => q ++ [⟨move, .link, none, false⟩],
      okClamped clamped (.moved false (s.mq.length + 1))) := by
    simp [reqMove, hop, offer, hmerge, not_le.2 hroom]
  obtain ⟨hexec, hanswer, -, honly⟩ := requestDone_of_act (l := [.mq, .linkOut]) (i := .move kind arg) ht rfl hreq
    ((onlyChanges.refl s).updMq _) rfl rfl
  exact ⟨_, hexec, rfl, hanswer, honly⟩

/-- A MOVE that merges into the tail: the queue keeps its length (R34). -/
theorem move_merges {q : List Motion} (ht : takes s) (hop : moveOperand kind arg = some (move, clamped))
    (hmerge : mergeInto move .link s.mq = some q) :
    ∃ t, exec (.move kind arg) s = .next t ∧ t.mq = q ∧
      answered (.move kind arg) (okClamped clamped (.moved true s.mq.length)) t ∧
      onlyChanges [.mq, .linkOut] s t := by
  have hreq : reqMove kind arg s = (s.updMq fun _ => q, okClamped clamped (.moved true s.mq.length)) := by
    simp [reqMove, hop, offer, hmerge, mergeInto_length _ _ _ _ hmerge]
  obtain ⟨hexec, hanswer, -, honly⟩ := requestDone_of_act (l := [.mq, .linkOut]) (i := .move kind arg) ht rfl hreq
    ((onlyChanges.refl s).updMq _) rfl rfl
  exact ⟨_, hexec, rfl, hanswer, honly⟩

/-- A MOVE that finds the queue full changes the reply alone (R35). -/
theorem move_finds_full (ht : takes s) (hop : moveOperand kind arg = some (move, clamped))
    (hmerge : mergeInto move .link s.mq = none) (hfull : 8 ≤ s.mq.length) :
    ∃ t, exec (.move kind arg) s = .next t ∧ answered (.move kind arg) (refuse .queueFull) t ∧
      onlyChanges [.linkOut] s t :=
  answers_only (act := reqMove kind arg) ht rfl (by simp [reqMove, hop, offer, hmerge, hfull, refusedFull])

end

/-- Settles O11: by whether the operand is a move, whether the tail takes it, and whether there is room. -/
theorem moveJoinsOrMerges : Obligations.MoveJoinsOrMerges := by
  unfold Obligations.MoveJoinsOrMerges
  refine ⟨fun s kind n new ht hn _ hempty hkind => ?_, fun s p ht hroom => ?_, fun s arg ht hroom => ?_,
    fun s before kind m n old new ht hn _ hkind hmq => ?_,
    fun s before tail kind n new ht hn _ hkind hmq htail => ?_, fun s p arg ht hfull => ?_,
    fun s kind arg ht hnone => ?_⟩
  case refine_1 =>
    have hjoin := move_joins ht (moveOperand_counted hn hkind) (by rw [hempty]; rfl) (by simp [hempty])
    simpa [hempty] using hjoin
  case refine_2 => exact move_joins ht (moveOperand_goto p) (mergeInto_uncounted (.inl ⟨p, rfl⟩) _ _) hroom
  case refine_3 => exact move_joins ht rfl (mergeInto_uncounted (.inr rfl) _ _) hroom
  case refine_4 =>
    rcases hkind with ⟨rfl, rfl, rfl⟩ | ⟨rfl, rfl, rfl⟩
    · exact move_merges ht (moveOperand_counted hn (.inl ⟨rfl, rfl⟩)) (by rw [hmq, mergeInto_append]; rfl)
    · exact move_merges ht (moveOperand_counted hn (.inr ⟨rfl, rfl⟩)) (by rw [hmq, mergeInto_append]; rfl)
  case refine_5 =>
    have hoperand := moveOperand_counted hn hkind
    have hmerge : mergeInto new .link s.mq = none := by
      rw [hmq, mergeInto_append, mergeTail_ineligible hkind htail]
      rfl
    exact ⟨move_joins ht hoperand hmerge, move_finds_full ht hoperand hmerge⟩
  case refine_6 =>
    obtain ⟨t, hgoto, hanswer, honly⟩ :=
      move_finds_full ht (moveOperand_goto p) (mergeInto_uncounted (.inl ⟨p, rfl⟩) _ _) hfull
    obtain ⟨u, hhome⟩ := move_finds_full (kind := 4) (arg := arg) ht rfl (mergeInto_uncounted (.inr rfl) _ _) hfull
    exact ⟨t, u, hgoto, hanswer, honly, hhome⟩
  case refine_7 => exact answers_only (act := reqMove kind arg) ht rfl (by simp [reqMove, hnone])

end Sys2Proof.Proofs
end

section
/-! PROOFS. HALT_MOTION at the motion queue (R23, R37, R39, R43, R134). -/

namespace Sys2Proof.Safety.onlyChanges

open Sys2Proof.Machine

variable {l : List Area} {s t : State}

theorem discardWaiting (h : onlyChanges l s t) (p : Motion → Bool) (reason : CancelReason)
    (hl : ∀ a ∈ Area.mq :: reports, a ∈ l := by decide) : onlyChanges l s (discardWaiting p reason t) := by
  have told : ∀ (gone : List Motion) (u : State), onlyChanges l s u →
      onlyChanges l s (gone.foldl (waitingCancelled reason) u) := by
    intro gone
    induction gone with
    | nil => exact fun u hu => hu
    | cons m gone ih => exact fun u hu => ih _ (hu.raiseEvent _ fun a ha => hl a (by simp [ha]))
  exact told _ _ (h.updMq _ (hl _ (by decide)))

theorem cancelActive (h : onlyChanges l s t) (reason : CancelReason) (hl : .tgc ∈ l := by decide) :
    onlyChanges l s (cancelActive reason t) := h.updTgc rfl hl

end Sys2Proof.Safety.onlyChanges

namespace Sys2Proof.Proofs

open Sys2Proof.Machine Sys2Proof.Safety

/-! ## The cancel of the ACTIVE entry -/

/-- With no cycle there is nothing to cancel (R39). -/
theorem cancelActive_of_none {s : State} (h : s.tgc.cycle = none) (reason : CancelReason) :
    cancelActive reason s = s := by
  simp only [cancelActive, State.updTgc, h, Option.map_none]
  rw [← h]

/-- The cycle record after a cancel: a flag that is set keeps its reason (R23, R39). -/
def cycleCancelled (phase : Phase) (reason : CancelReason) (c : CycleRecord) : CycleRecord :=
  { c with cancel := c.cancel || c.cancellable phase
           cancelReason := if c.cancel = false ∧ c.cancellable phase = true then reason else c.cancelReason }

theorem cancelActive_of_some {s : State} {c : CycleRecord} (h : s.tgc.cycle = some c) (reason : CancelReason) :
    (cancelActive reason s).tgc.cycle = some (cycleCancelled s.tgc.phase reason c) := by
  simp only [cancelActive, State.updTgc_tgc, h, Option.map_some, cycleCancelled]
  generalize c.cancellable s.tgc.phase = able
  cases c with
  | mk _ _ _ _ _ _ _ _ cancel => cases cancel <;> cases able <;> rfl

/-! ## HALT_MOTION -/

/-- The part once its host has halted the queue, before the show is told of its entries (R39). -/
def motionHalted (s : State) : State := cancelActive .halt (discardWaiting (fun _ => true) .halt s)

theorem only_motionHalted (s : State) : onlyChanges (.mq :: .tgc :: reports) s (motionHalted s) :=
  ((onlyChanges.refl s).discardWaiting _ _).cancelActive _

theorem motionHalted_mq (s : State) : (motionHalted s).mq = s.mq.filter (·.active) := by
  simp [motionHalted]

@[simp] theorem motionHalted_frame (s : State) :
    (motionHalted s).shc = s.shc ∧ (motionHalted s).tgc.phase = s.tgc.phase ∧
      (motionHalted s).tgc.blank = s.tgc.blank := by
  simp [motionHalted]

section

variable {s : State}

/-- The owner's part, by the entries that wait and what the show makes of their notices (R39). -/
theorem reqHaltMotion_eq {gone : List Motion} {u : State} {outcome : CancelOutcome}
    (hgone : waitingOf (fun _ => true) s.mq = gone) (htold : gone.foldl tellCancelled (motionHalted s) = u)
    (houtcome : cancelOutcome (motionHalted s) = outcome) :
    reqHaltMotion s = (u, okWith (.halted gone.length outcome)) := by
  subst hgone htold houtcome
  rfl

/-- A queue of which nothing is ACTIVE leaves whole, and there is no cycle to cancel (R39). -/
theorem motionHalted_of_waiting (hwaits : ∀ m ∈ s.mq, m.active = false) (hcycle : s.tgc.cycle = none) :
    waitingOf (fun _ => true) s.mq = s.mq ∧ (motionHalted s).mq = [] ∧
      cancelOutcome (motionHalted s) = .nothing ∧ onlyChanges (.mq :: reports) s (motionHalted s) := by
  have hmq : (motionHalted s).mq = [] := by simpa [motionHalted_mq] using hwaits
  refine ⟨List.filter_eq_self.2 fun m hm => by simp [hwaits m hm], hmq, by simp [cancelOutcome, hmq], ?_⟩
  rw [motionHalted, cancelActive_of_none (by simpa using hcycle)]
  exact .discardWaiting (.refl s) _ _

/-- The head ACTIVE: it stays, and the cancel is taken where its flag is set (R23, R39). -/
theorem motionHalted_of_active {m : Motion} {rest : List Motion} {c : CycleRecord} (hmq : s.mq = m :: rest)
    (hm : m.active = true) (hwaits : ∀ x ∈ rest, x.active = false) (hcycle : s.tgc.cycle = some c) :
    waitingOf (fun _ => true) s.mq = rest ∧ (motionHalted s).mq = [m] ∧
      (motionHalted s).tgc.cycle = some (cycleCancelled s.tgc.phase .halt c) ∧
      cancelOutcome (motionHalted s) = if c.cancel || c.cancellable s.tgc.phase then .taken else .notTaken := by
  have hhead : (motionHalted s).mq = [m] := by simpa [motionHalted_mq, hmq, hm] using hwaits
  have hcancel : (motionHalted s).tgc.cycle = some (cycleCancelled s.tgc.phase .halt c) := by
    have h := cancelActive_of_some (s := discardWaiting (fun _ => true) .halt s) (by simpa using hcycle) .halt
    simpa [motionHalted] using h
  refine ⟨?_, hhead, hcancel, by simp [cancelOutcome, hhead, hm, hcancel, cycleCancelled]⟩
  rw [hmq, waitingOf, List.filter_cons_of_neg (by simp [hm])]
  exact List.filter_eq_self.2 fun x hx => by simp [hwaits x hx]

end

/-- Settles O12: what waits leaves, with its notices, and the ACTIVE entry keeps the cancel that R23 gives it. -/
theorem haltMotionEmptiesTheQueue : Obligations.HaltMotionEmptiesTheQueue := by
  unfold Obligations.HaltMotionEmptiesTheQueue
  refine ⟨fun s ht hrest hwaits hcycle => ?_, fun s ht hwaits hcycle hlen hpurpose => ?_,
    fun s m rest c ht hrest hmq hm hwaits hcycle => ?_⟩
  case refine_1 =>
    obtain ⟨-, -, -, hother⟩ := hrest
    obtain ⟨hgone, hempty, houtcome, honly⟩ := motionHalted_of_waiting hwaits hcycle
    have hreq := reqHaltMotion_eq hgone (foldl_tellCancelled_other hother _) houtcome
    obtain ⟨hexec, hanswer, -, honly⟩ := requestDone_of_act (i := .haltMotion) ht rfl hreq honly (by simp) (by simp)
    exact ⟨_, hexec, hempty, hanswer, honly⟩
  case refine_2 =>
    obtain ⟨hgone, hempty, houtcome, honly⟩ := motionHalted_of_waiting hwaits hcycle
    have htold := foldl_tellCancelled_changes (q := s.mq) (s := motionHalted s) (by simp [hlen, showCount])
      (by simpa using hpurpose)
    have hreq := reqHaltMotion_eq hgone htold houtcome
    obtain ⟨hexec, hanswer, -, honly⟩ := requestDone_of_act (l := .mq :: .shc :: reports) (i := .haltMotion) ht rfl hreq
      (honly.mono.updShc _) (by simp) (by simp)
    have hissued : s.shc.issued.drop (showCount s.mq) = [] := List.drop_eq_nil_of_le hlen.le
    exact ⟨_, hexec, hempty, by simp [hissued], hanswer, honly⟩
  case refine_3 =>
    obtain ⟨-, -, -, hother⟩ := hrest
    obtain ⟨hgone, hhead, hcancel, houtcome⟩ := motionHalted_of_active hmq hm hwaits hcycle
    have hreq := reqHaltMotion_eq hgone (foldl_tellCancelled_other (fun x hx => hother x (by simp [hmq, hx])) _)
      houtcome
    obtain ⟨hexec, hanswer, htgc, honly⟩ := requestDone_of_act (i := .haltMotion) ht rfl hreq (only_motionHalted s)
      (by simp) (by simp)
    exact ⟨_, hexec, hhead, by rw [htgc, hcancel]; rfl, hanswer, honly⟩

end Sys2Proof.Proofs
end

section
/-! PROOFS. A show stop, and what a raised fault does to the show by its severity (R40, R47, R144, R149, R156). -/

namespace Sys2Proof.Safety.onlyChanges

open Sys2Proof.Machine

variable {l : List Area} {s t : State}

theorem updFe (h : onlyChanges l s t) {f : Fe → Fe} (hf : (f t.fe).dimmer = t.fe.dimmer)
    (hl : .fe ∈ l := by decide) : onlyChanges l s (t.updFe f) :=
  h.trans (single (a := .fe) (fun p hp => by cases p <;> simp_all [Area.same]) hl)

theorem installUser (h : onlyChanges l s t) (u : Vector Nat 17) (hl : .user ∈ l := by decide) :
    onlyChanges l s (t.updRetained fun r => { r with user := u }) :=
  h.trans (single (a := .user) (fun p hp => by cases p <;> simp_all [Area.same]) hl)

theorem enterTransport (h : onlyChanges l s t) (new : Transport) (brake : Option Direction) (cause : TapeCause)
    (hl : ∀ p ∈ Area.tac :: .cdec :: reports, p ∈ l := by decide) :
    onlyChanges l s (enterTransport new brake cause t) := by
  have hgate : onlyChanges l s ((t.updTac (Tac.enter t.retained.params.resumeRamp new brake)).updCdec
      (Cdec.gate t.tac.state new)) := (h.updTac _ (hl _ (by decide))).updCdec _ (hl _ (by decide))
  unfold Machine.enterTransport
  dsimp only
  split
  · exact hgate
  · exact hgate.raiseEvent _ fun p hp => hl p (by simp [hp])

theorem tapeStopOrder (h : onlyChanges l s t) (cause : TapeCause)
    (hl : ∀ p ∈ Area.tac :: .cdec :: reports, p ∈ l := by decide) :
    onlyChanges l s (tapeStopOrder cause t) := by
  have hdrop : onlyChanges l s (dropOrder t) := h.updTac _ (hl _ (by decide))
  unfold Machine.tapeStopOrder
  split
  · exact hdrop.enterTransport _ _ _ hl
  · split
    · exact h.enterTransport _ _ _ hl
    · split
      · exact hdrop
      · exact h

theorem endFade (h : onlyChanges l s t) (completed : Bool)
    (hl : ∀ p ∈ Area.fe :: .user :: reports, p ∈ l := by decide) : onlyChanges l s (endFade completed t) := by
  have hreports : ∀ p ∈ reports, p ∈ l := fun p hp => hl p (by simp [hp])
  unfold Machine.endFade
  split
  · exact h
  · dsimp only
    split
    · exact (h.updFe rfl (hl _ (by decide))).raiseEvent _ hreports
    · exact ((h.installUser _ (hl _ (by decide))).updFe rfl (hl _ (by decide))).raiseEvent _ hreports

theorem showFade (h : onlyChanges l s t) (target duration : Nat) (curve : Curve) (tag : Option Nat)
    (hl : ∀ p ∈ Area.fe :: .user :: reports, p ∈ l := by decide) :
    onlyChanges l s (showFade target duration curve tag t) :=
  (h.endFade false hl).updFe rfl (hl _ (by decide))

theorem setShow (h : onlyChanges l s t) (new : ShowState) (reason : ShowReason)
    (hl : ∀ p ∈ Area.shc :: reports, p ∈ l := by decide) : onlyChanges l s (setShow new reason t) :=
  (h.updShc _ (hl _ (by decide))).raiseEvent _ fun p hp => hl p (by simp [hp])

theorem enterStopped (h : onlyChanges l s t) (reason : StopReason)
    (hl : ∀ p ∈ Area.shc :: .tac :: .cdec :: reports, p ∈ l := by decide) :
    onlyChanges l s (enterStopped reason t) :=
  ((h.updShc _ (hl _ (by decide))).setShow _ _ fun p hp => hl p (by simp at hp ⊢; tauto)).tapeStopOrder _
    fun p hp => hl p (by simp at hp ⊢; tauto)

theorem discardShowMoves (h : onlyChanges l s t)
    (hl : ∀ p ∈ Area.shc :: .mq :: .tgc :: reports, p ∈ l := by decide) : onlyChanges l s (discardShowMoves t) := by
  have hdiscard : onlyChanges l s
      (Machine.discardWaiting (fun m => m.source == Source.theShow) .showStop t) :=
    h.discardWaiting _ _ fun p hp => hl p (by simp at hp ⊢; tauto)
  unfold Machine.discardShowMoves
  dsimp only
  refine updShc ?_ _ (hl _ (by decide))
  split
  · split
    · exact hdiscard.cancelActive _ (hl _ (by decide))
    · exact hdiscard
  · exact hdiscard

/-- What a show stop may change (R149). -/
theorem showStop (h : onlyChanges l s t) (reason : StopReason)
    (hl : ∀ p ∈ Area.shc :: .mq :: .tgc :: .fe :: .user :: .tac :: .cdec :: reports, p ∈ l := by decide) :
    onlyChanges l s (showStop reason t) :=
  ((((h.discardShowMoves fun p hp => hl p (by simp at hp ⊢; tauto)).updShc _ (hl _ (by decide))).showFade _ _ _ _
    fun p hp => hl p (by simp at hp ⊢; tauto)).enterStopped _ fun p hp => hl p (by simp at hp ⊢; tauto))

end Sys2Proof.Safety.onlyChanges

namespace Sys2Proof.Proofs

open Sys2Proof.Machine Sys2Proof.Safety

/-! ## The tape and the light at a show stop -/

/-- A STOP order leaves the transport STOPPED, and a gate that PLAY had open closed (R109, R156). -/
theorem tapeStopOrder_stops (cause : TapeCause) (s : State) : (tapeStopOrder cause s).tac.state = .stopped ∧
    (tapeStopOrder cause s).cdec.gateOpen = if s.tac.state = .play then false else s.cdec.gateOpen := by
  cases h : s.tac.state with
  | stopped =>
    simp only [tapeStopOrder, h, Transport.direction]
    split <;> simp [dropOrder, h]
  | paused | play | fastFwd | rewind =>
    simp [tapeStopOrder, h, Transport.direction, dropOrder, Cdec.gate]

/-- A fade order of the show's starts from the level of the moment, in place of any fade, and installs the USER table
that waited for its end (R47, R55, R63). -/
theorem showFade_light (target duration : Nat) (curve : Curve) (tag : Option Nat) (s : State) :
    (showFade target duration curve tag s).fe.fade =
        some ⟨s.fe.level, target, duration / 20, 0, curve, .theShow, tag⟩ ∧
      (showFade target duration curve tag s).retained.user =
        if s.fe.fade.isSome then s.fe.pendingUser.getD s.retained.user else s.retained.user := by
  refine ⟨by simp [showFade, createFade_fe], ?_⟩
  cases h : s.fe.fade with
  | none => simp [showFade, endFade_none _ _ h]
  | some r => simp [showFade, endFade_some _ _ _ h]

theorem enterStopped_shc (reason : StopReason) (s : State) : (enterStopped reason s).shc =
    { s.shc with state := .stopped, stopReason := some reason, register := .empty, returning := false } := by
  simp [enterStopped]

theorem enterStopped_tape (reason : StopReason) (s : State) : (enterStopped reason s).tac.state = .stopped ∧
    (enterStopped reason s).cdec.gateOpen = if s.tac.state = .play then false else s.cdec.gateOpen := by
  have h := tapeStopOrder_stops .theShow
    (setShow .stopped (.stop reason) (s.updShc fun c => { c with stopReason := some reason }))
  simpa [enterStopped] using h

/-! ## A show stop (R40, R149) -/

/-- The show's lists and records at a show stop, before its light and its tape stop (R149). -/
def showCleared (s : State) : State := (discardShowMoves s).updShc fun c =>
  { c with parts := .empty, cut := none, cues := [], hold := none, held := none }

theorem showStop_eq (reason : StopReason) (s : State) :
    showStop reason s = enterStopped reason (showFade 0 1000 .smooth none (showCleared s)) := rfl

theorem showStop_shc (reason : StopReason) (s : State) : (showStop reason s).shc =
    { s.shc with
      state := .stopped, stopReason := some reason, parts := .empty, cut := none, cues := [], hold := none
      held := none, register := .empty, returning := false, issued := (discardShowMoves s).shc.issued } := by
  obtain ⟨-, hissued⟩ := discardShowMoves_moves s
  simp only [showStop_eq, enterStopped_shc, showFade_frame, showCleared, State.updShc_shc]
  rw [hissued]

theorem showStop_moves (reason : StopReason) (s : State) : showMovesDiscarded s (showStop reason s) := by
  obtain ⟨hmoves, -⟩ := discardShowMoves_moves s
  unfold showMovesDiscarded at hmoves ⊢
  rw [showStop_shc]
  simpa [showStop_eq, showCleared] using hmoves

theorem showStop_tape (reason : StopReason) (s : State) : (showStop reason s).tac.state = .stopped ∧
    (showStop reason s).cdec.gateOpen = if s.tac.state = .play then false else s.cdec.gateOpen := by
  have h := enterStopped_tape reason (showFade 0 1000 .smooth none (showCleared s))
  simpa [showStop_eq, showCleared] using h

theorem showStop_light (reason : StopReason) (s : State) :
    (showStop reason s).fe.fade = some ⟨s.fe.level, 0, 50, 0, .smooth, .theShow, none⟩ ∧
      (showStop reason s).retained.user =
        if s.fe.fade.isSome then s.fe.pendingUser.getD s.retained.user else s.retained.user := by
  have h := showFade_light 0 1000 .smooth none (showCleared s)
  simpa [showStop_eq, showCleared] using h

/-! ## A raised fault (R144) -/

/-- A show that is STOPPED or HELD heeds no fault, and none heeds a NOTE or a DEGRADE (R144). -/
theorem raiseAs_unheeded {s : State} {severity : Severity} (code : FaultCode) (detail : Detail)
    (h : s.shc.state = .stopped ∨ s.shc.state = .held ∨ severity = .note ∨ severity = .degrade) :
    raiseAs code severity detail s = recordFault code severity detail s := by
  rcases h with hstopped | hheld | hmild
  · exact raiseAs_of_stopped hstopped _ _ _
  · simp [raiseAs, showReact, hheld, ShowState.heedsFaults]
  · exact raiseAs_mild _ _ _ hmild

theorem heedsFaults_iff (st : ShowState) : st.heedsFaults = true ↔ st ≠ .stopped ∧ st ≠ .held := by
  cases st <;> decide

/-- A HOLD and a HALT hold the show (R144). -/
theorem showReact_holds {s : State} {severity : Severity} (code : FaultCode) (hstopped : s.shc.state ≠ .stopped)
    (hheld : s.shc.state ≠ .held) (h : severity = .hold ∨ severity = .halt) :
    showReact code severity s = enterHeld code (decide (severity = .hold)) s := by
  unfold showReact
  rw [if_pos ((heedsFaults_iff _).2 ⟨hstopped, hheld⟩)]
  rcases h with rfl | rfl <;> rfl

/-- A SHUTDOWN stops the show (R144). -/
theorem showReact_stops {s : State} (code : FaultCode) (hstopped : s.shc.state ≠ .stopped)
    (hheld : s.shc.state ≠ .held) : showReact code .shutdown s = showStop .shutdown s := by
  unfold showReact
  rw [if_pos ((heedsFaults_iff _).2 ⟨hstopped, hheld⟩)]

theorem resumeAs_eq (st : ShowState) : st.resumeAs = if st = .excursion then .running else st := by
  cases st <;> rfl

/-- The show's reaction leaves the fault records as the raising made them (R144, R186 to R189). -/
theorem only_showReact (code : FaultCode) (severity : Severity) (s : State) :
    onlyChanges (.shc :: .mq :: .tgc :: .fe :: .user :: .tac :: .cdec :: reports) s (showReact code severity s) := by
  unfold showReact
  split
  · split
    · exact .refl s
    · exact .refl s
    · exact only_enterHeld (.refl s) code true
    · exact only_enterHeld (.refl s) code false
    · exact .showStop (.refl s) _
  · exact .refl s

/-- Settles O39: a show stop part by part, and a raising by whether the show heeds it and by its severity. -/
theorem stopsAndSeveritiesMoveTheShow : Obligations.StopsAndSeveritiesMoveTheShow := by
  unfold Obligations.StopsAndSeveritiesMoveTheShow
  refine ⟨fun s ht hstate => ?_, fun s ht hstate => ?_, fun code severity detail s => ⟨fun hnone => ?_,
    fun hstopped hheld hhold => ?_, fun hstopped hheld hshut => ?_, ?_⟩⟩
  case refine_1 =>
    have hreq : reqShowStop s = (showStop .host s, okWith .nothing) := if_neg hstate
    have hstop : onlyChanges (.shc :: .mq :: .tgc :: .fe :: .user :: .tac :: .cdec :: reports) s (showStop .host s) :=
      .showStop (.refl s) _
    obtain ⟨hexec, hanswer, htgc, honly⟩ := requestDone_of_act (i := .showStop) ht rfl hreq hstop (by simp) (by simp)
    obtain ⟨hfade, huser⟩ := showStop_light .host s
    obtain ⟨htape, hgate⟩ := showStop_tape .host s
    refine ⟨_, hexec, ?_, ?_, ?_, ?_, ?_, ?_, ?_, ?_, ?_, ?_, ?_, hfade, ?_, huser, htape, hgate, hanswer, honly⟩
    case refine_11 =>
      have hmoves := showStop_moves .host s
      unfold showMovesDiscarded at hmoves ⊢
      rwa [htgc]
    all_goals simp [showStop_shc]
  case refine_2 => exact answers_only (act := reqShowStop) ht rfl (if_pos hstate)
  case refine_3 =>
    rw [raiseAs_unheeded code detail hnone]
    simp
  case refine_4 =>
    rw [raiseAs, showReact_holds code (by simpa using hstopped) (by simpa using hheld) hhold]
    simp [enterHeld_shc, enterHeld_tac, resumeAs_eq]
  case refine_5 =>
    subst hshut
    rw [raiseAs, showReact_stops code (by simpa using hstopped) (by simpa using hheld)]
    obtain ⟨htape, -⟩ := showStop_tape .shutdown (recordFault code .shutdown detail s)
    refine ⟨by simp [showStop_shc], by simp [showStop_shc], by simp [showStop_shc], ?_, htape⟩
    simpa [showMovesDiscarded] using showStop_moves .shutdown (recordFault code .shutdown detail s)
  case refine_6 => exact (raised.recordFault_same s).of_only (only_showReact code severity _)

end Sys2Proof.Proofs
end

section
/-! PROOFS. What a lamp's change of state comes to: a lamp that is struck, and one that is put out (R57, R59, R72, R75,
R103). -/

namespace Sys2Proof.Proofs

open Sys2Proof.Machine Sys2Proof.Safety

/-- The LTC's record in PREHEAT; strike to follow is clear (R75, log 42). -/
def Ltc.preheating (t : Ltc) : Ltc := { t with strike := { t.strike with phase := .preheat, follow := false } }

@[simp] theorem preheating_phase (t : Ltc) : (Ltc.preheating t).strike.phase = .preheat := rfl

/-- From `s` to `t` the lamp `l` is struck: PREHEAT with KEEPWARM_DRIVE on the output, no light and no cool-down
(R75, R103). -/
structure Struck (l : Lamp) (s t : State) : Prop where
  record : t.lampRecord l = { s.lampRecord l with state := .striking }
  other : t.lampRecord (otherLamp l) = s.lampRecord (otherLamp l)
  ltc : t.ltc = { Ltc.preheating s.ltc with watch := none }
  dimmer : t.fe.dimmer = s.retained.params.keepwarmDrive
  applied : t.fe.applied = 0
  cooldown : t.thu.cooldown = none

/-- From `s` to `t` the lamp `l` is put out, in its new state: no light, nothing to watch, and a cool-down from 0 (R57,
R80, R103). -/
structure PutOut (l : Lamp) (new : LampState) (s t : State) : Prop where
  record : t.lampRecord l = { s.lampRecord l with state := new }
  other : t.lampRecord (otherLamp l) = s.lampRecord (otherLamp l)
  ltc : t.ltc = { s.ltc with watch := none }
  applied : t.fe.applied = 0
  drive : t.fe.drive = 0
  cooldown : t.thu.cooldown = some 0

end Sys2Proof.Proofs
end

section
/-! PROOFS. Frames of the lamps, the turret and the cool-down: what an operation of theirs may change (R59, R72, R75,
R80, R103). -/

namespace Sys2Proof.Safety.onlyChanges

open Sys2Proof.Machine

variable {l : List Area} {s t u : State}

/-! ## Updates -/

/-- The sequence, the turret or the lit time; the burn-out watch stays. -/
theorem updLtc (h : onlyChanges l s t) {f : Ltc → Ltc} (hf : (f t.ltc).watch = t.ltc.watch)
    (hl : .ltc ∈ l := by decide) : onlyChanges l s (t.updLtc f) :=
  h.trans (single (a := .ltc) (fun p hp => by cases p <;> simp_all [Area.same]) hl)

/-- The burn-out watch alone. -/
theorem updWatch (h : onlyChanges l s t) (w : Option Watch) (hl : .watch ∈ l := by decide) :
    onlyChanges l s (t.updLtc fun c => { c with watch := w }) :=
  h.trans (single (a := .watch) (fun p hp => by cases p <;> simp_all [Area.same]) hl)

/-- The dimmer output alone. -/
theorem updDimmer (h : onlyChanges l s t) (n : Nat) (hl : .dimmer ∈ l := by decide) :
    onlyChanges l s (t.updFe fun f => { f with dimmer := n }) :=
  h.trans (single (a := .dimmer) (fun p hp => by cases p <;> simp_all [Area.same]) hl)

theorem updThu (h : onlyChanges l s t) (f : Thu → Thu) (hl : .thu ∈ l := by decide) : onlyChanges l s (t.updThu f) :=
  h.trans (single (a := .thu) (fun p hp => by cases p <;> simp_all [Area.same]) hl)

theorem updLamp (h : onlyChanges l s t) (lamp : Lamp) (f : LampRecord → LampRecord)
    (hl : ∀ p ∈ [Area.lampA, .lampB], p ∈ l := by decide) : onlyChanges l s (t.updLamp lamp f) :=
  h.trans (mono (m := [.lampA, .lampB])
    (fun p hp => by cases p <;> cases lamp <;> simp_all [Area.same, State.updLamp]) hl)

/-! ## The light and the lamps -/

theorem syncDimmer (h : onlyChanges l s t) (hl : ∀ p ∈ [Area.dimmer, .watch], p ∈ l := by decide) :
    onlyChanges l s (syncDimmer t) :=
  (h.updDimmer _ (hl _ (by decide))).updWatch _ (hl _ (by decide))

theorem runStages (h : onlyChanges l s t) (hl : ∀ p ∈ [Area.fe, .dimmer, .watch], p ∈ l := by decide) :
    onlyChanges l s (runStages t) := by
  refine syncDimmer (h.updFe ?_ (hl _ (by decide))) fun p hp => hl p (by simp at hp ⊢; tauto)
  unfold Fe.stages
  dsimp only
  repeat' split
  all_goals rfl

theorem tellThermal (h : onlyChanges l s t) (old new : LampState) (hl : .thu ∈ l := by decide) :
    onlyChanges l s (tellThermal old new t) := by
  unfold Machine.tellThermal
  split
  · exact (h.updThu _ hl).updThu _ hl
  · split
    · exact (h.updThu _ hl).updThu _ hl
    · exact h.updThu _ hl

theorem setLampState (h : onlyChanges l s t) (lamp : Lamp) (new : LampState)
    (hl : ∀ p ∈ [Area.lampA, .lampB, .fe, .dimmer, .watch], p ∈ l := by decide) :
    onlyChanges l s (setLampState lamp new t) :=
  (h.updLamp lamp _ fun p hp => hl p (by simp at hp ⊢; tauto)).runStages fun p hp => hl p (by simp at hp ⊢; tauto)

theorem tellLamp (h : onlyChanges l s t) (lamp : Lamp) (new old : LampState) (cause : LampCause)
    (hl : ∀ p ∈ Area.thu :: reports, p ∈ l := by decide) : onlyChanges l s (tellLamp lamp new old cause t) :=
  (h.raiseEvent _ fun p hp => hl p (by simp [hp])).tellThermal _ _ (hl _ (by decide))

/-- What a change of a lamp's state may change, with its light, its cool-down and its notices (R59, R72, R103). -/
theorem changeLamp (h : onlyChanges l s t) (lamp : Lamp) (new : LampState) (cause : LampCause)
    (hl : ∀ p ∈ Area.lampA :: .lampB :: .fe :: .dimmer :: .watch :: .thu :: reports, p ∈ l := by decide) :
    onlyChanges l s (changeLamp lamp new cause t) :=
  (h.setLampState lamp new fun p hp => hl p (by simp at hp ⊢; tauto)).tellLamp _ _ _ _
    fun p hp => hl p (by simp at hp ⊢; tauto)

end Sys2Proof.Safety.onlyChanges
end

section
/-! PROOFS. The rules of the lamps, the light that follows them and the strike sequence: which lamp burns, what a change
of a lamp's state makes of the light and of the cool-down, where a turret move takes the sequence (R57, R59, R70 to R72,
R75, R80, R97, R103). -/

namespace Sys2Proof.Proofs

open Sys2Proof.Machine Sys2Proof.Safety

/-! ## The end of a step that leaves the gate -/

@[simp] theorem settle_lampRecord (s : State) : (settle s).lampRecord = s.lampRecord := rfl

@[simp] theorem requestDone_blocks (i : Instr) (r : State × Response) :
    (requestDone i r).ltc = r.1.ltc ∧ (requestDone i r).thu = r.1.thu ∧ (requestDone i r).flt = r.1.flt :=
  ⟨rfl, rfl, rfl⟩

/-- With the gate as it was the end of the step adds no change (R5, log 5). -/
theorem only_settled {l : List Area} {s u : State} (hs : runs s) (h : onlyChanges l s u) (htgc : u.tgc = s.tgc)
    (hshutter : .shutter ∉ l := by decide) (hpower : .power ∉ l := by decide)
    (hlink : .linkOut ∈ l ∨ .linkIn ∉ l ∧ .linkErrors ∉ l := by decide) : onlyChanges l s (settle u) :=
  (settle_same hs.2 h (by rw [htgc]) (by rw [htgc]) hshutter hpower hlink).2

/-! ## Which lamp burns -/

section

variable {s t : State} {l : Lamp}

/-- The records of the lamps stand in the retained section, and there alone. -/
theorem lampRecord_of_retained (h : t.retained = s.retained) : t.lampRecord = s.lampRecord := by
  funext l
  cases l <;> simp only [State.lampRecord, h]

theorem recordFault_lampRecord (c : FaultCode) (sv : Severity) (d : Detail) (s : State) :
    (recordFault c sv d s).lampRecord = s.lampRecord := lampRecord_of_retained (by simp)

theorem eq_or_eq_other (l m : Lamp) : m = l ∨ m = otherLamp l := by
  cases l <;> cases m <;> simp [otherLamp]

@[simp] theorem litLamp_updFe (f : Fe → Fe) : (s.updFe f).litLamp = s.litLamp := rfl

theorem litLamp_none_iff : s.litLamp = none ↔ ∀ l, (s.lampRecord l).state ≠ .lit := by
  unfold State.litLamp
  constructor
  · intro h
    split_ifs at h with ha hb
    intro l
    cases l
    · exact ha
    · exact hb
  · intro h
    exact (if_neg (h .a)).trans (if_neg (h .b))

theorem litLamp_none_of (l : Lamp) (h : (s.lampRecord l).state ≠ .lit)
    (hother : (s.lampRecord (otherLamp l)).state ≠ .lit) : s.litLamp = none := by
  refine litLamp_none_iff.2 fun m => ?_
  rcases eq_or_eq_other l m with rfl | rfl
  · exact h
  · exact hother

theorem litLamp_of_lit (h : (s.lampRecord l).state = .lit) (hother : (s.lampRecord (otherLamp l)).state ≠ .lit) :
    s.litLamp = some l := by
  cases l <;> simp_all [State.litLamp, State.lampRecord, otherLamp]

theorem lit_of_litLamp (h : s.litLamp = some l) : (s.lampRecord l).state = .lit := by
  unfold State.litLamp at h
  split at h
  · cases h
    assumption
  · split at h
    · cases h
      assumption
    · cases h

theorem strikingLamp_none (h : s.strikingLamp = none) (l : Lamp) : (s.lampRecord l).state ≠ .striking := by
  unfold State.strikingLamp at h
  split_ifs at h with ha hb
  cases l
  · exact ha
  · exact hb

end

/-! ## The light that follows the lamps (R57, R59) -/

theorem runStages_ltc (s : State) : (runStages s).ltc = { s.ltc with watch := (runStages s).ltc.watch } := rfl

/-- The stages leave the intended level and the fade. -/
theorem runStages_level (s : State) :
    (runStages s).fe.level = s.fe.level ∧ (runStages s).fe.fade = s.fe.fade := by
  simp only [runStages, syncDimmer, State.updLtc_fe, State.updFe_fe, Fe.stages]
  repeat' split
  all_goals exact ⟨rfl, rfl⟩

/-- With no lamp LIT there is neither light nor a burn-out to watch for (R57, R80). -/
theorem runStages_dark {s : State} (h : s.litLamp = none) :
    (runStages s).fe.applied = 0 ∧ (runStages s).fe.drive = 0 ∧ (runStages s).ltc.watch = none := by
  simp [runStages, syncDimmer, Fe.stages, h]

/-- Outside a strike the dimmer output carries the light's own drive (R59). -/
theorem runStages_dimmer_idle {s : State} (h : s.ltc.strike.phase = .idle) :
    (runStages s).fe.dimmer = (runStages s).fe.drive := by
  simp [runStages, syncDimmer, State.dimmerDrive, h]

/-- In PREHEAT the output carries KEEPWARM_DRIVE (R75). -/
theorem runStages_dimmer_preheat {s : State} (h : s.ltc.strike.phase = .preheat) :
    (runStages s).fe.dimmer = s.retained.params.keepwarmDrive := by
  simp [runStages, syncDimmer, State.dimmerDrive, h]

/-! ## A change of a lamp's state (R72, R97, R103) -/

section

variable (l : Lamp) (new old : LampState) (cause : LampCause) (s : State)

@[simp] theorem setLampState_lampRecord :
    (setLampState l new s).lampRecord l = { s.lampRecord l with state := new } ∧
      (setLampState l new s).lampRecord (otherLamp l) = s.lampRecord (otherLamp l) := by
  rw [lampRecord_of_retained (s := s.updLamp l fun r => { r with state := new })
    (t := setLampState l new s) (by simp [setLampState])]
  simp

/-- The sequence and the turret stay, and so do the intended level and the fade. -/
theorem setLampState_keeps :
    (setLampState l new s).ltc = { s.ltc with watch := (setLampState l new s).ltc.watch } ∧
      (setLampState l new s).fe.level = s.fe.level ∧ (setLampState l new s).fe.fade = s.fe.fade := by
  obtain ⟨hlevel, hfade⟩ := runStages_level (s.updLamp l fun r => { r with state := new })
  have hltc := runStages_ltc (s.updLamp l fun r => { r with state := new })
  simp only [updLamp_frame] at hlevel hfade hltc
  exact ⟨hltc, hlevel, hfade⟩

/-- A lamp that is not LIT any more, or not yet, gives no light (R57). -/
theorem setLampState_dark (hnew : new ≠ .lit) (hother : (s.lampRecord (otherLamp l)).state ≠ .lit) :
    (setLampState l new s).fe.applied = 0 ∧ (setLampState l new s).fe.drive = 0 ∧
      (setLampState l new s).ltc = { s.ltc with watch := none } := by
  have hdark : (s.updLamp l fun r => { r with state := new }).litLamp = none :=
    litLamp_none_of l (by simpa using hnew) (by simpa using hother)
  obtain ⟨happlied, hdrive, hwatch⟩ := runStages_dark hdark
  obtain ⟨hltc, -⟩ := setLampState_keeps l new s
  have hwatch' : (setLampState l new s).ltc.watch = none := hwatch
  exact ⟨happlied, hdrive, by rw [hltc, hwatch']⟩

/-- A lamp that is struck ends the cool-down (R103). -/
theorem tellLamp_struck : (tellLamp l .striking old cause s).thu.cooldown = none := by
  simp [tellLamp, tellThermal, setCooldown, syncFan, setFan]

/-- A lamp that burned or was being struck and is put out starts a cool-down (R103). -/
theorem tellLamp_out {new old : LampState} (hold : old = .lit ∨ old = .striking) (hnew : new = .ready ∨ new = .failed) :
    (tellLamp l new old cause s).thu.cooldown = some 0 := by
  have hcool : old = .lit ∨ (old = .striking ∧ new ≠ .lit) :=
    hold.imp_right fun h => ⟨h, by rcases hnew with rfl | rfl <;> decide⟩
  have hstrike : new ≠ .striking := by rcases hnew with rfl | rfl <;> decide
  simp [tellLamp, tellThermal, hstrike, hcool, setCooldown, syncFan, setFan]

theorem setFan_bars (command : Nat) {s : State} (h : s.thu.bars = false) : (setFan command s).thu.bars = false := by
  have hfollow : FanMonitor.follow command s.thu.monitor = .stalled → s.thu.monitor = .stalled := by
    unfold FanMonitor.follow
    cases s.thu.monitor <;> split <;> simp
  simp only [Thu.bars, Bool.or_eq_false_iff, beq_eq_false_iff_ne] at h ⊢
  obtain ⟨hband, hmonitor⟩ := h
  exact ⟨hband, fun hstall => hmonitor (hfollow hstall)⟩

/-- The notice of a lamp bars no strike: a fan that did not stall goes on turning (R97, R101). -/
theorem tellLamp_bars {s : State} (h : s.thu.bars = false) : (tellLamp l new old cause s).thu.bars = false := by
  unfold tellLamp tellThermal
  split
  · exact setFan_bars _ (by simpa [Thu.bars] using h)
  · split
    · exact setFan_bars _ (by simpa [Thu.bars] using h)
    · exact setFan_bars _ (by simpa using h)

@[simp] theorem changeLamp_lampRecord :
    (changeLamp l new cause s).lampRecord l = { s.lampRecord l with state := new } ∧
      (changeLamp l new cause s).lampRecord (otherLamp l) = s.lampRecord (otherLamp l) := by
  rw [lampRecord_of_retained (s := setLampState l new s) (t := changeLamp l new cause s) (by simp [changeLamp])]
  simp

/-- The notices of a change come after its light (R59, R72). -/
theorem changeLamp_light : (changeLamp l new cause s).fe = (setLampState l new s).fe ∧
    (changeLamp l new cause s).ltc = (setLampState l new s).ltc := by
  simp [changeLamp]

/-- A lamp that burned or was being struck is put out; what comes between its light and its notices leaves both as they
are (R57, R72, R103). -/
theorem putOut_tellLamp {s t : State} {l : Lamp} {new old : LampState}
    (hretained : t.retained = (setLampState l new s).retained) (hfe : t.fe = (setLampState l new s).fe)
    (hltc : t.ltc = (setLampState l new s).ltc) (hold : old = .lit ∨ old = .striking)
    (hnew : new = .ready ∨ new = .failed) (hother : (s.lampRecord (otherLamp l)).state ≠ .lit) :
    PutOut l new s (tellLamp l new old cause t) := by
  obtain ⟨happlied, hdrive, hdark⟩ := setLampState_dark l new s (by rcases hnew with rfl | rfl <;> decide) hother
  obtain ⟨hrecord, hrecord'⟩ := setLampState_lampRecord l new s
  have hrecords : (tellLamp l new old cause t).lampRecord = (setLampState l new s).lampRecord :=
    lampRecord_of_retained (by simp [hretained])
  exact {
    record := by rw [hrecords, hrecord]
    other := by rw [hrecords, hrecord']
    ltc := by simp [hltc, hdark]
    applied := by simp [hfe, happlied]
    drive := by simp [hfe, hdrive]
    cooldown := tellLamp_out l cause t hold hnew }

theorem changeLamp_putOut {s : State} {l : Lamp} {new : LampState}
    (hold : (s.lampRecord l).state = .lit ∨ (s.lampRecord l).state = .striking) (hnew : new = .ready ∨ new = .failed)
    (hother : (s.lampRecord (otherLamp l)).state ≠ .lit) : PutOut l new s (changeLamp l new cause s) :=
  putOut_tellLamp cause rfl rfl rfl hold hnew hother

/-- Outside a strike a lamp that is put out leaves the dimmer output at 0 (R59). -/
theorem changeLamp_dimmer {s : State} {l : Lamp} {new : LampState} (hphase : s.ltc.strike.phase = .idle)
    (h : PutOut l new s (changeLamp l new cause s)) : (changeLamp l new cause s).fe.dimmer = 0 := by
  have hdimmer : (setLampState l new s).fe.dimmer = (setLampState l new s).fe.drive :=
    runStages_dimmer_idle (by simpa using hphase)
  obtain ⟨hfe, -⟩ := changeLamp_light l new cause s
  rw [hfe, hdimmer, ← hfe, h.drive]

end

/-! ## The strike sequence and the turret (R70, R75, R78) -/

section

variable {s : State} {l : Lamp}

theorem startPreheat_again (h : (s.lampRecord s.ltc.strike.lamp).state = .striking) :
    startPreheat s = syncDimmer (s.updLtc Ltc.preheating) := if_pos h

theorem startPreheat_first (hl : s.ltc.strike.lamp = l) (h : (s.lampRecord l).state ≠ .striking) :
    startPreheat s = changeLamp l .striking .strike (s.updLtc Ltc.preheating) := by
  subst hl
  exact if_neg h

theorem startPreheat_strikes (hl : s.ltc.strike.lamp = l) (hstriking : (s.lampRecord l).state ≠ .striking)
    (hother : (s.lampRecord (otherLamp l)).state ≠ .lit) : Struck l s (startPreheat s) := by
  rw [startPreheat_first hl hstriking]
  obtain ⟨hrecord, hrecord'⟩ := changeLamp_lampRecord l .striking .strike (s.updLtc Ltc.preheating)
  obtain ⟨hfe, hltc⟩ := changeLamp_light l .striking .strike (s.updLtc Ltc.preheating)
  obtain ⟨happlied, -, hdark⟩ := setLampState_dark l .striking (s.updLtc Ltc.preheating) (by decide) hother
  have hdimmer : (setLampState l .striking (s.updLtc Ltc.preheating)).fe.dimmer = s.retained.params.keepwarmDrive :=
    (runStages_dimmer_preheat (by simp)).trans (by simp)
  exact {
    record := hrecord
    other := hrecord'
    ltc := hltc.trans hdark
    dimmer := by rw [hfe, hdimmer]
    applied := by rw [hfe, happlied]
    cooldown := tellLamp_struck l _ _ _ }

theorem only_startPreheat (s : State) :
    onlyChanges (.lampA :: .lampB :: .ltc :: .watch :: .fe :: .dimmer :: .thu :: reports) s (startPreheat s) := by
  have hpreheat : onlyChanges (.lampA :: .lampB :: .ltc :: .watch :: .fe :: .dimmer :: .thu :: reports) s
      (s.updLtc Ltc.preheating) := (onlyChanges.refl s).updLtc rfl
  unfold startPreheat
  dsimp only
  split
  · exact hpreheat.syncDimmer
  · exact hpreheat.changeLamp _ _ _

/-- The LTC's record while the turret turns to a lamp for the sequence (R70). -/
def Ltc.turning (l : Lamp) (follow : Bool) (t : Ltc) : Ltc :=
  { t with position := .moving, target := some l
           strike := { t.strike with phase := .turning, lamp := l, follow := follow } }

/-- Away from the sensor of its target the turret turns (R70). -/
theorem turnTurret_away (h : s.pins.turret l = false) (follow : Bool) :
    turnTurret l follow s = s.updLtc (Ltc.turning l follow) :=
  if_neg (by simp [h])

/-- The sensor of its target active already: the move ends at once and the strike follows (R70). -/
theorem turnTurret_there (h : s.pins.turret l = true) : turnTurret l true s =
    startPreheat (s.updLtc fun t => { t with
      position := .facing l, target := none
      strike := { t.strike with phase := .turning, lamp := l, follow := true } }) := by
  simp [turnTurret, turretArrived, h, State.updLtc]

/-- The part while the turret turns to the lamp of a changeover (R78). -/
def changingOver (l : Lamp) (follow : Bool) (s : State) : State :=
  (joinOrigin .changeover s).updLtc (Ltc.turning l follow)

@[simp] theorem changingOver_frame (l : Lamp) (follow : Bool) (s : State) :
    (changingOver l follow s).lampRecord = s.lampRecord ∧ (changingOver l follow s).fe = s.fe ∧
      (changingOver l follow s).thu = s.thu ∧ (changingOver l follow s).flt = s.flt ∧
      (changingOver l follow s).tgc = s.tgc := ⟨rfl, rfl, rfl, rfl, rfl⟩

theorem only_changingOver {m : List Area} {u : State} (h : onlyChanges m s u) (l : Lamp) (follow : Bool)
    (hl : .ltc ∈ m := by decide) : onlyChanges m s (changingOver l follow u) := (h.updLtc rfl hl).updLtc rfl hl

/-- A changeover to a lamp that is not FAILED turns the turret to it (R78). -/
theorem changeover_turns (hother : (s.lampRecord (otherLamp l)).state ≠ .failed)
    (hturret : s.pins.turret (otherLamp l) = false) : changeover l s =
      changingOver (otherLamp l) (!(s.thu.bars || s.power.mode == .windingDown)) s := by
  unfold changeover
  rw [if_neg hother]
  exact turnTurret_away (s := joinOrigin .changeover s) (by simpa using hturret) _

end

end Sys2Proof.Proofs
end

section
/-! PROOFS. The lit time and the wear of the LIT lamp (R85 to R87). -/

namespace Sys2Proof.Proofs

open Sys2Proof.Machine Sys2Proof.Safety

theorem exec_litTimeExpiry {s : State} (hs : runs s) (ht : s.ltc.timer = true) :
    exec .litTimeExpiry s = .next (settle (litTime s)) := by
  rw [← show (if s.ltc.timer then litTime s else s) = litTime s from if_pos ht]
  exact congrArg _ (whenRunning_of hs.1 _)

section

variable {s : State} {l : Lamp}

theorem litTime_of_dark (h : s.litLamp = none) : litTime s = s := by simp [litTime, h]

/-- Within a second the expiries are counted (R85). -/
theorem litTime_counts (hlit : s.litLamp = some l) (hsub : s.ltc.sub < 49) :
    litTime s = s.updLtc fun t => { t with sub := t.sub + 1 } := by
  simp [litTime, hlit, hsub]

/-- The fiftieth expiry makes a second (R85). -/
theorem litTime_second (hlit : s.litLamp = some l) (hsub : 49 ≤ s.ltc.sub) :
    litTime s = secondOfLight l (s.updLtc fun t => { t with sub := 0 }) := by
  have hfull : ¬ s.ltc.sub + 1 < 50 := by omega
  simp only [litTime, hlit, if_neg hfull]

/-- The wear of a second by the bands of R86. -/
theorem wearAt_of_band {applied add : Nat} (hdark : applied = 0 → add = 1)
    (hlow : 1 ≤ applied → applied ≤ 499 → add = 2) (hmiddle : 500 ≤ applied → applied ≤ 799 → add = 3)
    (hhigh : 800 ≤ applied → add = 4) : wearAt applied = add := by
  unfold wearAt
  split_ifs with h0 h500 h800
  · exact (hdark h0).symm
  · exact (hlow (by omega) (by omega)).symm
  · exact (hmiddle (by omega) (by omega)).symm
  · exact (hhigh (by omega)).symm

end

/-- A lamp's record with the wear of a second at an applied level, within the counter's range (R86). -/
def worn (applied : Nat) (r : LampRecord) : LampRecord := { r with wear := min (r.wear + wearAt applied) 4294967295 }

theorem worn_wear (applied : Nat) (r : LampRecord) :
    (worn applied r).wear = min (r.wear + wearAt applied) 4294967295 := rfl

/-- A lamp past its threshold that is not due yet (R87). -/
abbrev pastThreshold (r : LampRecord) : Prop := r.due = false ∧ r.life * 14400 ≤ r.wear

/-- The lamps and the lit time after a second boundary, before a lamp is found due (R85, R86). -/
def secondWorn (l : Lamp) (s : State) : State :=
  (s.updLtc fun t => { t with sub := 0 }).updLamp l (worn s.fe.applied)

section

variable {s : State} {l : Lamp}

theorem only_secondWorn : onlyChanges [.lampA, .lampB, .ltc] s (secondWorn l s) :=
  ((onlyChanges.refl s).updLtc rfl).updLamp l _

theorem secondWorn_frame : (secondWorn l s).ltc = { s.ltc with sub := 0 } ∧ (secondWorn l s).tgc = s.tgc := ⟨rfl, rfl⟩

theorem secondWorn_lampRecord : (secondWorn l s).lampRecord l = worn s.fe.applied (s.lampRecord l) ∧
    (secondWorn l s).lampRecord (otherLamp l) = s.lampRecord (otherLamp l) :=
  updLamp_lampRecord (s.updLtc fun t => { t with sub := 0 }) l _

/-- A second boundary: wear, and L5 where the lamp is past its threshold (R86, R87). -/
theorem secondOfLight_eq : secondOfLight l (s.updLtc fun t => { t with sub := 0 }) =
    if pastThreshold (worn s.fe.applied (s.lampRecord l)) then
      recordFault .lampDue .note (.ofLamp l) ((secondWorn l s).updLamp l fun r => { r with due := true })
    else secondWorn l s := by
  obtain ⟨hrecord, -⟩ := secondWorn_lampRecord (s := s) (l := l)
  rw [← raiseFault_note rfl, ← hrecord]
  rfl

end

/-- Settles O30: an expiry counts, and the fiftieth wears the LIT lamp, which is due once past its threshold. -/
theorem wearGrowsBySeconds : Obligations.WearGrowsBySeconds := by
  unfold Obligations.WearGrowsBySeconds
  refine ⟨fun s hs hlit => ?_, fun s l hs ht hlit hsub => ?_,
    fun s l add hs ht hlit hsub hdark hlow hmiddle hhigh => ?_⟩
  case refine_1 =>
    have hidle : exec .litTimeExpiry s = .next (settle (if s.ltc.timer then litTime s else s)) :=
      congrArg _ (whenRunning_of hs.1 _)
    rw [hidle, litTime_of_dark hlit, ite_self, hs.2]
  case refine_2 =>
    have hcount : onlyChanges [.ltc] s (s.updLtc fun t => { t with sub := t.sub + 1 }) :=
      (onlyChanges.refl s).updLtc rfl
    refine ⟨_, exec_litTimeExpiry hs ht, ?_⟩
    rw [litTime_counts hlit hsub]
    exact ⟨rfl, only_settled hs hcount rfl⟩
  case refine_3 =>
    have hexec := exec_litTimeExpiry hs ht
    obtain ⟨hrecord, hother⟩ := secondWorn_lampRecord (s := s) (l := l)
    have hworn := only_secondWorn (s := s) (l := l)
    obtain ⟨hltc, htgc⟩ := secondWorn_frame (s := s) (l := l)
    have hlamp := lit_of_litLamp hlit
    have hwear : (worn s.fe.applied (s.lampRecord l)).wear = min ((s.lampRecord l).wear + add) 4294967295 := by
      rw [← wearAt_of_band hdark hlow hmiddle hhigh, worn_wear]
    rw [litTime_second hlit hsub, secondOfLight_eq] at hexec
    by_cases hpast : pastThreshold (worn s.fe.applied (s.lampRecord l))
    · rw [if_pos hpast] at hexec
      obtain ⟨hrecord', hother'⟩ := updLamp_lampRecord (secondWorn l s) l fun r => { r with due := true }
      have hdue : onlyChanges [.lampA, .lampB, .ltc] s ((secondWorn l s).updLamp l fun r => { r with due := true }) :=
        hworn.updLamp l _
      refine ⟨_, hexec, by simp [hltc], ?_⟩
      rw [settle_lampRecord, recordFault_lampRecord, hrecord', hother', hrecord, hother]
      refine ⟨hwear, hlamp, rfl, fun _ _ => ⟨rfl, (raised.recordFault_of_only hdue).settle⟩,
        fun hnot => ?_, only_settled hs (hdue.mono.recordFault _ _ _) (by simp [htgc])⟩
      rcases hnot with hnot | hnot
      · exact absurd (hnot.symm.trans hpast.1) (by decide)
      · exact absurd hpast.2 (not_le.2 hnot)
    · rw [if_neg hpast] at hexec
      have honly := only_settled hs hworn htgc
      refine ⟨_, hexec, hltc, ?_⟩
      rw [settle_lampRecord, hrecord, hother]
      exact ⟨hwear, hlamp, rfl, fun hdue hlife => absurd ⟨hdue, hlife⟩ hpast, fun _ => ⟨rfl, honly⟩,
        honly.mono⟩

end Sys2Proof.Proofs
end

section
/-! PROOFS. LAMP_OFF and SET_LAMP_RECORD (R71, R72, R79, R81, R84, R103). -/

namespace Sys2Proof.Proofs

open Sys2Proof.Machine Sys2Proof.Safety

section

variable {s : State} {l : Lamp}

/-! ## LAMP_OFF by what burns (R81) -/

theorem reqLampOff_of_lit (h : s.litLamp = some l) :
    reqLampOff s = (changeLamp l .ready .lampOff s, okWith (.lampOff .turnedOff)) := by
  simp [reqLampOff, lampOff, h]

theorem reqLampOff_of_idle (hlit : s.litLamp = none) (h : s.ltc.strike.phase = .idle) :
    reqLampOff s = (s, okWith (.lampOff .nothing)) := by
  simp [reqLampOff, lampOff, hlit, h]

/-- A turn goes on with no strike to follow (R79). -/
theorem reqLampOff_of_turning (hlit : s.litLamp = none) (h : s.ltc.strike.phase = .turning) : reqLampOff s =
    (s.updLtc fun t => { t with strike := { t.strike with follow := false, origins := [] } },
      okWith (.lampOff .aborted)) := by
  simp [reqLampOff, lampOff, abortStrike, hlit, h]

/-- A strike is aborted, and its lamp is READY again (R79). -/
theorem reqLampOff_of_striking (hlit : s.litLamp = none)
    (h : s.ltc.strike.phase = .preheat ∨ s.ltc.strike.phase = .check ∨ s.ltc.strike.phase = .retryWait)
    (hl : s.ltc.strike.lamp = l) :
    reqLampOff s = (changeLamp l .ready .lampOff (endStrike s), okWith (.lampOff .aborted)) := by
  rcases h with h | h | h <;> simp [reqLampOff, lampOff, abortStrike, hlit, h, hl]

/-! ## SET_LAMP_RECORD by its operands and by the lamp's state (R84) -/

variable {lamp wear life : Nat}

theorem lampOperand_of (h : (lamp = 0 ∧ l = .a) ∨ (lamp = 1 ∧ l = .b)) : lampOperand lamp = some l := by
  rcases h with ⟨rfl, rfl⟩ | ⟨rfl, rfl⟩ <;> rfl

/-- A lamp that no number names, or a life out of its range (R84, R203). -/
theorem reqSetLampRecord_of_bad (h : 1 < lamp ∨ life < 10 ∨ 2000 < life) (wear : Nat) :
    reqSetLampRecord lamp wear life s = (s, refuse .badValue) := by
  unfold reqSetLampRecord
  match lamp with
  | 0 | 1 =>
    have hlife : life < 10 ∨ 2000 < life ∨ 4294967295 < wear := by omega
    simp [lampOperand, hlife]
  | n + 2 => rfl

/-- The installed record, before a lamp that was FAILED becomes READY (R84). -/
def recordInstalled (l : Lamp) (wear life : Nat) (s : State) : State := s.updLamp l fun r => newLamp wear life r.state

theorem reqSetLampRecord_of_good (hlamp : lampOperand lamp = some l) (hlow : 10 ≤ life) (hhigh : life ≤ 2000)
    (hwear : wear ≤ 4294967295) : reqSetLampRecord lamp wear life s =
      match (s.lampRecord l).state with
      | .lit | .striking => (s, refuse .wrongState)
      | .ready => (recordInstalled l wear life s, okWith .nothing)
      | .failed => (changeLamp l .ready .record (recordInstalled l wear life s), okWith .nothing) := by
  have hlife : ¬ (life < 10 ∨ 2000 < life ∨ 4294967295 < wear) := by omega
  simp only [reqSetLampRecord, hlamp, if_neg hlife]
  rfl

end

/-- Settles O27: LAMP_OFF by what burns or is being struck, SET_LAMP_RECORD by its operands and the lamp's state. -/
theorem lampOffAndLampRecords : Obligations.LampOffAndLampRecords := by
  unfold Obligations.LampOffAndLampRecords
  refine ⟨fun s l ht hlamp hother hphase => ?_, fun s l ht hphase hl hlamp hlit => ?_, fun s ht hlit hphase => ?_,
    fun s ht hlit hphase => ?_, fun s l lamp wear life ht hl hlow hhigh hwear => ?_,
    fun s lamp wear life ht hbad => ?_⟩
  case refine_1 =>
    have hdark : (s.lampRecord (otherLamp l)).state ≠ .lit := by rcases hother with h | h <;> simp [h]
    have hout : PutOut l .ready s (changeLamp l .ready .lampOff s) :=
      changeLamp_putOut _ (.inl hlamp) (.inl rfl) hdark
    have hchange : onlyChanges (.lampA :: .lampB :: .fe :: .dimmer :: .watch :: .thu :: reports) s
        (changeLamp l .ready .lampOff s) := (onlyChanges.refl s).changeLamp _ _ _
    obtain ⟨hexec, hanswer, -, honly⟩ := requestDone_of_act (i := .lampOff) ht rfl
      (reqLampOff_of_lit (litLamp_of_lit hlamp hdark)) hchange (by simp) (by simp)
    obtain ⟨-, hlevel, hfade⟩ := setLampState_keeps l .ready s
    refine ⟨_, hexec, hout.record, hout.other, hout.applied, hout.drive, changeLamp_dimmer _ hphase hout, ?_, ?_,
      congrArg Ltc.watch hout.ltc, hout.cooldown, by simp, hanswer, honly⟩
    all_goals simpa [changeLamp_light]
  case refine_2 =>
    have hout : PutOut l .ready (endStrike s) (changeLamp l .ready .lampOff (endStrike s)) :=
      changeLamp_putOut _ (.inr hlamp) (.inl rfl) (litLamp_none_iff.1 hlit _)
    have hchange : onlyChanges (.lampA :: .lampB :: .fe :: .dimmer :: .ltc :: .watch :: .thu :: reports) s
        (changeLamp l .ready .lampOff (endStrike s)) := ((onlyChanges.refl s).updLtc rfl).changeLamp _ _ _
    obtain ⟨hexec, hanswer, -, honly⟩ := requestDone_of_act (i := .lampOff) ht rfl
      (reqLampOff_of_striking hlit hphase hl) hchange (by simp) (by simp)
    exact ⟨_, hexec, hout.record, hout.other, congrArg Ltc.strike hout.ltc, changeLamp_dimmer _ rfl hout, hout.cooldown,
      hanswer, honly⟩
  case refine_3 => exact answers_only (act := reqLampOff) ht rfl (reqLampOff_of_idle hlit hphase)
  case refine_4 =>
    have hturns : onlyChanges [.ltc, .linkOut] s
        (s.updLtc fun t => { t with strike := { t.strike with follow := false, origins := [] } }) :=
      (onlyChanges.refl s).updLtc rfl
    obtain ⟨hexec, hanswer, -, honly⟩ := requestDone_of_act (i := .lampOff) ht rfl
      (reqLampOff_of_turning hlit hphase) hturns rfl rfl
    exact ⟨_, hexec, rfl, hanswer, honly⟩
  case refine_5 =>
    have hreq := reqSetLampRecord_of_good (s := s) (lampOperand_of hl) hlow hhigh hwear
    have hnew : onlyChanges [.lampA, .lampB, .linkOut] s (recordInstalled l wear life s) :=
      (onlyChanges.refl s).updLamp l _
    obtain ⟨hrecord, hrecord'⟩ := updLamp_lampRecord s l fun r => newLamp wear life r.state
    cases hstate : (s.lampRecord l).state with
    | ready =>
      rw [hstate] at hreq
      obtain ⟨hexec, hanswer, -, honly⟩ := requestDone_of_act (i := .setLampRecord lamp wear life) ht rfl hreq hnew
        rfl rfl
      refine ⟨_, hexec, fun _ => ⟨hrecord.trans (by rw [hstate]; rfl), hrecord', hanswer⟩, fun _ => honly, ?_, ?_⟩
      all_goals simp
    | failed =>
      rw [hstate] at hreq
      have htgc : (recordInstalled l wear life s).tgc = s.tgc := rfl
      have hout : onlyChanges (.lampA :: .lampB :: .fe :: .dimmer :: .watch :: .thu :: reports) s
          (changeLamp l .ready .record (recordInstalled l wear life s)) :=
        ((onlyChanges.refl s).updLamp l _).changeLamp _ _ _
      obtain ⟨hchanged, hchanged'⟩ := changeLamp_lampRecord l .ready .record (recordInstalled l wear life s)
      obtain ⟨hexec, hanswer, -, honly⟩ := requestDone_of_act (i := .setLampRecord lamp wear life) ht rfl hreq hout
        (by simp [htgc]) (by simp [htgc])
      refine ⟨_, hexec, fun _ => ⟨hchanged.trans ?_, hchanged'.trans hrecord', hanswer⟩, ?_, fun _ => honly, ?_⟩
      · rw [show (recordInstalled l wear life s).lampRecord l = _ from hrecord]
        rfl
      all_goals simp
    | lit | striking =>
      obtain ⟨t, hexec, hanswer, honly⟩ := answers_only (i := .setLampRecord lamp wear life) ht rfl
        (hreq.trans (by rw [hstate]))
      exact ⟨t, hexec, by simp, by simp, by simp, fun _ => ⟨hanswer, honly⟩⟩
  case refine_6 => exact answers_only ht rfl (reqSetLampRecord_of_bad hbad wear)

end Sys2Proof.Proofs
end

section
/-! PROOFS. LAMP_ON: the choice of the lamp, the strike, and what joins or refuses it (R70, R73 to R75, R79, R82,
R97). -/

namespace Sys2Proof.Proofs

open Sys2Proof.Machine Sys2Proof.Safety

section

variable {s : State} {l : Lamp}

/-! ## The lamp of R74's table -/

theorem selectLamp_of_facing (h : s.ltc.position = .facing l) : s.selectLamp =
    if (s.lampRecord l).state = .failed then otherLamp l
    else if (s.lampRecord l).due = true ∧ (s.lampRecord (otherLamp l)).state = .ready ∧
      (s.lampRecord (otherLamp l)).due = false then otherLamp l
    else l := by
  simp only [State.selectLamp, h, TurretPosition.projecting]

/-! ## A strike that begins (R74, R75) -/

/-- The sequence as a request begins it (R73, R74). -/
def strikeOpened (l : Lamp) (o : StrikeOrigin) (s : State) : State :=
  (openCauses (.strike l false) s).updLtc fun t =>
    { t with strike := { phase := .idle, lamp := l, origins := [o], follow := false, retried := false } }

theorem beginStrike_eq (hl : s.selectLamp = l) (o : StrikeOrigin) : beginStrike o s =
    if s.ltc.position = .facing l then startPreheat (strikeOpened l o s)
    else turnTurret l true (strikeOpened l o s) := by
  subst hl
  rfl

theorem only_strikeOpened {m : List Area} (o : StrikeOrigin) (hl : ∀ p ∈ [Area.ltc, .causes], p ∈ m := by decide) :
    onlyChanges m s (strikeOpened l o s) :=
  ((onlyChanges.refl s).openCauses _ (hl _ (by decide))).updLtc rfl (hl _ (by decide))

/-- With the turret at the lamp, or at its sensor, the strike begins with PREHEAT at once (R70, R75). -/
theorem beginStrike_there (o : StrikeOrigin) (hl : s.selectLamp = l)
    (hthere : s.ltc.position = .facing l ∨ s.pins.turret l = true) :
    ∃ u, beginStrike o s = startPreheat u ∧ onlyChanges [.ltc, .causes] s u ∧ u.retained = s.retained ∧
      u.tgc = s.tgc ∧      u.flt.opener = some (.strike l false) ∧ u.flt.causes = [] ∧ u.ltc.strike.lamp = l ∧
      Ltc.preheating u.ltc = { s.ltc with
        position := .facing l, target := if s.ltc.position = .facing l then s.ltc.target else none
        strike := { phase := .preheat, lamp := l, origins := [o], follow := false, retried := false } } := by
  rw [beginStrike_eq hl]
  by_cases hfacing : s.ltc.position = .facing l
  · rw [if_pos hfacing, if_pos hfacing, ← hfacing]
    exact ⟨_, rfl, only_strikeOpened o, rfl, rfl, rfl, rfl, rfl, rfl⟩
  · rw [if_neg hfacing, if_neg hfacing, turnTurret_there (s := strikeOpened l o s) (hthere.resolve_left hfacing)]
    exact ⟨_, rfl, (only_strikeOpened o).updLtc rfl, rfl, rfl, rfl, rfl, rfl, rfl⟩

/-- Away from the lamp the turret turns to it first (R70, R74). -/
theorem beginStrike_away (o : StrikeOrigin) (hl : s.selectLamp = l) (hposition : s.ltc.position ≠ .facing l)
    (hpin : s.pins.turret l = false) :
    beginStrike o s = (strikeOpened l o s).updLtc (Ltc.turning l true) := by
  rw [beginStrike_eq hl, if_neg hposition]
  exact turnTurret_away (s := strikeOpened l o s) hpin true

/-! ## LAMP_ON by what it meets (R73, R82, R97) -/

theorem reqLampOn_of_refused (h : requestStrike .link s = (s, .refused)) : reqLampOn s = (s, refuse .wrongState) := by
  simp [reqLampOn, h]

theorem requestStrike_joins (o : StrikeOrigin) (hmode : s.power.mode = .active) (hlit : s.litLamp = none)
    (hphase : s.ltc.strike.phase ≠ .idle) (h : s.ltc.strike.follow = true ∨ s.strikingLamp.isSome) :
    requestStrike o s = (joinOrigin o s, .inProgress) := by
  simp [requestStrike, hmode, hlit, hphase, h]

/-- A turn with no strike to follow takes one, unless strikes are barred (R79, R97). -/
theorem requestStrike_of_turning (o : StrikeOrigin) (hmode : s.power.mode = .active) (hlit : s.litLamp = none)
    (hphase : s.ltc.strike.phase = .turning) (hfollow : s.ltc.strike.follow = false)
    (hstriking : s.strikingLamp = none) : requestStrike o s =
      if s.thu.bars then (s, .refused)
      else (joinOrigin o (s.updLtc fun t => { t with strike := { t.strike with follow := true } }), .inProgress) := by
  simp [requestStrike, hmode, hlit, hphase, hfollow, hstriking]

theorem requestStrike_begins (o : StrikeOrigin) (hmode : s.power.mode = .active) (hlit : s.litLamp = none)
    (hphase : s.ltc.strike.phase = .idle) (hbars : s.thu.bars = false)
    (hready : s.retained.lampA.state = .ready ∨ s.retained.lampB.state = .ready) :
    requestStrike o s = (beginStrike o s, .started) := by
  have hlamps : ¬ (s.retained.lampA.state = .failed ∧ s.retained.lampB.state = .failed) := by
    rcases hready with h | h <;> simp [h]
  simp only [requestStrike, hmode, hlit, hphase, hbars, hlamps]
  simp

end

/-- Settles O26: LAMP_ON by the state of the lamps and of the sequence, and R74's table. -/
theorem lampOnStrikesTheSelectedLamp : Obligations.LampOnStrikesTheSelectedLamp := by
  unfold Obligations.LampOnStrikesTheSelectedLamp
  refine ⟨fun s ht hmode hlit => ?_, fun s ht h => ?_,
    fun s l ht hmode hphase hlit hstriking hbars hready hl hthere => ?_,
    fun s l ht hmode hphase hlit hstriking hbars hready hl hposition hpin => ?_,
    fun s ht hmode hlit hphase => ⟨fun hjoin => ?_, fun hturn hfollow hstriking hbars => ?_,
      fun hturn hfollow hstriking hbars => ?_⟩,
    fun s l hl => ?_, fun s ht hmode hshow hphase hbars ha hb => ?_⟩
  case refine_1 =>
    have hreq : reqLampOn s = (s, okWith (.strike .alreadyLit)) := by simp [reqLampOn, requestStrike, hmode, hlit]
    exact answers_only ht rfl hreq
  case refine_2 =>
    refine answers_only ht rfl (reqLampOn_of_refused ?_)
    rcases h with hmode | ⟨hlit, hphase, hbars⟩
    · simp [requestStrike, hmode]
    · simp [requestStrike, hlit, hphase, hbars]
  case refine_3 =>
    obtain ⟨u, hbegin, hu, hretained, htgc, hopener, hcauses, hlamp, hltc⟩ := beginStrike_there .link hl hthere
    have hrecords := lampRecord_of_retained hretained
    have hreq : reqLampOn s = (startPreheat u, okWith (.strike .started)) := by
      simp [reqLampOn, requestStrike_begins .link hmode hlit hphase hbars hready, hbegin]
    have hchange : onlyChanges (.lampA :: .lampB :: .ltc :: .watch :: .fe :: .dimmer :: .thu :: .causes :: reports) s
        (startPreheat u) := hu.mono.trans (only_startPreheat u).mono
    have htgc : (startPreheat u).tgc = s.tgc := by simp [htgc]
    obtain ⟨hexec, hanswer, -, honly⟩ := requestDone_of_act (i := .lampOn) ht rfl hreq hchange (by rw [htgc])
      (by rw [htgc])
    have hstruck : Struck l u (startPreheat u) := startPreheat_strikes hlamp
      (by rw [hrecords]; exact strikingLamp_none hstriking l) (by rw [hrecords]; exact litLamp_none_iff.1 hlit _)
    have hltc' := hstruck.ltc
    rw [hltc] at hltc'
    refine ⟨_, hexec, congrArg LampRecord.state hstruck.record, fun hne => ?_, ?_, congrArg Ltc.strike hltc',
      congrArg Ltc.position hltc', ?_, hstruck.applied, hstruck.cooldown, ?_, ?_, hanswer, honly⟩
    · exact (congrArg Ltc.target hltc').trans (if_neg hne)
    · rw [← hrecords]
      exact hstruck.other
    · rw [← hretained]
      exact hstruck.dimmer
    · simpa using hopener
    · simpa using hcauses
  case refine_4 =>
    have hreq : reqLampOn s = ((strikeOpened l .link s).updLtc (Ltc.turning l true), okWith (.strike .started)) := by
      simp [reqLampOn, requestStrike_begins .link hmode hlit hphase hbars hready,
        beginStrike_away .link hl hposition hpin]
    have hchange : onlyChanges [.ltc, .causes, .linkOut] s ((strikeOpened l .link s).updLtc (Ltc.turning l true)) :=
      (only_strikeOpened .link).updLtc rfl
    obtain ⟨hexec, hanswer, -, honly⟩ := requestDone_of_act (i := .lampOn) ht rfl hreq hchange rfl rfl
    exact ⟨_, hexec, rfl, rfl, rfl, hanswer, honly⟩
  case refine_5 =>
    have hreq : reqLampOn s = (joinOrigin .link s, okWith (.strike .inProgress)) := by
      simp [reqLampOn, requestStrike_joins .link hmode hlit hphase hjoin]
    have hchange : onlyChanges [.ltc, .linkOut] s (joinOrigin .link s) := (onlyChanges.refl s).updLtc rfl
    obtain ⟨hexec, hanswer, -, honly⟩ := requestDone_of_act (i := .lampOn) ht rfl hreq hchange rfl rfl
    exact ⟨_, hexec, rfl, hanswer, honly⟩
  case refine_6 =>
    have hjoin := requestStrike_of_turning .link hmode hlit hturn hfollow hstriking
    rw [if_neg (by simp [hbars])] at hjoin
    have hreq : reqLampOn s = (joinOrigin .link (s.updLtc fun t =>
        { t with strike := { t.strike with follow := true } }), okWith (.strike .inProgress)) := by
      simp [reqLampOn, hjoin]
    obtain ⟨hexec, hanswer, -, honly⟩ := requestDone_of_act (l := [.ltc, .linkOut]) (i := .lampOn) ht rfl hreq
      (((onlyChanges.refl s).updLtc rfl).updLtc rfl) rfl rfl
    exact ⟨_, hexec, rfl, hanswer, honly⟩
  case refine_7 =>
    have hrefused := requestStrike_of_turning .link hmode hlit hturn hfollow hstriking
    rw [if_pos hbars] at hrefused
    exact answers_only ht rfl (reqLampOn_of_refused hrefused)
  case refine_8 =>
    rw [selectLamp_of_facing hl]
    refine ⟨fun h hdue => ?_, fun h hdue hother hother' => ?_, fun h hother => ?_, fun h hother => ?_, fun h => ?_⟩
    · simp [h, hdue]
    · simp [h, hdue, hother, hother']
    · simp [h, hother]
    · simp [h, hother]
    · simp [h]
  case refine_9 =>
    have hlit : s.litLamp = none := by simp [State.litLamp, ha, hb]
    have hfault : raiseFault .noLamp .empty s = recordFault .noLamp .halt .empty s := raiseFault_stopped hshow _ _
    have hreq : reqLampOn s = (recordFault .noLamp .halt .empty s, refuse .wrongState) := by
      simp [reqLampOn, requestStrike, hmode, hlit, hphase, hbars, ha, hb, hfault]
    have hchange : onlyChanges faultReports s (recordFault .noLamp .halt .empty s) :=
      (onlyChanges.refl s).recordFault _ _ _
    obtain ⟨hexec, hanswer, -, honly⟩ := requestDone_of_act (i := .lampOn) ht rfl hreq hchange (by simp) (by simp)
    exact ⟨_, hexec, hanswer, raised.recordFault_same s, honly⟩

end Sys2Proof.Proofs
end

section
/-! PROOFS. The attempts of a strike (R75 to R78). -/

namespace Sys2Proof.Proofs

open Sys2Proof.Machine Sys2Proof.Safety

/-! ## The current senses -/

/-- The inputs once a lamp's current sense goes to a level. -/
def senseGoes (l : Lamp) (on : Bool) (p : Pins) : Pins :=
  match l with
  | .a => { p with senseA := on }
  | .b => { p with senseB := on }

@[simp] theorem senseGoes_turret (l m : Lamp) (on : Bool) (p : Pins) : (senseGoes l on p).turret m = p.turret m := by
  cases l <;> rfl

/-! ## The events of a strike -/

section

variable {s : State} {l : Lamp}

theorem exec_preheatExpiry (hs : runs s) (h : s.ltc.strike.phase = .preheat) :
    exec .preheatExpiry s = .next (settle (enterCheck s)) :=
  congrArg _ ((whenRunning_of hs.1 _).trans (congrArg settle (if_pos h)))

theorem exec_checkExpiry (hs : runs s) (h : s.ltc.strike.phase = .check) :
    exec .checkExpiry s = .next (settle (strikeFails s)) :=
  congrArg _ ((whenRunning_of hs.1 _).trans (congrArg settle (if_pos h)))

theorem exec_retryWaitExpiry (hs : runs s) (h : s.ltc.strike.phase = .retryWait) :
    exec .retryWaitExpiry s = .next (settle (startPreheat s)) :=
  congrArg _ ((whenRunning_of hs.1 _).trans (congrArg settle (if_pos h)))

theorem exec_currentSenseActive (hs : runs s) (l : Lamp) : exec (.currentSenseActive l) s = .next (settle
    (if s.ltc.strike.phase = .check ∧ s.ltc.strike.lamp = l then strikeSucceeds (s.updPins (senseGoes l true))
      else s.updPins (senseGoes l true))) := by
  cases l <;> exact congrArg _ (whenRunning_updPins hs.1 _ rfl)

/-! ## Success (R76) -/

/-- The sequence has ended, and the lamp's record counts the strike (R76). -/
def strikeCounted (l : Lamp) (s : State) : State :=
  (endStrike s).updLamp l fun r => { r with strikes := bump16 r.strikes, failures := 0 }

/-- The lamp LIT, with its light and its notices, before L1 (R76). -/
def strikeLit (l : Lamp) (s : State) : State := changeLamp l .lit .strike (strikeCounted l s)

theorem only_strikeLit (l : Lamp) (s : State) :
    onlyChanges (.lampA :: .lampB :: .ltc :: .watch :: .fe :: .dimmer :: .thu :: reports) s (strikeLit l s) :=
  (((onlyChanges.refl s).updLtc rfl).updLamp l _).changeLamp _ _ _

@[simp] theorem strikeLit_frame (l : Lamp) (s : State) :
    (strikeLit l s).shc = s.shc ∧ (strikeLit l s).tgc = s.tgc := by
  have hlit : strikeLit l s = changeLamp l .lit .strike (strikeCounted l s) := rfl
  simp only [hlit, changeLamp_frame]
  exact ⟨rfl, rfl⟩

theorem strikeLit_lamps (l : Lamp) (s : State) :
    (strikeLit l s).lampRecord l = { s.lampRecord l with
      state := .lit, strikes := min ((s.lampRecord l).strikes + 1) 65535, failures := 0 } ∧
      (strikeLit l s).lampRecord (otherLamp l) = s.lampRecord (otherLamp l) := by
  obtain ⟨hlit, hlit'⟩ := changeLamp_lampRecord l .lit .strike (strikeCounted l s)
  obtain ⟨hcount, hcount'⟩ := updLamp_lampRecord (endStrike s) l
    fun r => { r with strikes := bump16 r.strikes, failures := 0 }
  refine ⟨hlit.trans ?_, hlit'.trans hcount'⟩
  rw [show (strikeCounted l s).lampRecord l = _ from hcount]
  rfl

/-- The sequence is at rest and the output carries the light's own drive (R59, R76). -/
theorem strikeLit_light (l : Lamp) (s : State) :
    (strikeLit l s).ltc.strike = idleStrike s.ltc.strike ∧ (strikeLit l s).ltc.position = s.ltc.position ∧
      (strikeLit l s).fe.dimmer = (strikeLit l s).fe.drive ∧ (strikeLit l s).fe.level = s.fe.level := by
  obtain ⟨hltc, hlevel, -⟩ := setLampState_keeps l .lit (strikeCounted l s)
  obtain ⟨hfe, hltc'⟩ := changeLamp_light l .lit .strike (strikeCounted l s)
  have hdimmer : (setLampState l .lit (strikeCounted l s)).fe.dimmer = _ := runStages_dimmer_idle rfl
  have hstrike := congrArg Ltc.strike (hltc'.trans hltc)
  have hposition := congrArg Ltc.position (hltc'.trans hltc)
  have hdrive := (congrArg Fe.dimmer hfe).trans (hdimmer.trans (congrArg Fe.drive hfe).symm)
  exact ⟨hstrike, hposition, hdrive, (congrArg Fe.level hfe).trans hlevel⟩

/-- A show that is STOPPED with no parts hears of the lamp and does nothing (R130, R145). -/
theorem lampLit_at_rest (hstate : s.shc.state = .stopped) (hparts : s.shc.parts = .empty) : lampLit s = s :=
  (if_neg (by simp [finishPart, hstate])).trans (examine_finishPart_stopped hstate hparts _ _ _)

/-- An attempt that succeeds with the show at rest; L1 after a retry (R76). -/
theorem strikeSucceeds_at_rest (hl : s.ltc.strike.lamp = l) (hstate : s.shc.state = .stopped)
    (hparts : s.shc.parts = .empty) : strikeSucceeds s =
      if s.ltc.strike.retried then recordFault .strikeRetried .note (.ofLamp l) (strikeLit l s) else strikeLit l s := by
  subst hl
  have hrest : lampLit (strikeLit s.ltc.strike.lamp s) = strikeLit s.ltc.strike.lamp s :=
    lampLit_at_rest (by simpa using hstate) (by simpa using hparts)
  rw [← raiseFault_note rfl, ← hrest]
  rfl

/-! ## Failure (R77, R78) -/

/-- The lamp's record and the sequence once an attempt has failed (R77). -/
def attemptFailed (l : Lamp) (phase : StrikePhase) (s : State) : State :=
  (s.updLamp l fun r => { r with failures := min ((s.lampRecord l).failures + 1) 3 }).updLtc fun t =>
    { t with strike := { t.strike with phase := phase, retried := true } }

theorem only_attemptFailed (l : Lamp) (phase : StrikePhase) (s : State) :
    onlyChanges [.lampA, .lampB, .ltc] s (attemptFailed l phase s) :=
  ((onlyChanges.refl s).updLamp l _).updLtc rfl

@[simp] theorem attemptFailed_frame (l : Lamp) (phase : StrikePhase) (s : State) :
    (attemptFailed l phase s).shc = s.shc ∧ (attemptFailed l phase s).tgc = s.tgc ∧
      (attemptFailed l phase s).pins = s.pins := ⟨rfl, rfl, rfl⟩

theorem attemptFailed_lamps (l : Lamp) (phase : StrikePhase) (s : State) :
    (attemptFailed l phase s).lampRecord l =
      { s.lampRecord l with failures := min ((s.lampRecord l).failures + 1) 3 } ∧
      (attemptFailed l phase s).lampRecord (otherLamp l) = s.lampRecord (otherLamp l) :=
  updLamp_lampRecord s l fun r => { r with failures := min ((s.lampRecord l).failures + 1) 3 }

theorem strikeFails_retries (hl : s.ltc.strike.lamp = l) (h : (s.lampRecord l).failures < 2) :
    strikeFails s = syncDimmer (attemptFailed l .retryWait s) := by
  subst hl
  have hn : (s.lampRecord s.ltc.strike.lamp).failures + 1 < 3 := by omega
  exact if_pos hn

/-- The lamp FAILED, with L2 and its notices, before the changeover (R77). -/
def struckOut (l : Lamp) (s : State) : State :=
  tellLamp l .failed ((attemptFailed l .idle s).lampRecord l).state .strike
    (raiseFault .lampFailed (.ofLamp l) (setLampState l .failed (attemptFailed l .idle s)))

theorem strikeFails_third (hl : s.ltc.strike.lamp = l) (h : 2 ≤ (s.lampRecord l).failures) :
    strikeFails s = changeover l (struckOut l s) := by
  subst hl
  have hn : ¬ (s.lampRecord s.ltc.strike.lamp).failures + 1 < 3 := by omega
  exact if_neg hn

/-- With the show STOPPED the third failure puts the lamp out and records L2 (R77, R144). -/
theorem struckOut_at_rest (hstate : s.shc.state = .stopped) (hstriking : (s.lampRecord l).state = .striking)
    (hother : (s.lampRecord (otherLamp l)).state ≠ .lit) :
    PutOut l .failed (attemptFailed l .idle s) (struckOut l s) ∧
      raised .lampFailed .hold (.ofLamp l) s (struckOut l s) ∧ (struckOut l s).tgc = s.tgc ∧
      (struckOut l s).pins = s.pins ∧
      onlyChanges (.lampA :: .lampB :: .ltc :: .watch :: .fe :: .dimmer :: .thu :: faultReports) s (struckOut l s) := by
  obtain ⟨hrecord, hrecord'⟩ := attemptFailed_lamps l .idle s
  have hfault := raiseFault_stopped (s := setLampState l .failed (attemptFailed l .idle s)) (by simpa using hstate)
    .lampFailed (.ofLamp l)
  have hout : struckOut l s = tellLamp l .failed .striking .strike
      (recordFault .lampFailed .hold (.ofLamp l) (setLampState l .failed (attemptFailed l .idle s))) := by
    change tellLamp l .failed ((attemptFailed l .idle s).lampRecord l).state .strike (raiseFault _ _ _) = _
    rw [hrecord, hfault, ← hstriking]
    rfl
  have hdark : onlyChanges [.lampA, .lampB, .ltc, .watch, .fe, .dimmer] s
      (setLampState l .failed (attemptFailed l .idle s)) := (only_attemptFailed l .idle s).mono.setLampState l .failed
  rw [hout]
  refine ⟨putOut_tellLamp .strike (by simp) (by simp) (by simp) (.inr rfl) (.inr rfl) (by rwa [hrecord']),
    (raised.recordFault_of_only hdark).of_only (l := .thu :: reports) ((onlyChanges.refl _).tellLamp _ _ _ _),
    by simp, by simp, (hdark.mono.recordFault _ _ _).tellLamp _ _ _ _⟩

end

/-- Settles O28: PREHEAT, CHECK, success, a failure and the third, and the wait's end. -/
theorem strikeAttemptsSucceedOrRetry : Obligations.StrikeAttemptsSucceedOrRetry := by
  unfold Obligations.StrikeAttemptsSucceedOrRetry
  refine ⟨fun s hs hphase hsense => ?_, fun s l hs hrest hphase hl hlamp hlit => ?_, fun s l hs hphase => ?_,
    fun s l hs hphase hl hfailures => ?_, fun s l hs hrest hphase hl hlamp hfailures hlit hready hturret => ?_,
    fun s hs hphase hlamp => ?_⟩
  case refine_1 =>
    have hcheck : enterCheck s = s.updLtc fun t => { t with strike := { t.strike with phase := .check } } :=
      if_neg (by simp [hsense])
    refine ⟨_, exec_preheatExpiry hs hphase, ?_⟩
    rw [hcheck]
    exact ⟨rfl, only_settled hs ((onlyChanges.refl s).updLtc rfl) rfl⟩
  case refine_2 =>
    obtain ⟨hstopped, hparts, -, -⟩ := hrest
    have hexec := exec_currentSenseActive hs l
    rw [if_pos ⟨hphase, hl⟩, strikeSucceeds_at_rest (s := s.updPins (senseGoes l true)) hl hstopped hparts] at hexec
    have hpins : onlyChanges [.pins] s (s.updPins (senseGoes l true)) := (onlyChanges.refl s).updPins _
    obtain ⟨hrecord, hrecord'⟩ := strikeLit_lamps l (s.updPins (senseGoes l true))
    obtain ⟨hstrike, hposition, hdimmer, hlevel⟩ := strikeLit_light l (s.updPins (senseGoes l true))
    have hlight : onlyChanges (.pins :: .lampA :: .lampB :: .ltc :: .watch :: .fe :: .dimmer :: .thu :: reports) s
        (strikeLit l (s.updPins (senseGoes l true))) := hpins.mono.trans (only_strikeLit l _).mono
    have htgc : (strikeLit l (s.updPins (senseGoes l true))).tgc = s.tgc := by simp
    generalize strikeLit l (s.updPins (senseGoes l true)) = u at *
    cases hretried : s.ltc.strike.retried with
    | true =>
      rw [if_pos (by exact hretried)] at hexec
      have hfault := only_settled hs (hlight.mono.recordFault .strikeRetried .note (.ofLamp l)) (by simpa using htgc)
        (l := .pins :: .lampA :: .lampB :: .ltc :: .watch :: .fe :: .dimmer :: .thu :: faultReports)
      refine ⟨_, hexec, ?_⟩
      rw [settle_lampRecord, recordFault_lampRecord]
      refine ⟨hrecord, hrecord', ?_, ?_, ?_, ?_, fun _ => (raised.recordFault_of_only hlight).settle, nofun, hfault⟩
      all_goals simpa
    | false =>
      rw [if_neg (by simp [hretried])] at hexec
      have honly := only_settled hs hlight htgc
      exact ⟨_, hexec, hrecord, hrecord', hstrike, hposition, hdimmer, hlevel, nofun, fun _ => honly, honly.mono⟩
  case refine_3 =>
    refine ⟨_, exec_currentSenseActive hs l, ?_⟩
    rw [if_neg fun h => hphase h.1]
    exact only_settled hs ((onlyChanges.refl s).updPins _) rfl
  case refine_4 =>
    obtain ⟨hrecord, hrecord'⟩ := attemptFailed_lamps l .retryWait s
    have hfails := strikeFails_retries hl hfailures
    have hn : min ((s.lampRecord l).failures + 1) 3 = (s.lampRecord l).failures + 1 := by omega
    refine ⟨_, exec_checkExpiry hs hphase, ?_⟩
    rw [hfails]
    refine ⟨hrecord.trans (by rw [hn]), hrecord', rfl, rfl, ?_⟩
    exact only_settled hs ((only_attemptFailed l .retryWait s).mono.syncDimmer) (by simp)
  case refine_5 =>
    obtain ⟨hstopped, -, -, -⟩ := hrest
    obtain ⟨hrecord, hrecord'⟩ := attemptFailed_lamps l .idle s
    obtain ⟨hout, hraised, htgc, hpins, honly⟩ := struckOut_at_rest hstopped hlamp (litLamp_none_iff.1 hlit _)
    have hother : (struckOut l s).lampRecord (otherLamp l) = s.lampRecord (otherLamp l) := hout.other.trans hrecord'
    have hturns := changeover_turns (s := struckOut l s) (l := l) (by rw [hother, hready]; decide) (by rwa [hpins])
    have hexec := exec_checkExpiry hs hphase
    rw [strikeFails_third hl hfailures, hturns] at hexec
    generalize struckOut l s = z at hexec hout hraised htgc honly hother
    have hn : min ((s.lampRecord l).failures + 1) 3 = 3 := by omega
    have hrecord' : z.lampRecord l = { s.lampRecord l with state := .failed, failures := 3 } :=
      hout.record.trans (by rw [hrecord, hn])
    refine ⟨_, hexec, hrecord', hother, rfl, rfl, rfl, rfl, hout.cooldown, ?_, ?_⟩
    · exact (hraised.of_only (only_changingOver (.refl (l := [.ltc]) z) _ _)).settle
    · exact only_settled hs (only_changingOver honly _ _) (by simpa using htgc)
  case refine_6 =>
    have hagain := startPreheat_again hlamp
    refine ⟨_, exec_retryWaitExpiry hs hphase, ?_⟩
    rw [hagain]
    refine ⟨rfl, rfl, ?_⟩
    exact only_settled hs (onlyChanges.syncDimmer ((onlyChanges.refl s).updLtc rfl)) (by simp)

end Sys2Proof.Proofs
end

section
/-! PROOFS. Turret moves and their stall, the burn-out watch and its changeover (R69, R70, R78, R80, R189). -/

namespace Sys2Proof.Proofs

open Sys2Proof.Machine Sys2Proof.Safety

/-! ## The turret's sensors (R69, R70) -/

/-- The inputs once a turret position sensor goes to a level. -/
def turretGoes (l : Lamp) (on : Bool) (p : Pins) : Pins :=
  match l with
  | .a => { p with turretA := on }
  | .b => { p with turretB := on }

theorem turretGoes_turret (l : Lamp) (on : Bool) (p : Pins) :
    (turretGoes l on p).turret l = on ∧ (turretGoes l on p).turret (otherLamp l) = p.turret (otherLamp l) := by
  cases l <;> exact ⟨rfl, rfl⟩

section

variable {s : State} {l : Lamp}

theorem exec_turretSensor (hs : runs s) (l : Lamp) (on : Bool) : exec (.turretSensor l on) s = .next (settle
    (if on then turretActive l (s.updPins (turretGoes l on)) else s.updPins (turretGoes l on))) := by
  cases l <;> exact congrArg _ (whenRunning_updPins hs.1 _ rfl)

/-- The turret has come to a lamp, and the sequence has not gone on yet (R70). -/
def turretStands (l : Lamp) (s : State) : State := s.updLtc fun t => { t with position := .facing l, target := none }

theorem turretActive_of_target (h : s.ltc.target = some l) : turretActive l s =
    if s.ltc.strike.follow then startPreheat (turretStands l s) else endStrike (turretStands l s) := by
  unfold turretActive
  rw [h]
  exact if_pos rfl

theorem turretActive_of_between (htarget : s.ltc.target = none) (h : s.ltc.position = .moving) :
    turretActive l s = s.updLtc fun t => { t with position := .facing l } := by
  unfold turretActive
  rw [htarget]
  exact if_pos h

/-- The turret timer stops the motor between positions; with the show STOPPED L6 is recorded and reported (R70,
R144). -/
theorem turretExpired_of_target (h : s.ltc.target = some l) (hstate : s.shc.state = .stopped) : turretExpired s =
    endStrike (recordFault .turretStall .halt (.ofLamp l) (s.updLtc fun t => { t with target := none })) := by
  have hfault := raiseFault_stopped (s := s.updLtc fun t => { t with target := none }) hstate .turretStall (.ofLamp l)
  unfold turretExpired
  rw [h]
  exact congrArg endStrike hfault

/-! ## The burn-out watch (R80) -/

theorem exec_burnoutWatchStart (hs : runs s) : exec .burnoutWatchStart s = .next (settle (watchBegins s)) :=
  congrArg _ (whenRunning_of hs.1 _)

theorem exec_currentSenseLost (hs : runs s) (l : Lamp) : exec (.currentSenseLost l) s =
    .next (settle (if s.ltc.watch = some .running ∧ s.litLamp = some l then burnOut l (s.updPins (senseGoes l false))
      else s.updPins (senseGoes l false))) := by
  cases l <;> exact congrArg _ (whenRunning_updPins hs.1 _ rfl)

theorem watchBegins_of_current (h : s.ltc.watch = some .settling) (hlit : s.litLamp = some l)
    (hsense : s.pins.sense l = true) : watchBegins s = s.updLtc fun t => { t with watch := some .running } := by
  unfold watchBegins
  rw [if_pos h, hlit]
  exact if_pos hsense

theorem watchBegins_of_other (h : s.ltc.watch ≠ some .settling) : watchBegins s = s := if_neg h

/-! ## A burn-out (R80, R189) -/

/-- The lamp FAILED, with L3 in a last-cause set of its own and its notices, before the changeover (R80; log 19). -/
def burntOut (l : Lamp) (s : State) : State :=
  tellLamp l .failed .lit .burnout (recordFault .lampBurnout .hold (.ofLamp l)
    (openCauses (.strike l true) (setLampState l .failed s)))

/-- The sequence of a changeover from the lamp, at its beginning (R78). -/
def Ltc.changing (l : Lamp) (t : Ltc) : Ltc :=
  { t with strike := { phase := .idle, lamp := l, origins := [.changeover], follow := false, retried := false } }

theorem burnOut_stopped (hstate : s.shc.state = .stopped) :
    burnOut l s = changeover l ((burntOut l s).updLtc (Ltc.changing l)) := by
  have hfault := raiseFault_stopped (s := openCauses (.strike l true) (setLampState l .failed s))
    (by simpa using hstate) .lampBurnout (.ofLamp l)
  exact congrArg (fun u => changeover l ((tellLamp l .failed .lit .burnout u).updLtc (Ltc.changing l))) hfault

theorem only_burntOut (l : Lamp) (s : State) :
    onlyChanges (.lampA :: .lampB :: .watch :: .fe :: .dimmer :: .thu :: faultReports) s (burntOut l s) :=
  ((((onlyChanges.refl s).setLampState l _).openCauses _).recordFault _ _ _).tellLamp _ _ _ _

theorem burntOut_putOut (hother : (s.lampRecord (otherLamp l)).state ≠ .lit) : PutOut l .failed s (burntOut l s) :=
  putOut_tellLamp .burnout (by simp) (by simp) (by simp) (.inl rfl) (.inr rfl) hother

/-- A fault raised into a last-cause set that has just been opened stands alone in it (R188, R189). -/
theorem record_opened {f : Flt} (hopener : f.opener.isSome = true) (hcauses : f.causes = []) (c : FaultCode)
    (sv : Severity) (d : Detail) : (f.record c sv d).causes = [c] ∧
      (f.record c sv d).sticky = insertCode c f.sticky ∧ (f.record c sv d).opener = f.opener := by
  unfold Flt.record
  cases f.first <;> simp [hopener, hcauses, appendCode]

theorem burntOut_faults (l : Lamp) (s : State) :
    (burntOut l s).flt.opener = some (.strike l true) ∧ (burntOut l s).flt.causes = [.lampBurnout] ∧
      (burntOut l s).flt.sticky = insertCode .lampBurnout s.flt.sticky := by
  have hraised : raised .lampBurnout .hold (.ofLamp l) (openCauses (.strike l true) (setLampState l .failed s))
      (burntOut l s) :=
    (raised.recordFault_same _).of_only (l := .thu :: reports) ((onlyChanges.refl _).tellLamp _ _ _ _)
  obtain ⟨hcauses, hsticky, hopener⟩ := record_opened
    (f := (openCauses (.strike l true) (setLampState l .failed s)).flt) rfl rfl .lampBurnout .hold (.ofLamp l)
  obtain ⟨-, -, -, hsticky', hcauses'⟩ := hraised
  refine ⟨?_, hcauses'.trans hcauses, hsticky'.trans (hsticky.trans (by simp [openCauses]))⟩
  change (tellLamp l .failed .lit .burnout _).flt.opener = _
  simp only [recordFault, tellLamp_frame, report_frame, State.updFlt_flt]
  exact hopener

theorem burntOut_frame (l : Lamp) (s : State) : (burntOut l s).pins = s.pins ∧ (burntOut l s).power = s.power ∧
    (burntOut l s).tgc = s.tgc := by
  change (tellLamp l .failed .lit .burnout _).pins = _ ∧ (tellLamp l .failed .lit .burnout _).power = _ ∧
    (tellLamp l .failed .lit .burnout _).tgc = _
  simp

/-- A burn-out bars no strike (R97, R101). -/
theorem burntOut_bars (h : s.thu.bars = false) : (burntOut l s).thu.bars = false :=
  tellLamp_bars l .failed .lit .burnout (by simpa using h)

end

/-- Settles O29: the turret's sensors and its timer, the watch's beginning, and a burn-out with its changeover. -/
theorem turretMovesAndBurnouts : Obligations.TurretMovesAndBurnouts := by
  unfold Obligations.TurretMovesAndBurnouts
  refine ⟨fun s l hs htarget hfollow => ?_, fun s l hs htarget hfollow hl hready hlit => ?_,
    fun s l hs htarget hposition => ?_, fun s l hs => ?_, fun s l hs hstate htarget => ?_,
    fun s l hs hwatch hlit hsense => ?_, fun s hs hwatch => ?_,
    fun s l hs hmode hstate hwatch hlamp hready hbars hturret _ => ?_, fun s l hs hwatch => ?_⟩
  case refine_1 =>
    have hexec := exec_turretSensor hs l true
    rw [if_pos rfl, turretActive_of_target (s := s.updPins (turretGoes l true)) htarget,
      if_neg (by simp [hfollow])] at hexec
    exact ⟨_, hexec, rfl, only_settled hs ((((onlyChanges.refl s).updPins _).updLtc rfl).updLtc rfl) rfl⟩
  case refine_2 =>
    have hexec := exec_turretSensor hs l true
    rw [if_pos rfl, turretActive_of_target (s := s.updPins (turretGoes l true)) htarget,
      if_pos (by exact hfollow)] at hexec
    have hstruck := startPreheat_strikes (s := turretStands l (s.updPins (turretGoes l true))) (l := l) hl
      (fun h => absurd (hready.symm.trans h) (by decide)) (litLamp_none_iff.1 hlit _)
    have honly : onlyChanges (.pins :: .lampA :: .lampB :: .ltc :: .watch :: .fe :: .dimmer :: .thu :: reports) s
        (startPreheat (turretStands l (s.updPins (turretGoes l true)))) :=
      onlyChanges.trans (((onlyChanges.refl s).updPins _).updLtc rfl) (only_startPreheat _).mono
    have htgc : (startPreheat (turretStands l (s.updPins (turretGoes l true)))).tgc = s.tgc := by
      simp only [startPreheat_frame]
      rfl
    exact ⟨_, hexec, congrArg Ltc.position hstruck.ltc, congrArg Ltc.target hstruck.ltc,
      congrArg Ltc.strike hstruck.ltc, hstruck.record, hstruck.other, hstruck.dimmer, hstruck.cooldown,
      only_settled hs honly htgc⟩
  case refine_3 =>
    have hexec := exec_turretSensor hs l true
    rw [if_pos rfl, turretActive_of_between (s := s.updPins (turretGoes l true)) htarget hposition] at hexec
    exact ⟨_, hexec, rfl, only_settled hs (((onlyChanges.refl s).updPins _).updLtc rfl) rfl⟩
  case refine_4 =>
    have hexec := exec_turretSensor hs l false
    rw [if_neg (by decide)] at hexec
    obtain ⟨hpin, hpin'⟩ := turretGoes_turret l false s.pins
    exact ⟨_, hexec, hpin, hpin', only_settled hs ((onlyChanges.refl s).updPins _) rfl⟩
  case refine_5 =>
    have hexec : exec .turretTimerExpiry s = .next (settle (turretExpired s)) := congrArg _ (whenRunning_of hs.1 _)
    rw [turretExpired_of_target htarget hstate] at hexec
    have hstop : onlyChanges [.ltc] s (s.updLtc fun t => { t with target := none }) := (onlyChanges.refl s).updLtc rfl
    have hfault : onlyChanges (.ltc :: faultReports) s
        (recordFault .turretStall .halt (.ofLamp l) (s.updLtc fun t => { t with target := none })) :=
      hstop.mono.recordFault _ _ _
    refine ⟨_, hexec, ?_, ?_, only_settled hs (hfault.updLtc rfl) (by simp)⟩
    · simp [endStrike]
    · exact (raised.recordFault_of_only hstop).settle
  case refine_6 =>
    have hexec := exec_burnoutWatchStart hs
    rw [watchBegins_of_current hwatch hlit hsense] at hexec
    exact ⟨_, hexec, rfl, only_settled hs ((onlyChanges.refl s).updWatch _) rfl⟩
  case refine_7 =>
    have hexec := exec_burnoutWatchStart hs
    rwa [watchBegins_of_other hwatch, hs.2] at hexec
  case refine_8 =>
    have hdark : (s.lampRecord (otherLamp l)).state ≠ .lit := by simp [hready]
    have hexec := exec_currentSenseLost hs l
    rw [if_pos ⟨hwatch, litLamp_of_lit hlamp hdark⟩,
      burnOut_stopped (s := s.updPins (senseGoes l false)) hstate] at hexec
    have hout := burntOut_putOut (s := s.updPins (senseGoes l false)) (l := l) hdark
    obtain ⟨hopener, hcauses, hsticky⟩ := burntOut_faults l (s.updPins (senseGoes l false))
    obtain ⟨hpins, hpower, htgc⟩ := burntOut_frame l (s.updPins (senseGoes l false))
    have hbars' := burntOut_bars (s := s.updPins (senseGoes l false)) (l := l) hbars
    have honly : onlyChanges
        (.pins :: .lampA :: .lampB :: .ltc :: .watch :: .fe :: .dimmer :: .thu :: faultReports) s
        (burntOut l (s.updPins (senseGoes l false))) :=
      onlyChanges.trans ((onlyChanges.refl s).updPins _) (only_burntOut l _).mono
    generalize burntOut l (s.updPins (senseGoes l false)) = z at *
    have hother : z.lampRecord (otherLamp l) = s.lampRecord (otherLamp l) := hout.other
    have hturns := changeover_turns (s := z.updLtc (Ltc.changing l)) (l := l)
      (by change (z.lampRecord (otherLamp l)).state ≠ _; rw [hother, hready]; decide) (by simpa [hpins] using hturret)
    have hfollow : (!((z.updLtc (Ltc.changing l)).thu.bars ||
        (z.updLtc (Ltc.changing l)).power.mode == .windingDown)) = true := by simp [hbars', hpower, hmode]
    rw [hturns, hfollow] at hexec
    exact ⟨_, hexec, hout.record, hother, hout.applied, hout.drive, rfl, rfl, congrArg Ltc.watch hout.ltc, rfl,
      hout.cooldown, hopener, hcauses, hsticky, only_settled hs (only_changingOver (honly.updLtc rfl) _ _) htgc⟩
  case refine_9 =>
    have hexec := exec_currentSenseLost hs l
    rw [if_neg fun h => hwatch h.1] at hexec
    exact ⟨_, hexec, only_settled hs ((onlyChanges.refl s).updPins _) rfl⟩

end Sys2Proof.Proofs
end

section
/-! PROOFS. The rules of the heat: ceilings and the light under them, the fan, the cool-down's end condition, the forced
lamp-off (R59, R81, R98 to R104). -/

namespace Sys2Proof.Safety.onlyChanges

open Sys2Proof.Machine

variable {l : List Area} {s t : State}

/-- The ceilings, and the light that runs under the effective one (R59, R98, R99). -/
theorem retarget (h : onlyChanges l s t) (hl : ∀ p ∈ [Area.thu, .fe, .dimmer, .watch], p ∈ l := by decide) :
    onlyChanges l s (retarget t) := by
  have hthu := h.updThu
    (fun u => { u with target := t.thu.targetFor, effective := min t.thu.effective t.thu.targetFor }) (hl _ (by decide))
  unfold Machine.retarget
  dsimp only
  split
  · exact hthu.runStages fun p hp => hl p (List.mem_cons_of_mem _ hp)
  · exact hthu

theorem syncFan (h : onlyChanges l s t) (hl : .thu ∈ l := by decide) : onlyChanges l s (syncFan t) := h.updThu _ hl

end Sys2Proof.Safety.onlyChanges

namespace Sys2Proof.Proofs

open Sys2Proof.Machine Sys2Proof.Safety

/-! ## Raisings -/

theorem raised_syncFan {c : FaultCode} {sv : Severity} {d : Detail} {s t : State} (h : raised c sv d s t) :
    raised c sv d s (syncFan t) := h

theorem raised_requestDone {c : FaultCode} {sv : Severity} {d : Detail} {s t : State} (h : raised c sv d s t)
    (i : Instr) (r : Response) : raised c sv d s (requestDone i (t, r)) := h

/-- The show does not react to a DEGRADE (R144). -/
theorem raiseFault_degrade {c : FaultCode} (h : c.severity = .degrade) (d : Detail) (s : State) :
    raiseFault c d s = recordFault c .degrade d s := by
  rw [raiseFault, h, raiseAs_mild _ _ _ (.inr rfl)]

/-! ## Ceilings and fan -/

theorem retarget_thu (s : State) : (retarget s).thu =
    { s.thu with target := s.thu.targetFor, effective := min s.thu.effective s.thu.targetFor } := by
  unfold retarget
  dsimp only
  split <;> simp

/-- A change of the ceilings leaves the intended level and the fade; the strike sequence goes on (R59). -/
theorem retarget_keeps (s : State) : (retarget s).fe.level = s.fe.level ∧ (retarget s).fe.fade = s.fe.fade ∧
    (retarget s).ltc = { s.ltc with watch := (retarget s).ltc.watch } := by
  unfold retarget
  dsimp only
  split
  · obtain ⟨hlevel, hfade⟩ := runStages_level (s.updThu fun u =>
      { u with target := s.thu.targetFor, effective := min s.thu.effective s.thu.targetFor })
    exact ⟨hlevel, hfade, rfl⟩
  · exact ⟨rfl, rfl, rfl⟩

theorem syncFan_thu (s : State) : (syncFan s).thu =
    { s.thu with fan := s.fanCommand, monitor := s.thu.monitor.follow s.fanCommand } := rfl

/-- A fan that is not commanded is not watched (R101). -/
theorem follow_zero (m : FanMonitor) : m.follow 0 = .idle := if_pos rfl

/-- A fan that has stalled is not found turning by a command to turn (R101). -/
theorem follow_stalled {command : Nat} (h : 30 ≤ command) : FanMonitor.follow command .stalled = .stalled :=
  if_neg (by omega)

/-- In TRIP the fan runs at full speed whatever burns (R100). -/
theorem fanCommand_of_trip {s : State} (h : s.thu.state = .trip) : s.fanCommand = 100 := by
  simp [State.fanCommand, h]

/-- Under lamp duty the fan never runs below 30 (R100). -/
theorem fanCommand_of_duty {s : State} (h : s.lampDuty = true) : 30 ≤ s.fanCommand := by
  unfold State.fanCommand
  rw [if_pos h]
  split
  · decide
  · exact Nat.le_max_left ..

/-- A BLIND part without lamp duty commands no fan, unless it is in TRIP, and watches none (R100, R101). -/
theorem syncFan_of_blind {s : State} (hduty : s.lampDuty = false) (hstate : s.thu.state ≠ .trip)
    (hblind : s.thu.seeing = false) : (syncFan s).thu.fan = 0 ∧ (syncFan s).thu.monitor = .idle := by
  have hcommand : s.fanCommand = 0 := by
    unfold State.fanCommand
    rw [if_neg (by simp [hduty]), if_neg hstate]
    cases s.thu.reading <;> simp [hblind]
  rw [syncFan_thu, hcommand]
  exact ⟨rfl, follow_zero s.thu.monitor⟩

/-! ## The cool-down's end condition (R104) -/

theorem checkCooldown_of_none {s : State} (h : s.thu.cooldown = none) : checkCooldown s = s := by
  simp [checkCooldown, endCooldown, h]

theorem checkCooldown_of_uncooled {s : State} {n : Nat} (h : s.thu.cooldown = some n) (hn : s.thu.cooled n = false) :
    checkCooldown s = s := by
  simp [checkCooldown, endCooldown, h, hn]

/-- The part once its cool-down of `n` seconds has ended and is told on the line, before the fan follows (R104). -/
def cooldownOver (n : Nat) (s : State) : State :=
  raiseEvent (.cooldownDone n s.thu.reading) (s.updThu fun u => { u with cooldown := none })

theorem only_cooldownOver (n : Nat) (s : State) : onlyChanges (.thu :: reports) s (cooldownOver n s) :=
  ((onlyChanges.refl s).updThu _).raiseEvent _

@[simp] theorem cooldownOver_frame (n : Nat) (s : State) :
    (cooldownOver n s).thu = { s.thu with cooldown := none } ∧ (cooldownOver n s).retained = s.retained ∧
      (cooldownOver n s).tgc = s.tgc := by
  simp [cooldownOver]

/-- In ACTIVE nothing but the fan waits for the end of a cool-down (R104, R206). -/
theorem checkCooldown_of_cooled {s : State} {n : Nat} (h : s.thu.cooldown = some n) (hn : s.thu.cooled n = true)
    (hmode : s.power.mode = .active) : checkCooldown s = syncFan (cooldownOver n s) := by
  simp [checkCooldown, endCooldown, cooldownEnded, cooldownOver, h, hn, hmode]

/-- While the part sees, 90 seconds and a reading of 45 or less end a cool-down; while it is BLIND, 300 seconds do. -/
theorem cooled_iff (n : Nat) (u : Thu) : u.cooled n = true ↔
    (u.seeing = true ∧ 90 ≤ n ∧ ∃ t, u.reading = some t ∧ t ≤ 45) ∨ (u.seeing = false ∧ 300 ≤ n) := by
  unfold Thu.cooled
  cases u.seeing <;> cases u.reading <;> simp

/-- No cool-down has ended when it begins. -/
theorem cooled_zero (u : Thu) : u.cooled 0 = false := by
  rw [← Bool.not_eq_true, cooled_iff]
  omega

/-! ## The forced lamp-off (R81, R103) -/

section

variable {s : State} {l : Lamp}

theorem lampOff_of_lit (cause : LampCause) (h : s.litLamp = some l) :
    (lampOff cause s).1 = changeLamp l .ready cause s := by
  simp [lampOff, h]

theorem lampOff_of_rest (cause : LampCause) (hlit : s.litLamp = none) (h : s.ltc.strike.phase = .idle) :
    (lampOff cause s).1 = s := by
  simp [lampOff, hlit, h]

/-- The notice of a lamp moves the cool-down and the fan, and nothing else of the heat (R72, R103). -/
theorem changeLamp_thu (new : LampState) (cause : LampCause) : (changeLamp l new cause s).thu =
    { s.thu with
      fan := (changeLamp l new cause s).thu.fan, monitor := (changeLamp l new cause s).thu.monitor
      cooldown := (changeLamp l new cause s).thu.cooldown } := by
  simp only [changeLamp, tellLamp, tellThermal, setCooldown]
  repeat' split
  all_goals simp [syncFan_thu]

/-- A lamp that is put out starts a cool-down, whose duty keeps the fan at 30 or more; a stalled monitor stays stalled
(R100, R101, R103). -/
theorem changeLamp_fan {new : LampState} (cause : LampCause) (hlit : (s.lampRecord l).state = .lit)
    (hnew : new ≠ .striking) : 30 ≤ (changeLamp l new cause s).thu.fan ∧
      (s.thu.monitor = .stalled → (changeLamp l new cause s).thu.monitor = .stalled) := by
  have hduty : ∀ t : State, (t.updThu fun u => { u with cooldown := some 0 }).lampDuty = true := fun t => by
    simp [State.lampDuty]
  simp only [changeLamp, tellLamp, tellThermal, setCooldown, hlit, if_neg hnew, true_or, if_true, syncFan_thu]
  refine ⟨fanCommand_of_duty (hduty _), fun hstalled => ?_⟩
  simp only [State.updThu_thu, raiseEvent_frame, setLampState_frame, hstalled]
  exact follow_stalled (fanCommand_of_duty (hduty _))

end

end Sys2Proof.Proofs
end

section
/-! PROOFS. TEMPERATURE: the reading, its band, the ceilings, H4, and an entry to TRIP (R92, R95 to R99, R103). -/

namespace Sys2Proof.Proofs

open Sys2Proof.Machine Sys2Proof.Safety

/-! ## The reading and its band (R92, R95) -/

theorem clampReading_eq (value : Int) : clampReading value = max (-20) (min value 150) := by
  unfold clampReading
  split_ifs <;> omega

theorem thermalBand_iff (t : Int) :
    (thermalBand t = .normal ↔ t ≤ 70) ∧ (thermalBand t = .warm ↔ 71 ≤ t ∧ t ≤ 89) ∧
      (thermalBand t = .hot ↔ 90 ≤ t ∧ t ≤ 99) ∧ (thermalBand t = .trip ↔ 100 ≤ t) := by
  unfold thermalBand
  split_ifs <;> simp <;> omega

/-- The band of a reading below HOT. -/
theorem thermalBand_cool {t : Int} (h : t ≤ 89) : thermalBand t = if t ≤ 70 then .normal else .warm := by
  unfold thermalBand
  rw [if_pos h]

/-- The Thermal Unit's record once a reading is taken, before the ceilings, the fan and the cool-down follow (R92, R95,
R97). -/
def Thu.read (t : Int) (u : Thu) : Thu :=
  { u with reading := some t, window := true, state := thermalBand t,
           latch := (u.latch && !decide (t ≤ 80)) || (thermalBand t == .trip && u.state != .trip) }

@[simp] theorem read_cooldown (t : Int) (u : Thu) : (Thu.read t u).cooldown = u.cooldown := rfl

/-- The latch goes at 80 or below, and no reading below the TRIP band sets it (R97). -/
theorem read_latch_cool {t : Int} (h : t ≤ 89) (u : Thu) : (Thu.read t u).latch = (u.latch && decide (80 < t)) := by
  have hband : thermalBand t ≠ .trip := by
    rw [thermalBand_cool h]
    split <;> decide
  have hedge : (!decide (t ≤ 80)) = decide (80 < t) := by
    rw [← decide_not, decide_eq_decide]
    omega
  simp [Thu.read, beq_eq_false_iff_ne.2 hband, hedge]

/-- The target ceiling of a reading below HOT (R98). -/
theorem targetFor_cool {u : Thu} {t : Int} {target : Nat} (h : t ≤ 89) (hblind : u.seeing = false → target = 400)
    (hnormal : u.seeing = true → t ≤ 70 → target = 1000)
    (hwarm : u.seeing = true → 71 ≤ t → (target : Int) = 1000 - 30 * (t - 70)) :
    (Thu.read t u).targetFor = target := by
  unfold Thu.targetFor Thu.read
  rw [thermalBand_cool h]
  by_cases hcold : t ≤ 70
  · cases hsee : u.seeing
    · simp [hcold, hblind hsee]
    · simp [hcold, hnormal hsee hcold]
  · cases hsee : u.seeing
    · simp [hcold, hblind hsee]
    · have htarget := hwarm hsee (by omega)
      simp [hcold]
      omega

section

variable {s : State} {t : Int} {value : Int}

/-! ## What a reading comes to (R96, R98) -/

theorem takeReading_eq (t : Int) (s : State) :
    takeReading t s = checkCooldown (syncFan (bandChanged s.thu.state t (s.updThu (Thu.read t)))) := rfl

/-- Below HOT a reading moves the ceilings and the fan alone. -/
theorem takeReading_cool (h : t ≤ 89) (hcooldown : s.thu.cooldown = none) :
    takeReading t s = syncFan (retarget (s.updThu (Thu.read t))) := by
  have hband : (s.updThu (Thu.read t)).thu.state = .normal ∨ (s.updThu (Thu.read t)).thu.state = .warm := by
    change thermalBand t = _ ∨ thermalBand t = _
    rw [thermalBand_cool h]
    split <;> simp
  have hchange : bandChanged s.thu.state t (s.updThu (Thu.read t)) = retarget (s.updThu (Thu.read t)) := by
    rcases hband with hband | hband <;> rw [bandChanged, hband]
  rw [takeReading_eq, hchange]
  exact checkCooldown_of_none (by simpa [syncFan_thu, retarget_thu] using hcooldown)

/-- HOT entered from below raises H4, which no show heeds (R98, R144). -/
theorem takeReading_hot (h : thermalBand t = .hot) (hcooldown : s.thu.cooldown = none)
    (hbelow : s.thu.state = .unread ∨ s.thu.state = .normal ∨ s.thu.state = .warm) : takeReading t s =
      syncFan (recordFault .hot .degrade (.ofTemperature (some t)) (retarget (s.updThu (Thu.read t)))) := by
  have hband : (s.updThu (Thu.read t)).thu.state = .hot := h
  have hchange : bandChanged s.thu.state t (s.updThu (Thu.read t)) =
      recordFault .hot .degrade (.ofTemperature (some t)) (retarget (s.updThu (Thu.read t))) := by
    rw [← raiseFault_degrade rfl, bandChanged, hband]
    rcases hbelow with hbelow | hbelow | hbelow <;> rw [hbelow]
  rw [takeReading_eq, hchange]
  exact checkCooldown_of_none (by simpa [syncFan_thu, retarget_thu] using hcooldown)

/-! ## An entry to TRIP with a lamp burning (R96, R103) -/

/-- The part once it has taken a reading in TRIP and put its lamp out, before H2 and the fan (R96). -/
def trippedOut (t : Int) (l : Lamp) (s : State) : State :=
  changeLamp l .ready .forcedOff (retarget (s.updThu (Thu.read t)))

theorem only_trippedOut (t : Int) (l : Lamp) (s : State) :
    onlyChanges (.thu :: .lampA :: .lampB :: .fe :: .dimmer :: .watch :: reports) s (trippedOut t l s) :=
  ((onlyChanges.refl s).updThu _).retarget.changeLamp _ _ _

/-- The ceilings' light is put out with the lamp, and outside a strike the dimmer output too (R57, R59, R103). -/
theorem trippedOut_putOut (t : Int) {l : Lamp} (hlit : (s.lampRecord l).state = .lit)
    (hother : (s.lampRecord (otherLamp l)).state ≠ .lit) : PutOut l .ready s (trippedOut t l s) ∧
      (s.ltc.strike.phase = .idle → (trippedOut t l s).fe.dimmer = 0) := by
  have hrecords : (retarget (s.updThu (Thu.read t))).lampRecord = s.lampRecord := lampRecord_of_retained (by simp)
  obtain ⟨-, -, hltc⟩ := retarget_keeps (s.updThu (Thu.read t))
  have hout : PutOut l .ready (retarget (s.updThu (Thu.read t))) (trippedOut t l s) :=
    changeLamp_putOut _ (.inl (by rw [hrecords, hlit])) (.inl rfl) (by rwa [hrecords])
  refine ⟨{ hout with record := ?_, other := ?_, ltc := ?_ }, fun hphase => changeLamp_dimmer _ ?_ hout⟩
  · rw [hout.record, hrecords]
  · rw [hout.other, hrecords]
  · rw [hout.ltc, hltc, State.updThu_ltc]
  · rw [hltc, State.updThu_ltc, hphase]

/-- The state is TRIP with both ceilings at 0, and a latch that was not set is set (R96 to R98). -/
theorem trippedOut_thu (l : Lamp) (h : thermalBand t = .trip) (hstate : s.thu.state ≠ .trip) :
    (trippedOut t l s).thu.state = .trip ∧ (trippedOut t l s).thu.reading = some t ∧
      (trippedOut t l s).thu.latch = true ∧ (trippedOut t l s).thu.target = 0 ∧
      (trippedOut t l s).thu.effective = 0 := by
  have htarget : (Thu.read t s.thu).targetFor = 0 := by simp [Thu.targetFor, Thu.read, h]
  rw [trippedOut, changeLamp_thu, retarget_thu, State.updThu_thu, htarget]
  simp [Thu.read, h, hstate]

/-- With the show STOPPED an entry to TRIP puts the lamp out, and H2 is recorded and reported; the cool-down has just
begun (R96, R103, R144). -/
theorem takeReading_trip {l : Lamp} (h : thermalBand t = .trip) (hstate : s.thu.state ≠ .trip)
    (hshow : s.shc.state = .stopped) (hlit : (s.lampRecord l).state = .lit)
    (hother : (s.lampRecord (otherLamp l)).state ≠ .lit) : takeReading t s =
      syncFan (recordFault .overheat .shutdown (.ofTemperature (some t)) (trippedOut t l s)) := by
  have hband : (s.updThu (Thu.read t)).thu.state = .trip := h
  have hlit' : (retarget (s.updThu (Thu.read t))).litLamp = some l := by
    have hrecords : (retarget (s.updThu (Thu.read t))).lampRecord = s.lampRecord := lampRecord_of_retained (by simp)
    exact litLamp_of_lit (by rw [hrecords, hlit]) (by rwa [hrecords])
  have hfault := raiseFault_stopped (s := trippedOut t l s) (by simpa [trippedOut] using hshow) .overheat
    (.ofTemperature (some t))
  have hchange : bandChanged s.thu.state t (s.updThu (Thu.read t)) =
      recordFault .overheat .shutdown (.ofTemperature (some t)) (trippedOut t l s) := by
    rw [bandChanged, hband, if_neg hstate, enterTrip, lampOff_of_lit _ hlit']
    exact hfault
  obtain ⟨hout, -⟩ := trippedOut_putOut t hlit hother
  rw [takeReading_eq, hchange]
  exact checkCooldown_of_uncooled (n := 0) (by simpa [syncFan_thu] using hout.cooldown) (cooled_zero _)

/-! ## The request -/

/-- A reading taken with the gate as it was, and its answer (R92). -/
theorem temperature_taken {l : List Area} {u : State} (ht : takes s) (hclamp : clampReading value = t)
    (htake : takeReading t s = u) (honly : onlyChanges l s u) (htgc : u.tgc = s.tgc)
    (hl : .linkOut ∈ l := by decide) (hshutter : .shutter ∉ l := by decide) (hpower : .power ∉ l := by decide) :
    ∃ r, r = okClamped (decide (t ≠ value)) (.temperature t u.thu.state u.thu.seeing u.thu.effective) ∧
      exec (.temperature value) s = .next (requestDone (.temperature value) (u, r)) ∧
      answered (.temperature value) r (requestDone (.temperature value) (u, r)) ∧
      onlyChanges l s (requestDone (.temperature value) (u, r)) := by
  subst hclamp htake
  obtain ⟨hexec, hanswer, -, honly'⟩ := requestDone_of_act (i := .temperature value) (act := reqTemperature value) ht
    rfl rfl honly (by rw [htgc]) (by rw [htgc]) rfl hl hshutter hpower
  exact ⟨_, rfl, hexec, hanswer, honly'⟩

end

/-- Settles O31: below HOT a reading moves ceilings and latch alone, HOT adds H4, TRIP puts the lamp out under H2. -/
theorem temperaturesDecideTheBand : Obligations.TemperaturesDecideTheBand := by
  unfold Obligations.TemperaturesDecideTheBand
  refine ⟨thermalBand_iff, fun s value t target ht hclamp hcool hcooldown hblind hnormal hwarm => ?_,
    fun s value ht hlow hhigh hcooldown hbelow => ?_,
    fun s value l ht hshow hvalue hstate hlit hother hphase => ?_⟩
  case refine_1 =>
    have hband := thermalBand_cool hcool
    have hlatch := read_latch_cool hcool s.thu
    obtain ⟨hlevel, hfade, -⟩ := retarget_keeps (s.updThu (Thu.read t))
    have hthu := retarget_thu (s.updThu (Thu.read t))
    rw [State.updThu_thu, targetFor_cool hcool hblind hnormal hwarm] at hthu
    have honly : onlyChanges [.thu, .fe, .dimmer, .watch, .linkOut] s (syncFan (retarget (s.updThu (Thu.read t)))) :=
      ((onlyChanges.refl s).updThu _).retarget.syncFan
    obtain ⟨r, hr, hexec, hanswer, honly⟩ := temperature_taken ht ((clampReading_eq value).trans hclamp.symm)
      (takeReading_cool hcool hcooldown) honly (by simp)
    simp only [syncFan_thu, hthu, Thu.read, hband] at hr hlatch
    refine ⟨_, hexec, ?_, ?_, ?_, ?_, ?_, ?_, ?_, ?_, ?_, ?_, hr ▸ hanswer, honly⟩
    all_goals simp [syncFan_thu, hthu, hlevel, hfade, hcooldown, Thu.read, hband, hlatch]
  case refine_2 =>
    obtain ⟨-, -, hhot, -⟩ := thermalBand_iff value
    have hband := hhot.2 ⟨hlow, hhigh⟩
    have hthu := retarget_thu (s.updThu (Thu.read value))
    have htarget : (Thu.read value s.thu).targetFor = 400 := by simp [Thu.targetFor, Thu.read, hband]
    rw [State.updThu_thu, htarget] at hthu
    have hread : onlyChanges [.thu, .fe, .dimmer, .watch] s (retarget (s.updThu (Thu.read value))) :=
      ((onlyChanges.refl s).updThu _).retarget
    have hchange : onlyChanges (.thu :: .fe :: .dimmer :: .watch :: faultReports) s
        (syncFan (recordFault .hot .degrade (.ofTemperature (some value)) (retarget (s.updThu (Thu.read value))))) :=
      (hread.mono.recordFault _ _ _).syncFan
    obtain ⟨r, -, hexec, -, honly⟩ := temperature_taken ht ((clampReading_eq value).trans (by omega))
      (takeReading_hot hband hcooldown hbelow) hchange (by simp)
    refine ⟨_, hexec, ?_, ?_, ?_, raised_requestDone (raised_syncFan (raised.recordFault_of_only hread)) _ _, honly⟩
    all_goals simp [syncFan_thu, hthu, Thu.read, hband]
  case refine_3 =>
    obtain ⟨-, -, -, htrip⟩ := thermalBand_iff (min value 150)
    have hband := htrip.2 (by omega)
    have hdark : (s.lampRecord (otherLamp l)).state ≠ .lit := by rcases hother with h | h <;> simp [h]
    have hread := only_trippedOut (min value 150) l s
    obtain ⟨hout, hdimmer⟩ := trippedOut_putOut (min value 150) hlit hdark
    obtain ⟨hstate', hreading, hlatch, htarget, heffective⟩ := trippedOut_thu l hband hstate
    have htake := takeReading_trip hband hstate hshow hlit hdark
    have htgc : (trippedOut (min value 150) l s).tgc = s.tgc := by simp [trippedOut]
    generalize trippedOut (min value 150) l s = w at *
    have hfan := fanCommand_of_trip
      (s := recordFault .overheat .shutdown (.ofTemperature (some (min value 150))) w) (by simpa using hstate')
    have hfault : onlyChanges (.thu :: .lampA :: .lampB :: .fe :: .dimmer :: .watch :: faultReports) s
        (syncFan (recordFault .overheat .shutdown (.ofTemperature (some (min value 150))) w)) :=
      (hread.mono.recordFault _ _ _).syncFan
    obtain ⟨r, -, hexec, -, honly⟩ := temperature_taken ht ((clampReading_eq value).trans (by omega)) htake hfault
      (by simpa using htgc)
    have hrecords : (requestDone (.temperature value) (syncFan
        (recordFault .overheat .shutdown (.ofTemperature (some (min value 150))) w), r)).lampRecord = w.lampRecord :=
      lampRecord_of_retained (by simp)
    refine ⟨_, hexec, ?_, ?_, ?_, ?_, ?_, ?_, ?_, by rw [hrecords, hout.record], by rw [hrecords, hout.other], ?_, ?_,
      ?_, raised_requestDone (raised_syncFan (raised.recordFault_of_only hread)) _ _, honly⟩
    all_goals simp [syncFan_thu, hstate', hreading, hlatch, htarget, heffective, hfan, hout.cooldown, hout.applied,
      hout.drive, hdimmer hphase]

end Sys2Proof.Proofs
end

section
/-! PROOFS. The timers of the heat: report windows, the slew, the tachometer and the fan's stall, the seconds of a
cool-down (R93, R94, R99, R101, R102, R104). -/

namespace Sys2Proof.Proofs

open Sys2Proof.Machine Sys2Proof.Safety

section

variable {s : State}

/-! ## Report windows (R93, R94) -/

/-- The Thermal Unit's record once a window end has been counted and the report status follows (R93, R94). -/
def Thu.windowClosed (u : Thu) : Thu := { u.countWindow with seeing := u.countWindow.statusAfter }

theorem windowClosed_eq {u : Thu} {miss good : Nat} {seeing : Bool}
    (hmiss : miss = if u.window then 0 else min (u.miss + 1) 2)
    (hgood : good = if u.window then min (u.good + 1) 2 else 0)
    (hseeing : seeing = if u.seeing then decide (miss ≠ 2) else decide (good = 2)) :
    Thu.windowClosed u = { u with window := false, miss := miss, good := good, seeing := seeing } := by
  subst hmiss hgood hseeing
  unfold Thu.windowClosed Thu.countWindow
  cases u.window <;> rfl

/-- The part once a window end has been counted and H1 raised, before ceilings and fan follow the report status. -/
def windowCounted (s : State) : State :=
  if s.thu.miss ≠ 2 ∧ (Thu.windowClosed s.thu).miss = 2 then
    recordFault .thermalBlind .degrade .empty (s.updThu Thu.windowClosed)
  else s.updThu Thu.windowClosed

theorem only_windowClosed (s : State) : onlyChanges [.thu] s (s.updThu Thu.windowClosed) :=
  (onlyChanges.refl s).updThu _

theorem only_windowCounted (s : State) : onlyChanges (.thu :: faultReports) s (windowCounted s) := by
  unfold windowCounted
  split
  · exact (only_windowClosed s).mono.recordFault _ _ _
  · exact (only_windowClosed s).mono

theorem windowCounted_frame (s : State) : (windowCounted s).thu = Thu.windowClosed s.thu ∧
    (windowCounted s).tgc = s.tgc ∧ (windowCounted s).fe = s.fe := by
  unfold windowCounted
  split <;> simp

/-- A window end that leaves the report status ends with its counts. -/
theorem windowEnded_of_same (h : (Thu.windowClosed s.thu).seeing = s.thu.seeing) :
    windowEnded s = windowCounted s := by
  obtain ⟨hthu, -, -⟩ := windowCounted_frame s
  unfold windowEnded
  simp only [raiseFault_degrade (show FaultCode.thermalBlind.severity = .degrade from rfl)]
  exact if_pos ((congrArg Thu.seeing hthu).trans h)

/-- With no cool-down active, ceilings and fan follow a new report status (R94, R98, R100). -/
theorem windowEnded_of_turn (h : (Thu.windowClosed s.thu).seeing ≠ s.thu.seeing) (hcooldown : s.thu.cooldown = none) :
    windowEnded s = syncFan (retarget (windowCounted s)) := by
  obtain ⟨hthu, -, -⟩ := windowCounted_frame s
  have hnone : (syncFan (retarget (windowCounted s))).thu.cooldown = none := by
    rw [syncFan_thu, retarget_thu, hthu]
    unfold Thu.windowClosed Thu.countWindow
    split <;> exact hcooldown
  unfold windowEnded
  simp only [raiseFault_degrade (show FaultCode.thermalBlind.severity = .degrade from rfl)]
  exact (if_neg fun hsame => h ((congrArg Thu.seeing hthu).symm.trans hsame)).trans (checkCooldown_of_none hnone)

/-- A BLIND part's target ceiling is 400 or less (R98). -/
theorem targetFor_blind {u : Thu} (h : u.seeing = false) : u.targetFor ≤ 400 := by
  unfold Thu.targetFor
  cases u.state <;> simp [h]

/-- What a window end leaves, whichever way the report status goes. -/
theorem windowEnded_keeps (hcooldown : s.thu.cooldown = none) :
    onlyChanges [.thu, .fe, .dimmer, .watch] (windowCounted s) (windowEnded s) ∧ (windowEnded s).tgc = s.tgc ∧
      (windowEnded s).fe.level = s.fe.level ∧
      (windowEnded s).thu = { Thu.windowClosed s.thu with
        target := (windowEnded s).thu.target, effective := (windowEnded s).thu.effective
        fan := (windowEnded s).thu.fan, monitor := (windowEnded s).thu.monitor } := by
  obtain ⟨hthu, htgc, hfe⟩ := windowCounted_frame s
  by_cases hsame : (Thu.windowClosed s.thu).seeing = s.thu.seeing
  · rw [windowEnded_of_same hsame, htgc, hfe, hthu]
    exact ⟨.refl _, rfl, rfl, rfl⟩
  · obtain ⟨hlevel, -, -⟩ := retarget_keeps (windowCounted s)
    rw [windowEnded_of_turn hsame hcooldown]
    refine ⟨(onlyChanges.refl _).retarget.syncFan, by simpa using htgc, by simpa [hfe] using hlevel, ?_⟩
    rw [syncFan_thu, retarget_thu, hthu]

/-! ## The fan's stall (R101, R102) -/

/-- The part once its fan has stalled and H3 stands, before the forced lamp-off (R101, R102). -/
def fanStopped (s : State) : State :=
  recordFault .fanStall .shutdown (.ofTemperature s.thu.reading) (s.updThu fun u => { u with monitor := .stalled })

theorem fanStalled_eq (hshow : s.shc.state = .stopped) : fanStalled s = (lampOff .forcedOff (fanStopped s)).1 := by
  have hfault := raiseFault_stopped (s := s.updThu fun u => { u with monitor := .stalled }) hshow .fanStall
    (.ofTemperature s.thu.reading)
  exact congrArg (fun u => (lampOff .forcedOff u).1) hfault

theorem only_fanStopped (s : State) : onlyChanges (.thu :: faultReports) s (fanStopped s) :=
  ((onlyChanges.refl s).updThu _).recordFault _ _ _

theorem fanStopped_raised (s : State) : raised .fanStall .shutdown (.ofTemperature s.thu.reading) s (fanStopped s) :=
  raised.recordFault rfl

@[simp] theorem fanStopped_frame (s : State) : (fanStopped s).thu = { s.thu with monitor := .stalled } ∧
    (fanStopped s).ltc = s.ltc ∧ (fanStopped s).tgc = s.tgc ∧ (fanStopped s).retained = s.retained := by
  simp [fanStopped]

/-! ## The expiries of a part that runs -/

theorem exec_windowEnd (hs : runs s) (ht : s.thu.timers = true) :
    exec .windowEnd s = .next (settle (windowEnded s)) := by
  rw [← show (if s.thu.timers then windowEnded s else s) = windowEnded s from if_pos ht]
  exact congrArg _ (whenRunning_of hs.1 _)

theorem exec_slewExpiry (hs : runs s) : exec .slewExpiry s = .next (settle (if s.thu.timers then slew s else s)) :=
  congrArg _ (whenRunning_of hs.1 _)

theorem exec_tachoPulse (hs : runs s) : exec .tachoPulse s = .next (settle
    (s.updThu fun u => { u with monitor := if u.monitor = .stalled then .watching else u.monitor })) :=
  congrArg _ (whenRunning_of hs.1 _)

theorem exec_fanStallTimerExpiry (hs : runs s) (hmonitor : s.thu.monitor = .watching) :
    exec .fanStallTimerExpiry s = .next (settle (fanStalled s)) := by
  rw [← show (if s.thu.monitor = .watching then fanStalled s else s) = fanStalled s from if_pos hmonitor]
  exact congrArg _ (whenRunning_of hs.1 _)

theorem exec_cooldownSecondExpiry {n : Nat} (hs : runs s) (h : s.thu.cooldown = some n) :
    exec .cooldownSecondExpiry s =
      .next (settle (checkCooldown (s.updThu fun u => { u with cooldown := some (bump16 n) }))) := by
  have hsecond : cooldownSecond s = checkCooldown (s.updThu fun u => { u with cooldown := some (bump16 n) }) := by
    rw [cooldownSecond, h]
  rw [← hsecond]
  exact congrArg _ (whenRunning_of hs.1 _)

end

/-- Settles O32: each timer of the heat counts, and what it decides moves ceilings, fan, lamp or cool-down. -/
theorem heatTimersAct : Obligations.HeatTimersAct := by
  unfold Obligations.HeatTimersAct
  refine ⟨fun s miss good seeing hs ht hcooldown hmiss hgood hseeing => ?_, fun s hs ht hbelow => ?_,
    fun s hs hfull => ?_, fun s hs hmonitor => ?_, fun s hs hmonitor => ?_,
    fun s hs hshow hmonitor hlit hphase => ?_, fun s l hs hshow hmonitor hlit hother hphase => ?_,
    fun s n hs hn hsee hblind => ?_, fun s n hs hmode hn hend hlit hstriking hstate => ?_⟩
  case refine_1 =>
    have hclosed := windowClosed_eq hmiss hgood hseeing
    obtain ⟨hrest, htgc, hlevel, hthu⟩ := windowEnded_keeps hcooldown
    have honly : onlyChanges (.thu :: .fe :: .dimmer :: .watch :: faultReports) s (windowEnded s) :=
      (only_windowCounted s).mono.trans hrest.mono
    rw [hclosed] at hthu
    refine ⟨_, exec_windowEnd hs ht, congrArg Thu.window hthu, congrArg Thu.miss hthu, congrArg Thu.good hthu,
      congrArg Thu.seeing hthu, (congrArg Thu.reading hthu :), (congrArg Thu.state hthu :), hlevel,
      fun hdark hlight => ?_, fun hsame => ?_, fun hfresh hsecond => ?_, fun hquiet => ?_, only_settled hs honly htgc⟩
    · have hturn : (Thu.windowClosed s.thu).seeing ≠ s.thu.seeing := by simp [hclosed, hdark, hlight]
      obtain ⟨hcounted, -, -⟩ := windowCounted_frame s
      have hceiling : (windowCounted s).thu.targetFor ≤ 400 := targetFor_blind (by simp [hcounted, hclosed, hdark])
      rw [windowEnded_of_turn hturn hcooldown]
      exact (congrArg Thu.effective (retarget_thu (windowCounted s))).trans_le ((min_le_right _ _).trans hceiling)
    · obtain ⟨hcounted, -, -⟩ := windowCounted_frame s
      rw [windowEnded_of_same (by simp [hclosed, hsame])]
      simp [hcounted, hclosed]
    · have hcounted : windowCounted s = recordFault .thermalBlind .degrade .empty (s.updThu Thu.windowClosed) :=
        if_pos ⟨hfresh, by simp [hclosed, hsecond]⟩
      have hraised : raised .thermalBlind .degrade .empty s (windowCounted s) := by
        rw [hcounted]
        exact raised.recordFault rfl
      exact (hraised.of_only hrest).settle
    · have hcounted : windowCounted s = s.updThu Thu.windowClosed :=
        if_neg fun h => hquiet.elim h.1 fun hne => hne (by simpa [hclosed] using h.2)
      rw [hcounted] at hrest
      exact only_settled hs ((only_windowClosed s).mono.trans hrest) htgc
  case refine_2 =>
    have hexec := exec_slewExpiry hs
    rw [if_pos ht, slew, if_pos hbelow] at hexec
    obtain ⟨hlevel, -⟩ := runStages_level (s.updThu fun u => { u with effective := min (u.effective + 10) u.target })
    have honly : onlyChanges [.thu, .fe, .dimmer, .watch] s
        (runStages (s.updThu fun u => { u with effective := min (u.effective + 10) u.target })) :=
      ((onlyChanges.refl s).updThu _).runStages
    exact ⟨_, hexec, by simp, hlevel, only_settled hs honly (by simp)⟩
  case refine_3 =>
    have hexec := exec_slewExpiry hs
    rwa [slew, if_neg (not_lt.2 hfull), ite_self, hs.2] at hexec
  case refine_4 =>
    exact ⟨_, exec_tachoPulse hs, by simp [hmonitor], only_settled hs ((onlyChanges.refl s).updThu _) rfl⟩
  case refine_5 =>
    have hexec := exec_tachoPulse hs
    simp only [State.updThu, if_neg hmonitor] at hexec
    exact hexec.trans (congrArg _ hs.2)
  case refine_6 =>
    have hexec := exec_fanStallTimerExpiry hs hmonitor
    rw [fanStalled_eq hshow, lampOff_of_rest _ (by simpa [State.litLamp] using hlit) (by simpa using hphase)] at hexec
    exact ⟨_, hexec, by simp, (fanStopped_raised s).settle, only_settled hs (only_fanStopped s) (by simp)⟩
  case refine_7 =>
    have hdark : (s.lampRecord (otherLamp l)).state ≠ .lit := by rcases hother with h | h <;> simp [h]
    have hrecords : (fanStopped s).lampRecord = s.lampRecord := lampRecord_of_retained (by simp)
    have hlit' : ((fanStopped s).lampRecord l).state = .lit := by rw [hrecords, hlit]
    have hdark' : ((fanStopped s).lampRecord (otherLamp l)).state ≠ .lit := by rwa [hrecords]
    have hexec := exec_fanStallTimerExpiry hs hmonitor
    rw [fanStalled_eq hshow, lampOff_of_lit _ (litLamp_of_lit hlit' hdark')] at hexec
    obtain ⟨hfan, hstalled⟩ := changeLamp_fan (new := .ready) .forcedOff hlit' (by decide)
    have hout := changeLamp_putOut .forcedOff (.inl hlit') (.inl rfl) hdark'
    have hoff : onlyChanges (.lampA :: .lampB :: .fe :: .dimmer :: .watch :: .thu :: reports) (fanStopped s)
        (changeLamp l .ready .forcedOff (fanStopped s)) := (onlyChanges.refl _).changeLamp _ _ _
    have honly : onlyChanges (.thu :: .lampA :: .lampB :: .fe :: .dimmer :: .watch :: faultReports) s
        (changeLamp l .ready .forcedOff (fanStopped s)) := (only_fanStopped s).mono.trans hoff.mono
    refine ⟨_, hexec, hstalled (by simp), hout.cooldown, hfan, ?_, ((fanStopped_raised s).of_only hoff).settle,
      only_settled hs honly (by simp)⟩
    rw [settle_lampRecord, hout.record, hrecords]
  case refine_8 =>
    have hgoing : (s.updThu fun u => { u with cooldown := some (bump16 n) }).thu.cooled (bump16 n) = false := by
      rw [← Bool.not_eq_true, cooled_iff]
      rintro (⟨hseeing, hlong, t, hreading, hcold⟩ | ⟨hseeing, hlong⟩)
      · rcases hsee hseeing with hshort | hwarm
        · simp only [bump16] at hlong
          omega
        · exact absurd hcold (not_le.2 (hwarm t hreading))
      · have hshort := hblind hseeing
        simp only [bump16] at hlong
        omega
    have hexec := exec_cooldownSecondExpiry hs hn
    rw [checkCooldown_of_uncooled rfl hgoing] at hexec
    exact ⟨_, hexec, rfl, only_settled hs ((onlyChanges.refl s).updThu _) rfl⟩
  case refine_9 =>
    have hover : (s.updThu fun u => { u with cooldown := some (bump16 n) }).thu.cooled (bump16 n) = true := by
      rw [cooled_iff]
      simp only [bump16]
      exact hend.imp (fun ⟨hseeing, hlong, hcold⟩ => ⟨hseeing, by omega, hcold⟩)
        fun ⟨hseeing, hlong⟩ => ⟨hseeing, by omega⟩
    have hexec := exec_cooldownSecondExpiry hs hn
    rw [checkCooldown_of_cooled rfl hover hmode] at hexec
    have honly : onlyChanges (.thu :: reports) s
        (cooldownOver (bump16 n) (s.updThu fun u => { u with cooldown := some (bump16 n) })) :=
      ((onlyChanges.refl s).updThu _).trans (only_cooldownOver _ _)
    refine ⟨_, hexec, by simp [syncFan_thu], by simp, fun hblind => ?_, only_settled hs honly.syncFan (by simp)⟩
    refine syncFan_of_blind ?_ (by simpa using hstate) (by simpa using hblind)
    simpa [State.lampDuty, State.litLamp, State.strikingLamp] using And.intro hlit hstriking

end Sys2Proof.Proofs
end
